-- ==== Sys2Proof/Word.lean ====
section
/-! DEFINITION. The word types of the GJ2416: what the spec itself treats as bits. -/

namespace Sys2Proof

/-- One character's data bits on the rig link (R185), and one byte of a payload (R197). -/
abbrev Byte := BitVec 8

/-- One sample of trace memory: 16 bits with no meaning of their own (section 3.1, R48). -/
abbrev Sample := BitVec 16

/-- A 32-bit slot mask, slot k in bit k (section 11.4). -/
abbrev SlotMask := BitVec 32

/-- A 16-bit channel mask, channel n in bit n (R66, R83). -/
abbrev ChannelMask := BitVec 16

end Sys2Proof
end

