-- ==== Sys2Proof/Syntax.lean ====
section
/-! DEFINITION. The commands of the GJ2416: one constructor per row of spec/opcode_table.json.

The first 35 rows are the requests of the rig link, with the fields of section 11.4 as they are sent (numbers
not yet checked against their ranges, so that every refusal of R190 can be stated). The other rows are the events of
the link, the pins, the run and the timers. -/

namespace Sys2Proof

/-- A line whose level changes are offered to the Pin Matrix (R21, R89). -/
inductive LineSource where
  | crank
  | cam (c : Fin 2)
  | channel (n : Fin 16)
  deriving DecidableEq, Repr

/-- One thing that is done inside a step and whose place among the others the spec leaves open ("either may be taken
first": R29, R38, R41, R63, R99, R117, R134, R149, R180, R183). A command that holds several takes a list of them: those
named go first, in the order named (log entry 3). -/
inductive WorkItem where
  /-- The pulse events of this run microsecond's sweep (R182). -/
  | pulses
  /-- Offer a level change of this run microsecond to the Pin Matrix (R146). -/
  | change (src : LineSource)
  /-- Raise CHANNEL for a channel that took a segment or entered STARVED, as its cause select has it (R66). -/
  | channelNotice (ch : Fin 16)
  /-- Raise GUARD for a channel outside its guard (R83). -/
  | guardNotice (ch : Fin 16)
  /-- The profile is found empty at run microsecond 1: it becomes drained, with SPEED and the drained test (R10, R43). -/
  | speedDrain
  /-- Hand on a channel's GUARD end cause (R84). -/
  | guardTrip (ch : Fin 16)
  /-- Hand on a channel's entry into STARVED: UNDERRUN, then the drained test (R61). -/
  | underrun (ch : Fin 16)
  /-- The trigger of one slot (R120). -/
  | slot (k : Fin 32)
  /-- The delivery of an edge to the Run Controller (R99). -/
  | runControl
  /-- The hand-over of a release whose width has elapsed (R128). -/
  | release
  /-- The end of the active speed point (R6). -/
  | pointEnd
  /-- The end of a channel's sample slot (R57). -/
  | sampleEnd (ch : Fin 16)
  /-- The end of a pulse channel's half (R87). -/
  | halfEnd (ch : Fin 16)
  /-- The elapse of a slot's delay (R122). -/
  | delayEnd (k : Fin 32)
  /-- The elapse of a slot's width (R128). -/
  | widthEnd (k : Fin 32)
  /-- No work of its own: the SEGMENT-FLUSH of this channel that waits in the queue of commands comes before the channel's take of
  this run microsecond (R63). -/
  | flush (ch : Fin 16)
  /-- RUN_MICROSECOND goes no further for now: what is left of the microsecond's work waits, so that other commands are taken
  before it (log entry 3). -/
  | pause
  deriving DecidableEq, Repr

/-- A character received with its mark bit and stop bit as its command says: its eight data bits, and whether the start bit of
the character after it comes within 20 µs of its stop bit (R185, R187, log entry 7). -/
structure RxChar where
  data : Byte
  follows : Bool
  deriving DecidableEq, Repr

/-- One point of a SPEED-PUSH: target 3, ramp 3, hold 3 bytes (section 11.4). -/
structure RawPoint where
  target : Nat
  ramp : Nat
  hold : Nat
  deriving DecidableEq, Repr

/-- One edge of a CAM-SET: angle 3, level 1 bytes. -/
structure RawEdge where
  angle : Nat
  level : Nat
  deriving DecidableEq, Repr

/-- One release of a RUN-CONFIG: enable, input, edge. -/
structure RawRelease where
  enable : Nat
  input : Nat
  edge : Nat
  deriving DecidableEq, Repr

/-- The 19 payload bytes of RUN-CONFIG, field by field. -/
structure RawRunConfig where
  startMode : Nat
  startInput : Nat
  startEdge : Nat
  startAngle : Nat
  startSpeed : Nat
  options : Nat
  line : RawRelease
  capture : RawRelease
  timeoutEnable : Nat
  timeout : Nat
  deriving DecidableEq, Repr

/-- The ten payload bytes of WHEEL-SET. -/
structure RawWheel where
  teeth : Nat
  offset : Nat
  duty : Nat
  gapCount : Nat
  first0 : Nat
  count0 : Nat
  first1 : Nat
  count1 : Nat
  deriving DecidableEq, Repr

/-- The 12 payload bytes of CHANNEL-CONFIG. -/
structure RawChannelConfig where
  channel : Nat
  enable : Nat
  mode : Nat
  rest : Nat
  reference : Nat
  gmin : Nat
  gmax : Nat
  guardMode : Nat
  cause : Nat
  deriving DecidableEq, Repr

/-- The 14 payload bytes of WINDOW-SET. -/
structure RawWindow where
  channel : Nat
  window : Nat
  enable : Nat
  start : Nat
  stop : Nat
  base : Nat
  pitch : Nat
  deriving DecidableEq, Repr

/-- The 9 payload bytes of SEGMENT-PUSH. -/
structure RawSegment where
  channel : Nat
  base : Nat
  length : Nat
  period : Nat
  rep : Nat
  deriving DecidableEq, Repr

/-- The four payload bytes of CAPTURE-CONFIG and LINE-CONFIG. -/
structure RawInputConfig where
  input : Nat
  enable : Nat
  interval : Nat
  edge : Nat
  deriving DecidableEq, Repr

/-- The 23-byte fault-slot record (R201). `params` is bytes 8..13 as one number, byte 8 lowest. -/
structure RawRecord where
  action : Nat
  target : Nat
  partner : Nat
  value : Int
  trigger : Nat
  params : Nat
  measure : Nat
  delay : Nat
  width : Nat
  rep : Nat
  flags : Nat
  deriving DecidableEq, Repr

/-- The commands. The docstring of each row is the rule the table names for it. -/
inductive Instr where
  /-- R194. -/
  | identify
  /-- R195. -/
  | status (clear : Nat)
  /-- R196. -/
  | unitReset
  /-- R26. -/
  | runConfig (c : RawRunConfig)
  /-- R28. -/
  | start
  /-- R31. -/
  | hold
  /-- R34. -/
  | resume
  /-- R40. -/
  | endRun
  /-- R45. -/
  | clear
  /-- R12. -/
  | wheelSet (w : RawWheel)
  /-- R15. -/
  | camSet (cam : Nat) (count : Nat) (edges : List RawEdge)
  /-- R8. -/
  | speedPush (count : Nat) (points : List RawPoint)
  /-- R9. -/
  | speedFlush (alsoActive : Nat)
  /-- R48. -/
  | traceWrite (address : Nat) (count : Nat) (samples : List Sample)
  /-- R49. -/
  | traceRead (address : Nat) (count : Nat)
  /-- R74. -/
  | channelConfig (c : RawChannelConfig)
  /-- R68. -/
  | windowSet (w : RawWindow)
  /-- R64. -/
  | segmentPush (g : RawSegment)
  /-- R62. -/
  | segmentFlush (channel : Nat) (abort : Nat)
  /-- R91. -/
  | channelRead (channel : Nat)
  /-- R54. -/
  | channelSet (channel : Nat) (code : Nat)
  /-- R94. -/
  | captureConfig (c : RawInputConfig)
  /-- R94. -/
  | lineConfig (c : RawInputConfig)
  /-- R106. -/
  | captureRead (count : Nat)
  /-- R140: one source code for each of P0..P23. -/
  | pinMap (codes : List Nat)
  /-- R114. -/
  | faultLoad (slot : Nat) (r : RawRecord)
  /-- R118. -/
  | faultArm (mask : SlotMask)
  /-- R131. -/
  | faultCancel (mask : SlotMask)
  /-- R136. -/
  | faultQuery (slot : Nat)
  /-- R138. -/
  | targetQuery
  /-- R165. -/
  | supplyConfig (mode : Nat)
  /-- R164. -/
  | supplySet (battery : Nat) (ignition : Nat) (driver : Nat)
  /-- R178: one enable flag per kind in the order of R179, and the fill threshold. -/
  | noticeConfig (enables : List Nat) (threshold : Nat)
  /-- R179. -/
  | noticeRead
  /-- R183. -/
  | triggerRoute (line : Nat) (source : Nat) (param : Nat)
  /-- R188: the data characters that complete the frame in progress. -/
  | frameReceived (chars : List RxChar)
  /-- R187. -/
  | brokenCharacter
  /-- R187. -/
  | characterGapTimeout
  /-- R190. -/
  | replyStart
  /-- R189. -/
  | replyEnd
  /-- R193: the release of reset, with the address straps as they stand. -/
  | coldReset (straps : BitVec 3)
  /-- R196. -/
  | warmReset
  /-- R193. -/
  | initIntervalEnd
  /-- R23: the work of a run microsecond in this order, or what is left of it after a pause. -/
  | runMicrosecond (order : List WorkItem)
  /-- R6. -/
  | speedPointEnd
  /-- R57. -/
  | sampleSlotEnd (ch : Fin 16)
  /-- R108. -/
  | runClockWrap
  /-- R122. -/
  | delayElapse (k : Fin 32)
  /-- R128. -/
  | widthElapse (k : Fin 32) (order : List WorkItem)
  /-- R36. -/
  | holdTimeout
  /-- R95: the input (capture 0..7, then trigger inputs as 8 and 9) and the level standing on its line. -/
  | inputSample (input : Fin 10) (line : Bool) (order : List WorkItem)
  /-- R87. -/
  | halfPeriodEnd (ch : Fin 16)
  /-- R147. -/
  | alignmentTimeout (pin : Fin 24)
  /-- R152. -/
  | relayGrant
  /-- R153. -/
  | relayApplyComplete
  /-- R154. -/
  | relayReleaseComplete
  /-- R150. -/
  | relayRecoveryEnd
  /-- R168. -/
  | feedStage
  /-- R162. -/
  | ignitionWaitEnd
  /-- R163. -/
  | wakeWaitEnd
  /-- R166: the new level of the CONN_SENSE pin. -/
  | connSenseChange (high : Bool)
  /-- R167. -/
  | connectionAccepted
  /-- R182. -/
  | pulseTimerEnd (line : Fin 4)
  /-- R187: the eight data bits of an address character. -/
  | addressCharacterReceived (data : RxChar)
  /-- R188: the eight data bits of a length character. -/
  | lengthCharacterReceived (data : RxChar)
  deriving DecidableEq, Repr

end Sys2Proof
end

