-- ==== Sys2Proof/Decode.lean ====
section
/-! DEFINITION. The command a table word spells. spec/opcode_table.json gives no row any bits ("fields" is empty for
every row and no row has "fixed"), so no word spells a command. How a request's payload bytes are read is R197, R198
and R201: Sys2Proof/Machine/Operands.lean and Machine/Link.lean. -/

namespace Sys2Proof

/-- The command that a word spells by the table's bits: none, since no row of the table gives bits. -/
def decodeTableWord (_nbits _w : Nat) : Option Instr := none

end Sys2Proof
end

