-- ==== Sys2Proof/Config.lean ====
section
/-! DEFINITION. The fixed capacities and durations of the part, each with the rule that states it, and the
free value of the model: a constant with no body, which no proof can evaluate. -/

namespace Sys2Proof.Config

/-- Grains in one centidegree (Conventions; R1). -/
def grainsPerCentidegree : Nat := 80000
/-- Grains in one engine cycle (R1). -/
def cycleGrains : Nat := 5760000000
/-- Centidegrees in one engine cycle. -/
def cycleAngle : Nat := 72000
/-- Centidegrees in one crankshaft revolution. -/
def crankAngle : Nat := 36000
/-- The cycle count is kept modulo this (R1). -/
def cycleCountModulus : Nat := 65536
/-- The largest speed, in sixteenths of an rpm (R5). -/
def maxSpeed : Nat := 192000
/-- The largest ramp or hold of a speed point, and the largest delay or width (R5, R112). -/
def max24 : Nat := 16777215
/-- Capacity of the speed-point queue (R5). -/
def speedQueue : Nat := 16
/-- The run clock is a 40-bit count (R24). -/
def clockModulus : Nat := 2 ^ 40
/-- Samples of trace memory (R48). -/
def traceSize : Nat := 1048576
/-- Samples a TRACE-WRITE or TRACE-READ may carry (R48, R49). -/
def traceBurst : Nat := 120
/-- Capacity of a channel's segment queue (R55). -/
def segmentQueue : Nat := 8
/-- Capacity of the capture log (R103). -/
def captureLog : Nat := 512
/-- Relay settle time, in microseconds of uptime (R150). -/
def relaySettle : Nat := 5000
/-- Timeout of an alignment wait (R147). -/
def alignTimeout : Nat := 20000
/-- Battery-first wait of the ignition feed (R162). -/
def ignitionWait : Nat := 50000
/-- Wake wait of the drivers (R163). -/
def wakeWait : Nat := 100000
/-- Debounce of a connection (R166). -/
def debounce : Nat := 40000
/-- From the driver stage to the feed stage of a disconnect shutdown (R168). -/
def feedStageDelay : Nat := 1000
/-- Initialization interval of the port after a cold reset (R193). -/
def coldInit : Nat := 20000
/-- Initialization interval of the port after a warm reset (R193). -/
def warmInit : Nat := 2000
/-- A pulse lasts from its event e through e + 9 (R182). -/
def pulseTail : Nat := 9
/-- The gap between the characters of a frame must not pass this (R187). -/
def characterGap : Nat := 20
/-- A character takes 2.2 µs (R185): one that begins within the gap has been received by this microsecond after the last. -/
def nextCharacter : Nat := 23
/-- A reply begins within this many microseconds (R190). -/
def replyWithin : Nat := 100
/-- Largest frame length (R186). -/
def maxLength : Nat := 250
/-- Error counts stay at this value (R192). -/
def maxCount : Nat := 65535
/-- Largest crank or cam shift in either direction (R18). -/
def maxShift : Nat := 3600

/-- FREE VALUE (log entry 10): a reply byte the spec does not state. A CHANNEL-READ, FAULT-QUERY or SEGMENT-PUSH refused
because it names a channel or slot that does not exist has its full layout (R199), whose state fields then have
nothing to report. The arguments are the request kind and the byte's place in the reply. -/
opaque unstatedByte (kind : Nat) (place : Nat) : Byte

end Sys2Proof.Config
end

