-- ==== Sys2Proof/Machine/State.lean ====
section
/-! DEFINITION. The state of one GJ2416 as plain data, block by block, and its value after a cold reset. A line level
is a Bool, true for HIGH. -/

namespace Sys2Proof.Machine

/-! ### Names and codes (section 11.5) -/

/-- Run states (section 2.1). -/
inductive RunState where
  | idle | armed | running | held | ended
  deriving DecidableEq, Repr

/-- End reasons (R25). -/
inductive EndReason where
  | none | endRequest | drained | underrun | guardTrip | disconnect | faultEnd
  deriving DecidableEq, Repr

/-- An edge select: RISE, FALL or BOTH (R26, R93). -/
inductive EdgeSel where
  | rise | fall | both
  deriving DecidableEq, Repr

/-- The direction of an accepted edge (R96). -/
inductive Edge where
  | rise | fall
  deriving DecidableEq, Repr

/-- Start modes (R26). -/
inductive StartMode where
  | immediate | line
  deriving DecidableEq, Repr

/-- Kinds of the last release record (R37). -/
inductive ReleaseKind where
  | none | released | skipped
  deriving DecidableEq, Repr

/-- Release events (R37). -/
inductive ReleaseEvent where
  | resume | line | capture | timeout
  deriving DecidableEq, Repr

/-- Source modes (R51). -/
inductive SourceMode where
  | const | stream | angleMap
  deriving DecidableEq, Repr

/-- Channel source states (R52). -/
inductive SourceState where
  | stopped | playing | starved
  deriving DecidableEq, Repr

/-- Analog references (R74). -/
inductive Reference where
  | internal | ratio
  deriving DecidableEq, Repr

/-- Guard modes (R74). -/
inductive GuardMode where
  | clamp | strict
  deriving DecidableEq, Repr

/-- Notice cause selects (R66). -/
inductive CauseSel where
  | taken | starved
  deriving DecidableEq, Repr

/-- Slot states (R111). -/
inductive SlotState where
  | empty | loaded | armed | waiting | aligning | pending | active | releasing | done
  deriving DecidableEq, Repr

/-- Where a slot goes when its release is done (R111). -/
inductive ReleaseEnd where
  | rep | load
  deriving DecidableEq, Repr

/-- Slot outcomes (R135). -/
inductive SlotOutcome where
  | none | applied | conflict | cancelled | runEnded | late | alignTimeout
  deriving DecidableEq, Repr

/-- Measures of a delay or width (R112). -/
inductive Measure where
  | time | angle
  deriving DecidableEq, Repr

/-- Driver states (R163); WAKE_WAIT holds the microsecond its wake timer was started. -/
inductive DriverState where
  | off | wakeWait (since : Nat) | on
  deriving DecidableEq, Repr

/-- Connect-sense states (R166); DEBOUNCING holds the microsecond it began. -/
inductive ConnState where
  | disconnected | debouncing (since : Nat) | connected
  deriving DecidableEq, Repr

/-- Supply modes (R165). -/
inductive SupplyMode where
  | manual | auto
  deriving DecidableEq, Repr

/-- The pending stage of a disconnect shutdown (R168); the feed stage holds its due microsecond. -/
inductive Shutdown where
  | none | driver | feed (due : Nat)
  deriving DecidableEq, Repr

/-- Notice kinds, in the order of R179. -/
inductive NoticeKind where
  | run | channel | guardTrip | speed | captureFill | captureOverflow | fault | supply
  deriving DecidableEq, Repr

/-! ### Run Controller -/

/-- One enabled or disabled edge release of the run configuration (R26); a disabled one stores 0 in its fields. -/
structure EdgeRelease (n : Nat) where
  enable : Bool
  input : Fin n
  edge : EdgeSel
  deriving DecidableEq, Repr

/-- The run configuration (R26). -/
structure RunConfig where
  startMode : StartMode
  startInput : Fin 2
  startEdge : EdgeSel
  startAngle : Nat
  startSpeed : Nat
  endOnDrain : Bool
  stopOnUnderrun : Bool
  line : EdgeRelease 2
  capture : EdgeRelease 8
  timeoutEnable : Bool
  timeout : Nat
  deriving DecidableEq, Repr

/-- A set of release events (R37). -/
structure EventSet where
  resume : Bool
  line : Bool
  capture : Bool
  timeout : Bool
  deriving DecidableEq, Repr

/-- The three pending release flags (R33). -/
structure PendingFlags where
  resume : Bool
  line : Bool
  capture : Bool
  deriving DecidableEq, Repr

/-- The last release record (R37). -/
structure LastRelease where
  kind : ReleaseKind
  events : EventSet
  clock : Nat
  deriving DecidableEq, Repr

/-- The Run Controller. `begun`, `inMicro`, `wrapDue` and `work` are the model's own (log entries 2 and 3): run
microsecond 1 of this run has been done; the present microsecond is a run microsecond (R23); the run clock has wrapped
in this microsecond and the capture log has not yet answered it (R108); what is still to be taken of the present run
microsecond's work. -/
structure Run where
  state : RunState
  endReason : EndReason
  clock : Nat
  config : RunConfig
  flags : PendingFlags
  last : LastRelease
  /-- The hold timer: the uptime microsecond at which it expires, or stopped (R36). -/
  holdTimer : Option Nat
  begun : Bool
  inMicro : Bool
  wrapDue : Bool
  work : List WorkItem
  deriving DecidableEq, Repr

/-! ### Rotation Generator -/

/-- A speed point (R5): target S1, ramp N, hold H. -/
structure SpeedPoint where
  target : Nat
  ramp : Nat
  hold : Nat
  deriving DecidableEq, Repr

/-- The active point with its starting speed S0 and its progress k (R5). -/
structure ActivePoint where
  point : SpeedPoint
  s0 : Nat
  k : Nat
  deriving DecidableEq, Repr

/-- A gap of the wheel: first tooth and count (R12). -/
structure Gap where
  first : Nat
  count : Nat
  deriving DecidableEq, Repr

/-- The crank wheel pattern (R12); T = 0 is the cleared pattern, stored with every other field 0. -/
structure Wheel where
  teeth : Nat
  offset : Nat
  duty : Nat
  gaps : List Gap
  deriving DecidableEq, Repr

/-- One edge of a cam list (R15). -/
structure CamEdge where
  angle : Nat
  level : Bool
  deriving DecidableEq, Repr

/-- A modifier of the crank line (R18, R19). -/
inductive CrankMod where
  | toothDrop (index : Nat)
  | shift (s : Int)
  deriving DecidableEq, Repr

/-- A modifier of a cam line (R18, R20). -/
inductive CamMod where
  | hold (level : Bool)
  | shift (s : Int)
  deriving DecidableEq, Repr

/-- The Rotation Generator. `prevTheta` is θ of the run microsecond before the last one, from which the sweep is
formed (R3); `cycleEvent` is the cycle event of the last run microsecond (R4). -/
structure Rotation where
  acc : Nat
  cycle : Nat
  speed : Nat
  queue : List SpeedPoint
  active : Option ActivePoint
  drained : Bool
  prevTheta : Nat
  cycleEvent : Bool
  wheel : Wheel
  cams : Vector (List CamEdge) 2
  crankMod : Option CrankMod
  camMods : Vector (Option CamMod) 2
  crankLine : Bool
  camLines : Vector Bool 2
  deriving DecidableEq, Repr

/-! ### Channels: sources and outputs -/

/-- One angle window (R68). -/
structure Window where
  enable : Bool
  start : Nat
  stop : Nat
  base : Nat
  pitch : Nat
  deriving DecidableEq, Repr

/-- One segment (R55); repeat 0 is LOOP. -/
structure Segment where
  base : Nat
  length : Nat
  period : Nat
  rep : Nat
  deriving DecidableEq, Repr

/-- What the next run microsecond begins on an active segment: it goes on with its slot, or begins the next slot, or the
next pass (R57, R58). -/
inductive Ahead where
  | slot | nextSlot | nextPass
  deriving DecidableEq, Repr

/-- The active segment and its progress (R55): pass p, sample index j, microseconds played in the slot, the sample held
in the slot. -/
structure ActiveSeg where
  seg : Segment
  pass : Nat
  index : Nat
  played : Nat
  sample : Nat
  ahead : Ahead
  deriving DecidableEq, Repr

/-- A modifier of a channel (R78): FREEZE with its frozen value, FORCE with its value, OFFSET with its δ. -/
inductive ChanMod where
  | freeze (v : Nat)
  | force (v : Nat)
  | offset (d : Int)
  deriving DecidableEq, Repr

/-- The half in progress on a pulse channel (R87): its half-period, and the microsecond it began. -/
structure Half where
  period : Nat
  since : Nat
  deriving DecidableEq, Repr

/-- One stimulus channel: its configuration (R74), its source side (R51 to R70) and its output record (R77).
`pinEnable` and `pinRef` are the enable and reference in force at the pin, which follow a CHANNEL-CONFIG from the
next microsecond (R75). `source` is the source value last produced. -/
structure Channel where
  enable : Bool
  mode : SourceMode
  restCode : Nat
  restLevel : Bool
  reference : Reference
  gmin : Nat
  gmax : Nat
  guardMode : GuardMode
  cause : CauseSel
  constCode : Nat
  windows : Vector Window 4
  queue : List Segment
  active : Option ActiveSeg
  state : SourceState
  held : Option Nat
  source : Nat
  output : Nat
  clamped : Bool
  modifier : Option ChanMod
  line : Bool
  half : Option Half
  pinEnable : Bool
  pinRef : Reference
  deriving DecidableEq, Repr

/-! ### Capture Unit -/

/-- One of the ten inputs (R93). `level` none is NONE. `acquire` is set while the next sample is an acquiring sample (R95).
`wire` is the level standing on the input's line, as the last INPUT_SAMPLE gave it (the model's own, log entry 6). -/
structure Input where
  enable : Bool
  interval : Nat
  edge : EdgeSel
  level : Option Bool
  agree : Nat
  phase : Option Nat
  acquire : Bool
  wire : Bool
  deriving DecidableEq, Repr

/-- A capture record (R102). -/
structure CaptureRecord where
  input : Fin 8
  edge : Edge
  clock : Nat
  theta : Nat
  cycle : Nat
  held : Bool
  replaced : Bool
  deriving DecidableEq, Repr

/-- The Capture Unit: inputs 0..7 are the capture inputs, 8 and 9 the trigger inputs (section 11.4). -/
structure Capture where
  inputs : Vector Input 10
  log : List CaptureRecord
  deriving DecidableEq, Repr

/-! ### Fault Scheduler -/

/-- A fault action with its target, its partner and its value (R112, R113). -/
inductive Action where
  | openPin (p : Fin 24)
  | shortGnd (p : Fin 24)
  | shortSupply (p : Fin 24)
  | bridge (p : Fin 24) (q : Fin 24)
  | freeze (ch : Fin 16)
  | force (ch : Fin 16) (v : Nat)
  | offset (ch : Fin 16) (d : Int)
  | toothDrop (index : Nat)
  | crankShift (s : Int)
  | camHold (c : Fin 2)
  | camShift (c : Fin 2) (s : Int)
  | battDrop
  | ignDrop
  | holdRun
  | endRun
  deriving DecidableEq, Repr

/-- A trigger (R112); an ANGLE trigger with cycle none is for ANY cycle. -/
inductive Trigger where
  | atStart
  | angle (x : Nat) (cycle : Option Nat)
  | capture (input : Fin 8) (edge : EdgeSel) (m : Nat)
  | line (input : Fin 2) (edge : EdgeSel)
  | time (v : Nat)
  | afterSlot (j : Fin 32)
  deriving DecidableEq, Repr

/-- A fault record (R112). -/
structure FaultRecord where
  action : Action
  trigger : Trigger
  measure : Measure
  delay : Nat
  width : Nat
  rep : Nat
  aligned : Bool
  deriving DecidableEq, Repr

/-- Remaining repetitions (R111). -/
inductive Reps where
  | finite (n : Nat)
  | endless
  deriving DecidableEq, Repr

/-- One fault slot (R111). `since` is the uptime microsecond in which it last entered ARMED (R119; the model's own). -/
structure Slot where
  state : SlotState
  record : Option FaultRecord
  staged : Option FaultRecord
  remaining : Reps
  occurrences : Nat
  progress : Nat
  late : Bool
  releaseEnd : ReleaseEnd
  outcome : SlotOutcome
  since : Nat
  deriving DecidableEq, Repr

/-- The Fault Scheduler: the 32 slots and the target-holder table over the 45 targets of R116. -/
structure Faults where
  slots : Vector Slot 32
  holders : Vector (Option (Fin 32)) 45
  deriving DecidableEq, Repr

/-! ### Pin Matrix -/

/-- A pin's source (R140). -/
inductive PinSource where
  | line (src : LineSource)
  | tap (k : Fin 8)
  | unused
  deriving DecidableEq, Repr

/-- A pin's path (R142). -/
inductive Path where
  | normal | openPath | shortGnd | shortSupply | bridge (partner : Fin 24)
  deriving DecidableEq, Repr

/-- The path of a relay transition (R150). -/
inductive RelayPath where
  | supply (p : Fin 24)
  | bridge (p : Fin 24) (q : Fin 24)
  deriving DecidableEq, Repr

/-- The kind of a relay transition (R150). -/
inductive RelayKind where
  | apply | release
  deriving DecidableEq, Repr

/-- An entry of the relay wait list, with the microsecond in which it was handed over (R151). -/
structure RelayEntry where
  slot : Fin 32
  kind : RelayKind
  path : RelayPath
  since : Nat
  deriving DecidableEq, Repr

/-- The relay drive (R150); BUSY holds the transition in flight and the microsecond of its grant, RECOVERING the
microsecond at which its interval ends. -/
inductive Drive where
  | free
  | busy (entry : RelayEntry) (granted : Nat)
  | recovering (ends : Nat)
  deriving DecidableEq, Repr

/-- An alignment wait (R145): its slot, the path it will set, the source it watches, the microsecond of the apply. -/
structure AlignWait where
  slot : Fin 32
  ground : Bool
  source : PinSource
  since : Nat
  deriving DecidableEq, Repr

/-- The Pin Matrix. `routed` is the map as the switches stand in this microsecond: it follows `map` from the
microsecond after a PIN-MAP (R140). `completed` is the microsecond of the last completion of a relay transition (R158). -/
structure PinMatrix where
  map : Vector PinSource 24
  routed : Vector PinSource 24
  paths : Vector Path 24
  waits : Vector (Option AlignWait) 24
  drive : Drive
  waitList : List RelayEntry
  completed : Option Nat
  deriving DecidableEq, Repr

/-! ### Supply Sequencer -/

/-- The Supply Sequencer (R161 to R168). `connPin` is the level at the CONN_SENSE pin, low when connected. `sensed` says
that the reading of this microsecond has been made (R166), or that this is the microsecond of a cold reset, which has none
(R174). -/
structure Supply where
  mode : SupplyMode
  battCmd : Bool
  ignCmd : Bool
  drvReq : Bool
  battAct : Bool
  ignAct : Bool
  battDrop : Bool
  ignDrop : Bool
  waitStart : Option Nat
  waitDone : Bool
  driver : DriverState
  conn : ConnState
  connPin : Bool
  sensed : Bool
  shutdown : Shutdown
  deriving DecidableEq, Repr

/-! ### Notice Unit -/

/-- The route of a trigger output (R181, R182); a CAPTURE_MIRROR names capture input 0..7 or trigger input as 8, 9. -/
inductive Route where
  | off
  | runLevel
  | holdLevel
  | startPulse
  | angleMark (x : Nat)
  | cyclePulse
  | slotActive (k : Fin 32)
  | captureMirror (input : Fin 10)
  deriving DecidableEq, Repr

/-- The Notice Unit (R175 to R183): the pending flags and the enables as sets in the numbering of section 11.5 (RUN bit
0 .. SUPPLY bit 7), the data of the kinds that carry any, the fill threshold, the routes and the pulse timers (a
timer holds the last microsecond of its pulse). -/
structure Notices where
  pending : BitVec 8
  enables : BitVec 8
  runState : RunState
  runReason : EndReason
  channelMask : ChannelMask
  guardMask : ChannelMask
  faultMask : SlotMask
  threshold : Nat
  routes : Vector Route 4
  timers : Vector (Option Nat) 4
  deriving DecidableEq, Repr

/-! ### Link Port -/

/-- The receiver (R187): in its initialization interval until a microsecond, HUNTING, or RECEIVING a frame addressed to
this unit or broadcast, with the data characters taken so far and the microsecond in which the gap after the last
character passes 20 µs, unless another character is received before. -/
inductive Receiver where
  | initializing (ends : Nat)
  | hunting
  | receiving (broadcast : Bool) (data : List Byte) (gap : Nat)
  deriving DecidableEq, Repr

/-- How far the reply of the request in work has gone (R189, R190): not begun, being sent since a microsecond, or sent in
full (a UNIT-RESET stays in work until the warm reset, R196). -/
inductive ReplyPhase where
  | formed
  | sending (since : Nat)
  | sent
  deriving DecidableEq, Repr

/-- The request in work (R189): its reply kind and payload (the status first), whether it is a UNIT-RESET answered OK, the
microsecond it was taken in, and how far its reply has gone. -/
structure InWork where
  replyKind : Byte
  reply : List Byte
  resets : Bool
  taken : Nat
  phase : ReplyPhase
  deriving DecidableEq, Repr

/-- A good frame waiting (R189): its kind and payload. -/
structure Frame where
  kind : Byte
  payload : List Byte
  deriving DecidableEq, Repr

/-- The Link Port (R187 to R193). `resetDue` is the microsecond of the warm reset that follows a UNIT-RESET's reply
(R196); `resetAt` is the microsecond of the last reset. -/
structure Link where
  receiver : Receiver
  inWork : Option InWork
  waiting : Option Frame
  address : BitVec 3
  framing : Nat
  crc : Nat
  overrun : Nat
  resetDue : Option Nat
  resetAt : Nat
  deriving DecidableEq, Repr

/-- Trace memory as the list of its non-zero samples by address (section 3.1). -/
abbrev Memory := List (Nat × Sample)

/-! ### The whole unit -/

/-- One GJ2416. `trace` is the trace memory as the list of its non-zero samples, addresses strictly rising (log entry 5);
`uptime` is the free-running microsecond count; `pending` is the model's queue of commands, first in, first out. -/
structure State where
  uptime : Nat
  run : Run
  rot : Rotation
  trace : Memory
  chans : Vector Channel 16
  cap : Capture
  faults : Faults
  pins : PinMatrix
  sup : Supply
  ntc : Notices
  link : Link
  pending : List Instr
  deriving DecidableEq, Repr

/-- The machine never stops with a fault: the spec gives every command an effect in every state, so this type has no
constructor (log entry 12). -/
inductive Fault where
  deriving DecidableEq, Repr

/-- Why a command is refused by the model. -/
inductive Refusal where
  /-- Raised by exec's arm of a command that has no meaning yet; safe. No arm of this model raises it. -/
  | notModelled (mnemonic : String)
  deriving DecidableEq, Repr

/-! ### Cold reset values (R22, R47, R72, R92, R110, R139, R160, R174, R184, R193) -/

def EdgeRelease.disabled (n : Nat) [NeZero n] : EdgeRelease n := { enable := false, input := 0, edge := .rise }

/-- R47: the run configuration after a cold reset. -/
def RunConfig.cold : RunConfig where
  startMode := .immediate
  startInput := 0
  startEdge := .rise
  startAngle := 0
  startSpeed := 0
  endOnDrain := false
  stopOnUnderrun := false
  line := .disabled 2
  capture := .disabled 8
  timeoutEnable := false
  timeout := 0

def EventSet.empty : EventSet := { resume := false, line := false, capture := false, timeout := false }

def PendingFlags.clear : PendingFlags := { resume := false, line := false, capture := false }

def LastRelease.none : LastRelease := { kind := .none, events := .empty, clock := 0 }

/-- R47: the Run Controller after a reset, with the configuration it keeps or takes. -/
def Run.afterReset (c : RunConfig) : Run where
  state := .idle
  endReason := .none
  clock := 0
  config := c
  flags := .clear
  last := .none
  holdTimer := .none
  begun := false
  inMicro := false
  wrapDue := false
  work := []

def Wheel.cleared : Wheel := { teeth := 0, offset := 0, duty := 0, gaps := [] }

/-- R22: the Rotation Generator after a reset, with the patterns it keeps or takes. -/
def Rotation.afterReset (w : Wheel) (cams : Vector (List CamEdge) 2) : Rotation where
  acc := 0
  cycle := 0
  speed := 0
  queue := []
  active := .none
  drained := false
  prevTheta := 0
  cycleEvent := false
  wheel := w
  cams := cams
  crankMod := .none
  camMods := .replicate 2 .none
  crankLine := false
  camLines := .replicate 2 false

/-- R72: a window after a cold reset. -/
def Window.cold : Window := { enable := false, start := 0, stop := 0, base := 0, pitch := 1 }

/-- R72 and R92: a channel after a cold reset; the guard's upper limit depends on the channel's kind. -/
def Channel.cold (gmax : Nat) : Channel where
  enable := false
  mode := .const
  restCode := 0
  restLevel := false
  reference := .internal
  gmin := 0
  gmax := gmax
  guardMode := .clamp
  cause := .taken
  constCode := 0
  windows := .replicate 4 .cold
  queue := []
  active := .none
  state := .stopped
  held := .none
  source := 0
  output := 0
  clamped := false
  modifier := .none
  line := false
  half := .none
  pinEnable := false
  pinRef := .internal

/-- R73: channels 0..11 are analog, 12..15 pulse. -/
def coldChannels : Vector Channel 16 :=
  Vector.replicate 12 (Channel.cold 4095) ++ Vector.replicate 4 (Channel.cold 65535)

/-- R110: an input after a cold reset; its line is taken to stand LOW until a sample says otherwise (log entry 6). -/
def Input.cold : Input where
  enable := false
  interval := 1
  edge := .both
  level := .none
  agree := 0
  phase := .none
  acquire := true
  wire := false

/-- R139: a slot after a cold reset. -/
def Slot.cold : Slot where
  state := .empty
  record := .none
  staged := .none
  remaining := .finite 0
  occurrences := 0
  progress := 0
  late := false
  releaseEnd := .rep
  outcome := .none
  since := 0

/-- R160: the Pin Matrix after a reset at microsecond `now`, with the map it keeps or takes. -/
def PinMatrix.afterReset (now : Nat) (m : Vector PinSource 24) : PinMatrix where
  map := m
  routed := m
  paths := .replicate 24 .normal
  waits := .replicate 24 .none
  drive := .recovering (now + Config.relaySettle)
  waitList := []
  completed := none

/-- R174: the Supply Sequencer after a cold reset, with the CONN_SENSE pin as it stands. -/
def Supply.cold (connPin : Bool) : Supply where
  mode := .manual
  battCmd := false
  ignCmd := false
  drvReq := false
  battAct := false
  ignAct := false
  battDrop := false
  ignDrop := false
  waitStart := .none
  waitDone := false
  driver := .off
  conn := .disconnected
  connPin := connPin
  sensed := true
  shutdown := .none

/-- R184: the Notice Unit after a reset, with the configuration it keeps or takes. -/
def Notices.afterReset (enables : BitVec 8) (threshold : Nat) (routes : Vector Route 4) : Notices where
  pending := 0
  enables := enables
  runState := .idle
  runReason := .none
  channelMask := 0
  guardMask := 0
  faultMask := 0
  threshold := threshold
  routes := routes
  timers := .replicate 4 .none

/-- R192 and R193: the Link Port after a cold reset at microsecond `now`. -/
def Link.cold (now : Nat) (straps : BitVec 3) : Link where
  receiver := .initializing (now + Config.coldInit)
  inWork := .none
  waiting := .none
  address := straps
  framing := 0
  crc := 0
  overrun := 0
  resetDue := .none
  resetAt := now

/-- The unit after a cold reset in microsecond `now`, with its pins as they stand: the address straps, the lines of
the ten inputs and CONN_SENSE. -/
def State.cold (now : Nat) (straps : BitVec 3) (inputs : Vector Input 10) (connPin : Bool) : State where
  uptime := now
  run := .afterReset .cold
  rot := .afterReset .cleared (.replicate 2 [])
  trace := []
  chans := coldChannels
  cap := { inputs := inputs, log := [] }
  faults := { slots := .replicate 32 .cold, holders := .replicate 45 .none }
  pins := .afterReset now (.replicate 24 .unused)
  sup := .cold connPin
  ntc := .afterReset 0 Config.captureLog (.replicate 4 .off)
  link := .cold now straps
  pending := []

/-- The unit right after the cold reset of power-on: uptime 0, address straps 0, every input line LOW, CONN_SENSE high
(no harness connected); the pin levels are log entry 6. -/
def State.reset : State := State.cold 0 0 (.replicate 10 .cold) true

end Sys2Proof.Machine
end

