-- ==== Sys2Proof/Machine/Ops.lean ====
section
/-! DEFINITION. Shared operations: reading and writing one entry of a table, trace memory, the angle quantities, the
answer of a request. -/

namespace Sys2Proof.Machine

/-! ### Tables -/

/-- One entry of a table. -/
def getAt {α : Type} {n : Nat} (v : Vector α n) (k : Fin n) : α := v[k.val]

/-- The table with one entry replaced. -/
def setAt {α : Type} {n : Nat} (v : Vector α n) (k : Fin n) (x : α) : Vector α n := v.set k.val x k.isLt

/-- The 32 slots in ascending order. -/
def allSlots : List (Fin 32) :=
  [0, 1, 2, 3, 4, 5, 6, 7, 8, 9, 10, 11, 12, 13, 14, 15, 16, 17, 18, 19, 20, 21, 22, 23, 24, 25, 26, 27, 28, 29, 30, 31]

/-- The 16 channels in ascending order. -/
def allChannels : List (Fin 16) := [0, 1, 2, 3, 4, 5, 6, 7, 8, 9, 10, 11, 12, 13, 14, 15]

/-- The four pulse channels (R73). -/
def pulseChannels : List (Fin 16) := [12, 13, 14, 15]

/-- The 24 harness pins in ascending order. -/
def allPins : List (Fin 24) :=
  [0, 1, 2, 3, 4, 5, 6, 7, 8, 9, 10, 11, 12, 13, 14, 15, 16, 17, 18, 19, 20, 21, 22, 23]

/-- The 45 targets in the order of R116. -/
def allTargets : List (Fin 45) :=
  [0, 1, 2, 3, 4, 5, 6, 7, 8, 9, 10, 11, 12, 13, 14, 15, 16, 17, 18, 19, 20, 21, 22, 23, 24, 25, 26, 27, 28, 29, 30,
   31, 32, 33, 34, 35, 36, 37, 38, 39, 40, 41, 42, 43, 44]

/-- The ten inputs: capture inputs 0..7, then the trigger inputs. -/
def allInputs : List (Fin 10) := [0, 1, 2, 3, 4, 5, 6, 7, 8, 9]

/-- The four trigger outputs. -/
def allOutputs : List (Fin 4) := [0, 1, 2, 3]

/-- Apply an operation for each element of a list, first to last. -/
def forEach {α : Type} (xs : List α) (f : α → State → State) (s : State) : State :=
  match xs with
  | [] => s
  | x :: rest => forEach rest f (f x s)

def State.chan (s : State) (n : Fin 16) : Channel := getAt s.chans n
def State.setChan (s : State) (n : Fin 16) (c : Channel) : State := { s with chans := setAt s.chans n c }

def State.slot (s : State) (k : Fin 32) : Slot := getAt s.faults.slots k
def State.setSlot (s : State) (k : Fin 32) (x : Slot) : State :=
  { s with faults := { s.faults with slots := setAt s.faults.slots k x } }

def State.holder (s : State) (t : Fin 45) : Option (Fin 32) := getAt s.faults.holders t
def State.setHolder (s : State) (t : Fin 45) (h : Option (Fin 32)) : State :=
  { s with faults := { s.faults with holders := setAt s.faults.holders t h } }

def State.input (s : State) (k : Fin 10) : Input := getAt s.cap.inputs k
def State.setInput (s : State) (k : Fin 10) (x : Input) : State :=
  { s with cap := { s.cap with inputs := setAt s.cap.inputs k x } }

def State.path (s : State) (p : Fin 24) : Path := getAt s.pins.paths p
def State.setPath (s : State) (p : Fin 24) (x : Path) : State :=
  { s with pins := { s.pins with paths := setAt s.pins.paths p x } }

def State.wait (s : State) (p : Fin 24) : Option AlignWait := getAt s.pins.waits p
def State.setWait (s : State) (p : Fin 24) (w : Option AlignWait) : State :=
  { s with pins := { s.pins with waits := setAt s.pins.waits p w } }

def State.setWaitList (s : State) (l : List RelayEntry) : State :=
  { s with pins := { s.pins with waitList := l } }

def State.setDrive (s : State) (d : Drive) : State := { s with pins := { s.pins with drive := d } }

/-- The items of the present run microsecond that are still to be taken. -/
def State.setWork (s : State) (l : List WorkItem) : State := { s with run := { s.run with work := l } }

def State.setTimer (s : State) (l : Fin 4) (t : Option Nat) : State :=
  { s with ntc := { s.ntc with timers := setAt s.ntc.timers l t } }

/-! ### Trace memory (R48 to R50) -/

/-- The sample at an address; an address not listed holds 0 (R72: every sample 0 after a cold reset). -/
def Memory.read : Memory → Nat → Sample
  | [], _ => 0
  | (b, x) :: rest, a => if a = b then x else if a < b then 0 else Memory.read rest a

/-- Store one sample, keeping addresses strictly rising and no entry of value 0. -/
def Memory.write : Memory → Nat → Sample → Memory
  | [], a, x => if x = 0 then [] else [(a, x)]
  | (b, y) :: rest, a, x =>
    if a < b then (if x = 0 then (b, y) :: rest else (a, x) :: (b, y) :: rest)
    else if a = b then (if x = 0 then rest else (a, x) :: rest)
    else (b, y) :: Memory.write rest a x

/-- Store samples at consecutive addresses: sample n at address + n (R48). -/
def Memory.writeMany : Memory → Nat → List Sample → Memory
  | m, _, [] => m
  | m, a, x :: xs => Memory.writeMany (m.write a x) (a + 1) xs

/-- The canonical form from an address on: strictly rising addresses of the memory, no entry of value 0. -/
def Memory.wfFrom : Nat → Memory → Bool
  | _, [] => true
  | lo, (a, x) :: rest => decide (lo ≤ a) && decide (a < Config.traceSize) && x != 0 && Memory.wfFrom (a + 1) rest

/-- The canonical form of trace memory. -/
def Memory.wf (m : Memory) : Bool := Memory.wfFrom 0 m

/-- A sample read for playback; computed addresses wrap modulo 1,048,576 (Conventions; R57, R70). -/
def State.traceAt (s : State) (a : Nat) : Nat := (s.trace.read (a % Config.traceSize)).toNat

/-! ### Angle -/

/-- θ, computed from the present accumulator (R1). -/
def State.theta (s : State) : Nat := s.rot.acc / Config.grainsPerCentidegree

/-- The size of the last run microsecond's sweep (R3). -/
def State.sweepSize (s : State) : Nat :=
  (s.theta + Config.cycleAngle - s.rot.prevTheta) % Config.cycleAngle

/-- The angle X lies in the last run microsecond's sweep (R3). -/
def State.hit (s : State) (x : Nat) : Bool :=
  let o := (x + Config.cycleAngle - s.rot.prevTheta) % Config.cycleAngle
  decide (1 ≤ o) && decide (o ≤ s.sweepSize)

/-! ### Orders (log entry 3) -/

/-- An item that is a time-driven step of its own, which a command may also name within RUN_MICROSECOND. -/
def isEvent : WorkItem → Bool
  | .pointEnd | .sampleEnd _ | .halfEnd _ | .delayEnd _ | .widthEnd _ => true
  | .pulses | .change _ | .channelNotice _ | .guardNotice _ | .speedDrain | .guardTrip _ | .underrun _
  | .slot _ | .runControl | .release | .flush _ | .pause => false

/-- The items of a step in the order they are taken: those the command names, in its order and once each, if they are
the step's own or events; then the step's own items not named, in their standing order. -/
def orderItems (given own : List WorkItem) : List WorkItem :=
  given.eraseDups.filter (fun w => own.contains w || isEvent w) ++ own.filter (fun w => !given.contains w)

/-! ### Answers (R190, section 11.3) -/

/-- The status of a reply. -/
inductive Status where
  | ok | clamped | holdSkipped | unknownKind | badLength | badField | wrongState | queueFull | duplicate
  deriving DecidableEq, Repr

/-- Status codes (section 11.3). -/
def Status.code : Status → Byte
  | .ok => 0x00
  | .clamped => 0x01
  | .holdSkipped => 0x02
  | .unknownKind => 0x10
  | .badLength => 0x11
  | .badField => 0x12
  | .wrongState => 0x13
  | .queueFull => 0x14
  | .duplicate => 0x15

/-- What a block answers to a request: the status and the reply fields after it (R199). -/
structure Answer where
  status : Status
  body : List Byte
  deriving DecidableEq, Repr

/-- A refused or plain answer that carries no fields. -/
def Answer.bare (st : Status) : Answer := { status := st, body := [] }

/-- The reply payload: the status, then the fields; a BAD_LENGTH or UNKNOWN_KIND reply carries the status alone
(R199). -/
def Answer.payload (a : Answer) : List Byte :=
  match a.status with
  | .badLength | .unknownKind => [a.status.code]
  | .ok | .clamped | .holdSkipped | .badField | .wrongState | .queueFull | .duplicate => a.status.code :: a.body

/-- The reply kind: the request kind + 0x80, or 0xFF for UNKNOWN_KIND (R190). -/
def Answer.replyKind (kind : Byte) (a : Answer) : Byte :=
  if a.status = .unknownKind then 0xFF else kind + 0x80

/-- The request of this kind is in work with its reply formed (R189, R190). A UNIT-RESET (kind 0x03) answered OK is
marked: the warm reset follows its reply (R196). -/
def respond (kind : Byte) (r : State × Answer) : State :=
  let w : InWork :=
    { replyKind := r.2.replyKind kind, reply := r.2.payload, resets := kind == 0x03 && r.2.status == .ok,
      taken := r.1.uptime, phase := .formed }
  { r.1 with link := { r.1.link with inWork := some w } }

/-- Reply bytes the spec does not state (log entry 10). -/
def unstatedBytes (kind n : Nat) : List Byte := (List.range n).map (Config.unstatedByte kind)

/-- A refused request changes nothing (R190). -/
def refuse (s : State) (st : Status) (body : List Byte) : State × Answer := (s, { status := st, body := body })

/-- Taken in IDLE and ENDED only (R12, R15, R26, R68, R74, R94, R140). -/
def State.betweenRuns (s : State) : Bool := s.run.state == .idle || s.run.state == .ended

/-- RUNNING or HELD. -/
def State.inRun (s : State) : Bool := s.run.state == .running || s.run.state == .held

/-- A time-driven event is due: its microsecond has come. -/
def State.reached (s : State) (t : Nat) : Bool := decide (t ≤ s.uptime)

end Sys2Proof.Machine
end

