-- ==== Sys2Proof/Machine/Flags.lean ====
section
/-! DEFINITION. Flags: the pending notices and their masks (R175), the attention line (R177), the pending release flags
(R33), pulse events of the trigger outputs (R182). -/

namespace Sys2Proof.Machine

/-- The bit of a notice kind (section 11.5). -/
def NoticeKind.bit : NoticeKind → Nat
  | .run => 0
  | .channel => 1
  | .guardTrip => 2
  | .speed => 3
  | .captureFill => 4
  | .captureOverflow => 5
  | .fault => 6
  | .supply => 7

/-- Set the pending flag of a kind (R175). -/
def raise (k : NoticeKind) (s : State) : State :=
  { s with ntc := { s.ntc with pending := s.ntc.pending ||| BitVec.twoPow 8 k.bit } }

/-- Raise RUN: its data is replaced by the state entered and the end reason (R175). -/
def raiseRun (st : RunState) (r : EndReason) (s : State) : State :=
  let s := raise .run s
  { s with ntc := { s.ntc with runState := st, runReason := r } }

/-- Raise CHANNEL for one channel (R66). -/
def raiseChannel (n : Fin 16) (s : State) : State :=
  let s := raise .channel s
  { s with ntc := { s.ntc with channelMask := s.ntc.channelMask ||| BitVec.twoPow 16 n.val } }

/-- Raise GUARD for one channel (R83). -/
def raiseGuard (n : Fin 16) (s : State) : State :=
  let s := raise .guardTrip s
  { s with ntc := { s.ntc with guardMask := s.ntc.guardMask ||| BitVec.twoPow 16 n.val } }

/-- Raise FAULT for one slot (R137). -/
def raiseFault (k : Fin 32) (s : State) : State :=
  let s := raise .fault s
  { s with ntc := { s.ntc with faultMask := s.ntc.faultMask ||| BitVec.twoPow 32 k.val } }

/-- Raise a kind under a condition. -/
def raiseIf (b : Bool) (k : NoticeKind) (s : State) : State := if b then raise k s else s

/-- The kind is pending. -/
def State.isPending (s : State) (k : NoticeKind) : Bool := s.ntc.pending.getLsbD k.bit

/-- The unit pulls ATTN low: some kind is both pending and enabled (R177). -/
def State.attnLow (s : State) : Bool := (s.ntc.pending &&& s.ntc.enables) != 0

/-! ### Pending release flags -/

/-- Some release flag is pending (R31). -/
def PendingFlags.any (f : PendingFlags) : Bool := f.resume || f.line || f.capture

/-- The set of the flags that are pending (R37). -/
def PendingFlags.events (f : PendingFlags) : EventSet :=
  { resume := f.resume, line := f.line, capture := f.capture, timeout := false }

/-- Set the flag of a release event; a timeout is never pending (R33). -/
def PendingFlags.set (f : PendingFlags) : ReleaseEvent → PendingFlags
  | .resume => { f with resume := true }
  | .line => { f with line := true }
  | .capture => { f with capture := true }
  | .timeout => f

/-- The set of one release event. -/
def ReleaseEvent.only : ReleaseEvent → EventSet
  | .resume => { EventSet.empty with resume := true }
  | .line => { EventSet.empty with line := true }
  | .capture => { EventSet.empty with capture := true }
  | .timeout => { EventSet.empty with timeout := true }

/-- Every flag and set written as the byte of section 11.5. -/
def EventSet.byte (e : EventSet) : Byte :=
  (if e.resume then 1 else 0) ||| (if e.line then 2 else 0) ||| (if e.capture then 4 else 0)
    ||| (if e.timeout then 8 else 0)

/-! ### Pulse events -/

/-- A pulse event sets the timer of every line whose route it is to e + 9 (R182). -/
def pulseEvent (on : Route → Bool) (s : State) : State :=
  forEach allOutputs
    (fun l s => if on (getAt s.ntc.routes l) then s.setTimer l (some (s.uptime + Config.pulseTail)) else s) s

/-- A run-start event reaches the START_PULSE routes (R30, R182). -/
def runStartEvent (s : State) : State := pulseEvent (fun r => r == .startPulse) s

end Sys2Proof.Machine
end

