-- ==== Sys2Proof/Machine/Operands.lean ====
section
/-! DEFINITION. Operand forms: multi-byte fields (R197), the codes of enumerated fields in both directions (section 11.5),
the capture record (section 11.6) and the fault-slot record (R201) as bytes. -/

namespace Sys2Proof.Machine

/-! ### Numbers (R197) -/

/-- A number as `n` bytes, least significant byte first. -/
def le : Nat → Nat → List Byte
  | 0, _ => []
  | n + 1, v => BitVec.ofNat 8 v :: le n (v / 256)

/-- A signed number as `n` bytes in two's complement. -/
def leInt (n : Nat) (v : Int) : List Byte := le n (v % (256 ^ n : Nat)).toNat

/-- The number that bytes carry, least significant byte first. -/
def unle : List Byte → Nat
  | [] => 0
  | b :: rest => b.toNat + 256 * unle rest

/-- The signed number that four bytes carry. -/
def unleInt32 (v : Nat) : Int := if v < 2147483648 then v else (v : Int) - 4294967296

/-- Cut a payload into fields of the given widths; none when the lengths differ (R198). -/
def fields : List Nat → List Byte → Option (List Nat)
  | [], [] => some []
  | [], _ :: _ => none
  | w :: ws, bs =>
    if bs.length < w then none
    else (fields ws (bs.drop w)).map (fun r => unle (bs.take w) :: r)

/-- A flag byte: 0 for clear, 1 for set; anything else is out of range (R197). -/
def flag? : Nat → Option Bool
  | 0 => some false
  | 1 => some true
  | _ => none

def flagByte (b : Bool) : Byte := if b then 1 else 0

/-- A number below `n` as an index. -/
def index? (n v : Nat) : Option (Fin n) := if h : v < n then some ⟨v, h⟩ else none

/-! ### Codes of section 11.5 -/

def RunState.code : RunState → Byte
  | .idle => 0
  | .armed => 1
  | .running => 2
  | .held => 3
  | .ended => 4

def EndReason.code : EndReason → Byte
  | .none => 0
  | .endRequest => 1
  | .drained => 2
  | .underrun => 3
  | .guardTrip => 4
  | .disconnect => 5
  | .faultEnd => 6

def StartMode.ofCode : Nat → Option StartMode
  | 0 => some .immediate
  | 1 => some .line
  | _ => none

def EdgeSel.code : EdgeSel → Byte
  | .rise => 0
  | .fall => 1
  | .both => 2

def EdgeSel.ofCode : Nat → Option EdgeSel
  | 0 => some .rise
  | 1 => some .fall
  | 2 => some .both
  | _ => none

def ReleaseKind.code : ReleaseKind → Byte
  | .none => 0
  | .released => 1
  | .skipped => 2

/-- LOW 0, HIGH 1, NONE 2. -/
def levelCode : Option Bool → Byte
  | some false => 0
  | some true => 1
  | none => 2

def SourceMode.code : SourceMode → Byte
  | .const => 0
  | .stream => 1
  | .angleMap => 2

def SourceMode.ofCode : Nat → Option SourceMode
  | 0 => some .const
  | 1 => some .stream
  | 2 => some .angleMap
  | _ => none

def SourceState.code : SourceState → Byte
  | .stopped => 0
  | .playing => 1
  | .starved => 2

def Reference.ofCode : Nat → Option Reference
  | 0 => some .internal
  | 1 => some .ratio
  | _ => none

def GuardMode.ofCode : Nat → Option GuardMode
  | 0 => some .clamp
  | 1 => some .strict
  | _ => none

def CauseSel.ofCode : Nat → Option CauseSel
  | 0 => some .taken
  | 1 => some .starved
  | _ => none

/-- Modifier kind and value of CHANNEL-READ (R91, R200). -/
def ChanMod.bytes : Option ChanMod → List Byte
  | none => 0 :: leInt 4 0
  | some (.freeze v) => 1 :: leInt 4 v
  | some (.force v) => 2 :: leInt 4 v
  | some (.offset d) => 3 :: leInt 4 d

/-- A pin source code (section 11.5). -/
def PinSource.ofCode (v : Nat) : Option PinSource :=
  if h : v < 16 then some (.line (.channel ⟨v, h⟩))
  else if v = 0x10 then some (.line .crank)
  else if v = 0x11 then some (.line (.cam 0))
  else if v = 0x12 then some (.line (.cam 1))
  else if h : 0x20 ≤ v ∧ v < 0x28 then some (.tap ⟨v - 0x20, by omega⟩)
  else if v = 0xFF then some .unused
  else none

/-- A pin's path and partner (R138, R200). -/
def Path.bytes : Path → List Byte
  | .normal => [0, 0xFF]
  | .openPath => [1, 0xFF]
  | .shortGnd => [2, 0xFF]
  | .shortSupply => [3, 0xFF]
  | .bridge q => [4, BitVec.ofNat 8 q.val]

def SlotState.code : SlotState → Byte
  | .empty => 0
  | .loaded => 1
  | .armed => 2
  | .waiting => 3
  | .aligning => 4
  | .pending => 5
  | .active => 6
  | .releasing => 7
  | .done => 8

def ReleaseEnd.code : ReleaseEnd → Byte
  | .rep => 0
  | .load => 1

def SlotOutcome.code : SlotOutcome → Byte
  | .none => 0
  | .applied => 1
  | .conflict => 2
  | .cancelled => 3
  | .runEnded => 4
  | .late => 5
  | .alignTimeout => 6

def Measure.code : Measure → Byte
  | .time => 0
  | .angle => 1

def Measure.ofCode : Nat → Option Measure
  | 0 => some .time
  | 1 => some .angle
  | _ => none

def DriverState.code : DriverState → Byte
  | .off => 0
  | .wakeWait _ => 1
  | .on => 2

def ConnState.code : ConnState → Byte
  | .disconnected => 0
  | .debouncing _ => 1
  | .connected => 2

def SupplyMode.code : SupplyMode → Byte
  | .manual => 0
  | .auto => 1

def SupplyMode.ofCode : Nat → Option SupplyMode
  | 0 => some .manual
  | 1 => some .auto
  | _ => none

def Shutdown.code : Shutdown → Byte
  | .none => 0
  | .driver => 1
  | .feed _ => 2

/-- Remaining repetitions as 2 bytes; ENDLESS is 0xFFFF (R200). -/
def Reps.bytes : Reps → List Byte
  | .finite n => le 2 n
  | .endless => [0xFF, 0xFF]

/-- R gives the repetitions of a record: 1..255, or 0 for endless (R112, R118). -/
def Reps.ofRepeat (r : Nat) : Reps := if r = 0 then .endless else .finite r

/-! ### Targets (R116) -/

def pinTarget (p : Fin 24) : Fin 45 := ⟨p.val, by omega⟩
def chanTarget (n : Fin 16) : Fin 45 := ⟨24 + n.val, by omega⟩
def camTarget (c : Fin 2) : Fin 45 := ⟨41 + c.val, by omega⟩

/-- The targets an action holds: its target and, for BRIDGE, its partner; none for a run action. -/
def Action.targets : Action → List (Fin 45)
  | .openPin p | .shortGnd p | .shortSupply p => [pinTarget p]
  | .bridge p q => [pinTarget p, pinTarget q]
  | .freeze n | .force n _ | .offset n _ => [chanTarget n]
  | .toothDrop _ | .crankShift _ => [40]
  | .camHold c | .camShift c _ => [camTarget c]
  | .battDrop => [43]
  | .ignDrop => [44]
  | .holdRun | .endRun => []

/-- The relay path of an action that has one (R126). -/
def Action.relay : Action → Option RelayPath
  | .shortSupply p => some (.supply p)
  | .bridge p q => some (.bridge p q)
  | .openPin _ | .shortGnd _ | .freeze _ | .force _ _ | .offset _ _ | .toothDrop _ | .crankShift _ | .camHold _
  | .camShift _ _ | .battDrop | .ignDrop | .holdRun | .endRun => none

/-! ### The fault-slot record as bytes (R201) -/

/-- Action, target, partner and action value (bytes 0..6). -/
def Action.bytes : Action → List Byte
  | .openPin p => 0x01 :: BitVec.ofNat 8 p.val :: 0 :: leInt 4 0
  | .shortGnd p => 0x02 :: BitVec.ofNat 8 p.val :: 0 :: leInt 4 0
  | .shortSupply p => 0x03 :: BitVec.ofNat 8 p.val :: 0 :: leInt 4 0
  | .bridge p q => 0x04 :: BitVec.ofNat 8 p.val :: BitVec.ofNat 8 q.val :: leInt 4 0
  | .freeze n => 0x10 :: BitVec.ofNat 8 (24 + n.val) :: 0 :: leInt 4 0
  | .offset n d => 0x11 :: BitVec.ofNat 8 (24 + n.val) :: 0 :: leInt 4 d
  | .force n v => 0x12 :: BitVec.ofNat 8 (24 + n.val) :: 0 :: leInt 4 v
  | .toothDrop i => 0x20 :: 40 :: 0 :: leInt 4 i
  | .crankShift d => 0x21 :: 40 :: 0 :: leInt 4 d
  | .camHold c => 0x22 :: BitVec.ofNat 8 (41 + c.val) :: 0 :: leInt 4 0
  | .camShift c d => 0x23 :: BitVec.ofNat 8 (41 + c.val) :: 0 :: leInt 4 d
  | .battDrop => 0x30 :: 43 :: 0 :: leInt 4 0
  | .ignDrop => 0x31 :: 44 :: 0 :: leInt 4 0
  | .holdRun => 0x40 :: 45 :: 0 :: leInt 4 0
  | .endRun => 0x41 :: 45 :: 0 :: leInt 4 0

/-- Trigger kind and parameter (bytes 7..13). -/
def Trigger.bytes : Trigger → List Byte
  | .atStart => 0 :: le 6 0
  | .angle x (some n) => 1 :: le 3 x ++ le 2 n ++ [0]
  | .angle x none => 1 :: le 3 x ++ le 2 0 ++ [1]
  | .capture i e m => 2 :: BitVec.ofNat 8 i.val :: e.code :: le 1 m ++ le 3 0
  | .line i e => 3 :: BitVec.ofNat 8 i.val :: e.code :: le 4 0
  | .time v => 4 :: le 5 v ++ [0]
  | .afterSlot j => 5 :: BitVec.ofNat 8 j.val :: le 5 0

/-- The 23 bytes of a fault record. -/
def FaultRecord.bytes (r : FaultRecord) : List Byte :=
  r.action.bytes ++ r.trigger.bytes ++ [r.measure.code] ++ le 3 r.delay ++ le 3 r.width ++ le 1 r.rep
    ++ [flagByte r.aligned]

/-! ### The capture record as bytes (section 11.6) -/

def CaptureRecord.bytes (r : CaptureRecord) : List Byte :=
  [BitVec.ofNat 8 (r.input.val + (if r.edge = .fall then 8 else 0) + (if r.held then 16 else 0)
    + (if r.replaced then 32 else 0))] ++ le 5 r.clock ++ le 3 r.theta ++ le 2 r.cycle

end Sys2Proof.Machine
end

