-- ==== Sys2Proof/Machine/Feeds.lean ====
section
/-! DEFINITION. Shared operations of the Supply Sequencer: the actual states and the drivers (R161, R163), the commands with the
battery-first wait (R162), the feed drops (R170, R171) and the stages of a disconnect shutdown (R168). -/

namespace Sys2Proof.Machine

/-- The battery feed's actual state (R161). -/
def Supply.battery (u : Supply) : Bool := u.battCmd && !u.battDrop

/-- The ignition feed's actual state (R161). -/
def Supply.ignition (u : Supply) : Bool := u.ignCmd && u.battery && !u.ignDrop && u.waitDone

/-- The driver state that follows from the battery's actual state and the driver request (R163). -/
def Supply.nextDriver (u : Supply) (now : Nat) : DriverState :=
  if u.battery && u.drvReq then (if u.driver = .off then .wakeWait now else u.driver) else .off

/-- The actual states and the driver state decided from their conditions (R161, R163). -/
def Supply.settled (u : Supply) (now : Nat) : Supply :=
  { u with battAct := u.battery, ignAct := u.ignition, driver := u.nextDriver now }

/-- A change that raises SUPPLY: of either actual state, or of the driver state to OFF (R172). -/
def Supply.changes (u : Supply) (now : Nat) : Bool :=
  u.battAct != u.battery || u.ignAct != u.ignition || (u.driver != .off && u.nextDriver now == .off)

/-- Decide the feeds and the drivers in this microsecond, raising SUPPLY at each change (R161, R163, R172). -/
def settleFeeds (s : State) : State :=
  raiseIf (s.sup.changes s.uptime) .supply { s with sup := s.sup.settled s.uptime }

/-- The battery-first wait after the two commands are written (R162): started when a command goes ON with both then ON,
cleared when either goes OFF. -/
def Supply.command (u : Supply) (b i : Bool) (now : Nat) : Supply :=
  let started := b && i && (!u.battCmd || !u.ignCmd)
  let cleared := (u.battCmd && !b) || (u.ignCmd && !i)
  { u with
    battCmd := b
    ignCmd := i
    waitStart := if started then some now else if cleared then none else u.waitStart
    waitDone := if started || cleared then false else u.waitDone }

/-- Write both commands and the driver request, and let the feeds and drivers follow (R164, R167). -/
def commandFeeds (b i d : Bool) (s : State) : State :=
  settleFeeds { s with sup := { s.sup.command b i s.uptime with drvReq := d } }

/-- Put a BATT_DROP in force or take it away (R170). -/
def setBattDrop (b : Bool) (s : State) : State := settleFeeds { s with sup := { s.sup with battDrop := b } }

/-- Put an IGN_DROP in force or take it away (R171). -/
def setIgnDrop (b : Bool) (s : State) : State := settleFeeds { s with sup := { s.sup with ignDrop := b } }

/-- The driver stage of a disconnect shutdown; the feed stage falls 1,000 µs later (R168). -/
def driverStage (s : State) : State :=
  settleFeeds { s with sup := { s.sup with
    drvReq := false
    shutdown := .feed (s.uptime + Config.feedStageDelay) } }

/-- The driver stage that waits for a relay transition is made when that transition completes (R168, R169). -/
def relayCompleted (s : State) : State := if s.sup.shutdown = .driver then driverStage s else s

end Sys2Proof.Machine
end

