-- ==== Sys2Proof/Machine/Release.lean ====
section
/-! DEFINITION. Shared operations that take a fault action away and end a run: the instant releases (R126), the relay wait
list and its grant (R151, R152, R155), repetitions (R129), the return of a slot by a cancel or by the run's end
(R131, R133), the entries into STARVED (R61), the entry to ENDED (R44) and the end causes (R41 to R43). -/

namespace Sys2Proof.Machine

/-! ### Owners of the targets -/

/-- Set or remove a channel's modifier (R79). -/
def setModifier (n : Fin 16) (m : Option ChanMod) (s : State) : State :=
  s.setChan n { s.chan n with modifier := m }

/-- Set or remove the crank line's modifier (R17). -/
def setCrankMod (m : Option CrankMod) (s : State) : State := { s with rot := { s.rot with crankMod := m } }

/-- Set or remove a cam line's modifier (R17). -/
def setCamMod (c : Fin 2) (m : Option CamMod) (s : State) : State :=
  { s with rot := { s.rot with camMods := setAt s.rot.camMods c m } }

/-- The owner takes an action away at an instant release (R126). Relay paths are taken away by the relay sequencer
(R154) and run actions have no release. -/
def takeAway (a : Action) (s : State) : State :=
  match a with
  | .openPin p | .shortGnd p => s.setPath p .normal
  | .freeze n | .force n _ | .offset n _ => setModifier n none s
  | .toothDrop _ | .crankShift _ => setCrankMod none s
  | .camHold c | .camShift c _ => setCamMod c none s
  | .battDrop => setBattDrop false s
  | .ignDrop => setIgnDrop false s
  | .shortSupply _ | .bridge _ _ | .holdRun | .endRun => s

/-! ### Holders -/

/-- The slot ceases to hold every target it holds (R116). -/
def clearHolders (k : Fin 32) (s : State) : State :=
  forEach allTargets (fun t s => if s.holder t = some k then s.setHolder t none else s) s

/-- The slot becomes the holder of its targets (R116, R124). -/
def takeHolders (k : Fin 32) (ts : List (Fin 45)) (s : State) : State :=
  forEach ts (fun t s => s.setHolder t (some k)) s

/-- The slot's transition is the one in flight (R150). -/
def State.inFlight (s : State) (k : Fin 32) : Bool :=
  match s.pins.drive with
  | .busy e _ => e.slot == k
  | .free | .recovering _ => false

/-! ### The wait list and the grant of the relay drive (R151, R152, R155) -/

/-- An entry's place in the choice: releases first, then the lowest slot (R152). -/
def RelayEntry.rank (e : RelayEntry) : Nat := (match e.kind with | .release => 0 | .apply => 32) + e.slot.val

/-- The entry the drive chooses (R152). -/
def chooseEntry : List RelayEntry → Option RelayEntry
  | [] => none
  | e :: rest =>
    match chooseEntry rest with
    | none => some e
    | some f => if f.rank < e.rank then some f else some e

/-- The drive is FREE and an entry waits (R152). -/
def State.grantDue (s : State) : Bool := s.pins.drive == .free && !s.pins.waitList.isEmpty

/-- The drive grants the entry it chooses: it leaves the list and is in flight from this microsecond (R152). -/
def relayGrant (s : State) : State :=
  if s.grantDue then
    match chooseEntry s.pins.waitList with
    | some e => (s.setWaitList (s.pins.waitList.erase e)).setDrive (.busy e s.uptime)
    | none => s
  else s

/-- The grant of this microsecond may still change, since the drive chooses once the microsecond's hand-overs and removals
have been taken (R152). An APPLY that the run's end has found started stands (R134, log entry 17). -/
def State.grantOpen (s : State) : Bool :=
  match s.pins.drive with
  | .busy e u => u == s.uptime && (e.kind == .release || (s.slot e.slot).releaseEnd == .rep)
  | .free | .recovering _ => false

/-- A relay transition is in flight: one granted in an earlier microsecond, or one of this microsecond whose grant stands. After a
completion in this microsecond none is in flight, whatever the drive has granted since (R158, R169, log entry 17). -/
def State.relayBusy (s : State) : Bool :=
  match s.pins.drive with
  | .busy _ u => u != s.uptime || (!s.grantOpen && s.pins.completed != some s.uptime)
  | .free | .recovering _ => false

/-- The granted entry waits again and the drive is FREE. -/
def reopenGrant (s : State) : State :=
  match s.pins.drive with
  | .busy e _ => (s.setWaitList (e :: s.pins.waitList)).setDrive .free
  | .free | .recovering _ => s

/-- A change of the wait list; a grant already made in this microsecond is chosen anew among all entries (R152). -/
def regrant (f : State → State) (s : State) : State :=
  if s.grantOpen then relayGrant (f (reopenGrant s)) else f s

/-- Hand an entry to the relay sequencer (R151). -/
def handRelay (e : RelayEntry) (s : State) : State := regrant (fun s => s.setWaitList (s.pins.waitList ++ [e])) s

/-- Withdraw a waiting APPLY entry (R155). -/
def withdrawApply (k : Fin 32) (s : State) : State :=
  s.setWaitList (s.pins.waitList.filter (fun e => !(e.slot == k && e.kind == .apply)))

/-- Close the alignment wait of a slot without setting its path (R149). -/
def closeWait (k : Fin 32) (s : State) : State :=
  forEach allPins
    (fun p s => if (s.wait p).any (fun w => w.slot == k) then s.setWait p none else s) s

/-! ### Repetitions and the end of an activation -/

/-- The slot enters LOADED; a staged copy becomes its record (R115). -/
def toLoaded (k : Fin 32) (s : State) : State :=
  let x := s.slot k
  s.setSlot k { x with state := .loaded, record := x.staged.or x.record, staged := none }

/-- One repetition fewer; ENDLESS stays ENDLESS (R129). -/
def Reps.count : Reps → Reps
  | .finite n => .finite (n - 1)
  | .endless => .endless

/-- The slot enters ARMED after a counted activation (R119, R129). -/
def rearm (k : Fin 32) (s : State) : State :=
  s.setSlot k { s.slot k with state := .armed, occurrences := 0, progress := 0, late := false, releaseEnd := .rep,
                              since := s.uptime }

/-- The slot reaches DONE: FAULT is raised, and a staged copy makes it LOADED (R115, R137). Its progress reads 0, as in the
worked sequence of chapter 6. -/
def toDone (k : Fin 32) (s : State) : State :=
  let s := raiseFault k s
  if (s.slot k).staged.isSome then toLoaded k s else s.setSlot k { s.slot k with state := .done, progress := 0 }

/-- An activation counts one repetition: ARMED while repetitions remain, else DONE (R129). -/
def countRepetition (k : Fin 32) (s : State) : State :=
  let r := (s.slot k).remaining.count
  let s := s.setSlot k { s.slot k with remaining := r }
  if r = .finite 0 then toDone k s else rearm k s

/-- A release is done: the slot holds nothing more and goes where its release end says (R129). -/
def releaseDone (k : Fin 32) (s : State) : State :=
  let s := clearHolders k s
  match (s.slot k).releaseEnd with
  | .rep => countRepetition k s
  | .load => toLoaded k s

/-- A slot in RELEASING hands its release to its owner: an instant release is done in this microsecond, a relay release
goes to the wait list (R126). -/
def handRelease (k : Fin 32) (s : State) : State :=
  match (s.slot k).record with
  | none => releaseDone k s
  | some r =>
    match r.action.relay with
    | some path => handRelay { slot := k, kind := .release, path := path, since := s.uptime } s
    | none => releaseDone k (takeAway r.action s)

/-! ### Cancel and run end of one slot (R131, R133) -/

/-- Whether a cancel or the run's end changes the slot's state or release end (R131, log entry 15). -/
def State.returns (s : State) (k : Fin 32) : Bool :=
  match (s.slot k).state with
  | .armed | .waiting | .aligning | .active => true
  | .pending => !s.inFlight k || (s.slot k).releaseEnd == .rep
  | .releasing => (s.slot k).releaseEnd == .rep
  | .empty | .loaded | .done => false

/-- Return a slot toward LOADED with the outcome CANCELLED or RUN_ENDED, as its state requires (R131, R133). -/
def returnSlot (o : SlotOutcome) (k : Fin 32) (s : State) : State :=
  if s.returns k then
    let s := s.setSlot k { s.slot k with outcome := o }
    match (s.slot k).state with
    | .armed | .waiting => toLoaded k s
    | .aligning => toLoaded k (clearHolders k (closeWait k s))
    | .pending =>
      if s.inFlight k then s.setSlot k { s.slot k with releaseEnd := .load }
      else toLoaded k (clearHolders k (withdrawApply k s))
    | .active => handRelease k (s.setSlot k { s.slot k with state := .releasing, releaseEnd := .load })
    | .releasing => s.setSlot k { s.slot k with releaseEnd := .load }
    | .empty | .loaded | .done => s
  else s

/-- FAULT-CANCEL of one slot. It is taken into the wait list before the drive chooses, so an APPLY granted in this very
microsecond is withdrawn and the drive chooses anew (R155). -/
def cancelSlot (k : Fin 32) (s : State) : State :=
  if (s.slot k).state = .pending ∧ s.inFlight k = true then regrant (returnSlot .cancelled k) s
  else returnSlot .cancelled k s

/-! ### Entries into STARVED (R61) -/

/-- The channel's cause is raised when its select names it (R66). -/
def raiseCause (n : Fin 16) (c : CauseSel) (s : State) : State :=
  if (s.chan n).cause = c then raiseChannel n s else s

/-- A STREAM channel is STARVED with the value it will hold (R61). -/
def starve (n : Fin 16) (v : Nat) (s : State) : State :=
  s.setChan n { s.chan n with active := none, state := .starved, held := some v }

/-- A STREAM channel enters STARVED, raising its STARVED cause (R61, R66). -/
def enterStarved (n : Fin 16) (v : Nat) (s : State) : State := raiseCause n .starved (starve n v s)

/-- The slot in progress has played its period. -/
def State.sampleEndDue (s : State) (n : Fin 16) : Bool :=
  (s.chan n).active.any (fun a => a.ahead == .slot && decide (a.seg.period ≤ a.played))

/-- A pass ends: another pass follows, or the segment ends; a LOOP yields to a queued segment (R58, R59). -/
def ActiveSeg.goesOn (a : ActiveSeg) (queued : Bool) : Bool :=
  if a.seg.rep = 0 then !queued else decide (a.pass < a.seg.rep)

/-- The channel's segment ends at the close of this microsecond with nothing queued behind it (R60). -/
def State.starves (s : State) (n : Fin 16) : Bool :=
  s.sampleEndDue n && (s.chan n).queue.isEmpty
    && (s.chan n).active.any (fun a => decide (a.seg.length ≤ a.index + 1) && !a.goesOn false)

/-! ### The entry to ENDED (R44) -/

/-- The Rotation Generator at the run's end: speed 0, no active point, lines low (R2, R11, R21). DESIGN CHOICE (log entry 28): where
another cause ends the run in a point's last microsecond, before the point's end is taken, the point is discarded (R11) and
no SPEED is raised; R10 and R41 leave that open. -/
def rotationEnd (s : State) : State :=
  { s with rot := { s.rot with speed := 0, active := none, drained := false, crankLine := false,
                               camLines := .replicate 2 false } }

/-- A channel's source at the run's end: STOPPED, no active segment, its queue kept (R52, R65). A channel that starves in this
same microsecond still raises its STARVED cause (R41, R61, log entry 23). -/
def sourceEnd (n : Fin 16) (s : State) : State :=
  let t := if s.starves n then raiseCause n .starved s else s
  t.setChan n { t.chan n with active := none, state := .stopped, held := none }

/-- The transition in flight is an APPLY handed over and granted in this very microsecond: it has started (R134). -/
def State.applyStarted (s : State) : Bool :=
  match s.pins.drive with
  | .busy e u => u == s.uptime && e.since == s.uptime && e.kind == .apply
  | .free | .recovering _ => false

/-- The slot of the transition in flight answers the run's end. -/
def returnGranted (s : State) : State :=
  match s.pins.drive with
  | .busy e _ => returnSlot .runEnded e.slot s
  | .free | .recovering _ => s

/-- Every slot answers the run's end (R133). A grant already made in this microsecond is chosen anew without the APPLYs the run's
end removes and with the RELEASEs it hands over (R152, R155); a transition that has started completes (R134, log entry 17). -/
def returnSlots (s : State) : State :=
  if s.applyStarted then forEach allSlots (returnSlot .runEnded) (returnGranted s)
  else regrant (forEach allSlots (returnSlot .runEnded)) s

/-- The run enters ENDED with its end reason, and every block answers (R44). -/
def enterEnded (r : EndReason) (s : State) : State :=
  let s := { s with run := { s.run with state := .ended, endReason := r, holdTimer := none } }
  let s := raiseRun .ended r s
  let s := rotationEnd s
  returnSlots (forEach allChannels sourceEnd s)

/-! ### End causes (R41, R42) -/

/-- An end cause taken in RUNNING or HELD; in any other state it has no effect (R41). -/
def endCause (r : EndReason) (s : State) : State := if s.inRun then enterEnded r s else s

/-- An end cause that is taken in RUNNING only (R42). -/
def runningCause (r : EndReason) (s : State) : State :=
  if s.run.state = .running then enterEnded r s else s

/-- DISCONNECT: an end cause in RUNNING and HELD, and it also ends an ARMED run (R42). -/
def disconnectCause (s : State) : State :=
  if s.inRun || s.run.state == .armed then enterEnded .disconnect s else s

/-- A channel keeps the drained condition false: an enabled STREAM channel that is not STARVED or has segments queued
(R43). -/
def Channel.undrained (c : Channel) : Bool :=
  c.enable && c.mode == .stream && (c.state != .starved || !c.queue.isEmpty)

/-- The drained condition (R43). -/
def State.drainedNow (s : State) : Bool :=
  s.run.config.endOnDrain && s.inRun && s.rot.drained && allChannels.all (fun n => !(s.chan n).undrained)

/-- The Run Controller tests the drained condition (R43). -/
def drainedTest (s : State) : State := if s.drainedNow then enterEnded .drained s else s

/-- UNDERRUN, taken in RUNNING when stop on underrun is set (R42). -/
def underrunCause (s : State) : State := if s.run.config.stopOnUnderrun then runningCause .underrun s else s

/-- The profile becomes drained: SPEED is raised once (R10). -/
def profileDrained (s : State) : State := raise .speed { s with rot := { s.rot with drained := true } }

/-- The generator has nothing to play, and no drain has been noted (R10). -/
def State.profileEmpty (s : State) : Bool := s.rot.active.isNone && s.rot.queue.isEmpty && !s.rot.drained

/-- The profile is found empty in a run: it becomes drained, and the drained condition is tested (R10, R43). -/
def profileEmptied (s : State) : State := if s.inRun && s.profileEmpty then drainedTest (profileDrained s) else s

/-- The profile found empty at run microsecond 1 becomes drained, unless a push has been taken first (R10). Where another cause has
ended the run before it in that microsecond, the notice is still raised (R41, log entry 11). -/
def drainAtStart (s : State) : State :=
  if s.inRun then profileEmptied s else if s.profileEmpty then raise .speed s else s

/-- The entry into STARVED is handed to the Run Controller: as UNDERRUN, then to the drained test (R61, log entry 16). -/
def handStarved (s : State) : State := drainedTest (underrunCause s)

end Sys2Proof.Machine
end

