-- ==== Sys2Proof/Machine/Apply.lean ====
section
/-! DEFINITION. Shared operations that put a fault action in force: holding and releasing the run (R31 to R38), entering
ACTIVE (R125), apply (R124 to R127), firing (R121), edge-aligned paths (R145 to R147). -/

namespace Sys2Proof.Machine

/-! ### Hold and release of the run -/

/-- The run enters HELD; the hold timer starts when the TIMEOUT release is enabled (R31, R36). -/
def enterHeld (s : State) : State :=
  raiseRun .held .none
    { s with run := { s.run with
        state := .held
        holdTimer := if s.run.config.timeoutEnable then some (s.uptime + 1000 * s.run.config.timeout) else none } }

/-- A hold finds release flags pending: they are cleared and recorded, and the run goes on (R31, R37). -/
def skipHold (s : State) : State :=
  { s with run := { s.run with
      flags := .clear
      last := { kind := .skipped, events := s.run.flags.events, clock := s.run.clock } } }

/-- A hold taken in RUNNING: entered, or skipped on a pending flag; ignored in every other state (R31, R39). -/
def takeHold (s : State) : State :=
  if s.run.state = .running then (if s.run.flags.any then skipHold s else enterHeld s) else s

/-- A release event: it releases a hold, or it is kept as a pending flag in RUNNING; discarded in every other state
(R33 to R37). -/
def releaseEvent (e : ReleaseEvent) (s : State) : State :=
  match s.run.state with
  | .held =>
    raiseRun .running .none
      { s with run := { s.run with
          state := .running
          holdTimer := none
          last := { kind := .released, events := e.only, clock := s.run.clock } } }
  | .running => { s with run := { s.run with flags := s.run.flags.set e } }
  | .idle | .armed | .ended => s

/-! ### Apply -/

/-- A source value while nothing is produced: the rest code of an analog channel, 0 for a pulse channel (R51). -/
def Channel.restSource (n : Fin 16) (c : Channel) : Nat := if n.val < 12 then c.restCode else 0

/-- The value a FREEZE captures: the source value last produced, or the rest value of a disabled channel (R80). -/
def State.frozenValue (s : State) (n : Fin 16) : Nat :=
  let c := s.chan n
  if c.enable then c.source else c.restSource n

/-- APPLIED, or LATE when the late mark is set (R125). -/
def Slot.applied (x : Slot) : SlotOutcome := if x.late then .late else .applied

/-- The slot enters ACTIVE with an outcome, its progress at 0 (R125, R128). -/
def enterActive (k : Fin 32) (o : SlotOutcome) (s : State) : State :=
  s.setSlot k { s.slot k with state := .active, progress := 0, outcome := o }

/-- The activation meets a held target (R124). -/
def conflict (k : Fin 32) (s : State) : State :=
  countRepetition k (raiseFault k (s.setSlot k { s.slot k with outcome := .conflict }))

/-- A run action is handed over and its activation is complete: the outcome is written and the repetition counted before
the Run Controller answers (R127, R134). -/
def runAction (k : Fin 32) (s : State) : State :=
  countRepetition k (s.setSlot k { s.slot k with outcome := (s.slot k).applied })

/-- The switch path of OPEN or SHORT_GND (R143). -/
def switchPath (ground : Bool) : Path := if ground then .shortGnd else .openPath

/-- OPEN or SHORT_GND at apply: the path at once, or an alignment wait for the source the pin carries (R144, R145). -/
def applySwitch (k : Fin 32) (p : Fin 24) (ground aligned : Bool) (s : State) : State :=
  if aligned then
    (s.setWait p (some { slot := k, ground := ground, source := getAt s.pins.map p, since := s.uptime })).setSlot k
      { s.slot k with state := .aligning }
  else enterActive k (s.slot k).applied (s.setPath p (switchPath ground))

/-- A relay path at apply: the slot is PENDING and its entry goes to the relay sequencer (R125, R151). -/
def applyRelay (k : Fin 32) (path : RelayPath) (s : State) : State :=
  handRelay { slot := k, kind := .apply, path := path, since := s.uptime } (s.setSlot k { s.slot k with state := .pending })

/-- After a successful holder check the slot proceeds by its action (R125). -/
def proceed (k : Fin 32) (r : FaultRecord) (s : State) : State :=
  let act := fun (s : State) => enterActive k (s.slot k).applied s
  match r.action with
  | .openPin p => applySwitch k p false r.aligned s
  | .shortGnd p => applySwitch k p true r.aligned s
  | .shortSupply p => applyRelay k (.supply p) s
  | .bridge p q => applyRelay k (.bridge p q) s
  | .freeze n => act (setModifier n (some (.freeze (s.frozenValue n))) s)
  | .force n v => act (setModifier n (some (.force v)) s)
  | .offset n d => act (setModifier n (some (.offset d)) s)
  | .toothDrop i => act (setCrankMod (some (.toothDrop i)) s)
  | .crankShift d => act (setCrankMod (some (.shift d)) s)
  | .camHold c => act (setCamMod c (some (.hold (getAt s.rot.camLines c))) s)
  | .camShift c d => act (setCamMod c (some (.shift d)) s)
  | .battDrop => act (setBattDrop true s)
  | .ignDrop => act (setIgnDrop true s)
  | .holdRun => takeHold (runAction k s)
  | .endRun => endCause .faultEnd (runAction k s)

/-- Apply: CONFLICT when a target has a holder, else the slot becomes the holder and proceeds (R123, R124). -/
def applySlot (k : Fin 32) (s : State) : State :=
  match (s.slot k).record with
  | none => s
  | some r =>
    if r.action.targets.any (fun t => (s.holder t).isSome) then conflict k s
    else proceed k r (takeHolders k r.action.targets s)

/-! ### Firing (R121) -/

/-- The record and repetitions of the activation that fires: a staged copy is taken first (R115). -/
def takeStaged (k : Fin 32) (s : State) : State :=
  let x := s.slot k
  match x.staged with
  | some r => s.setSlot k { x with record := some r, staged := none, remaining := .ofRepeat r.rep, progress := 0 }
  | none => s.setSlot k { x with progress := 0 }

/-- The trigger fires: apply at once with delay 0, else WAITING (R121). -/
def fire (k : Fin 32) (s : State) : State :=
  let s := takeStaged k s
  match (s.slot k).record with
  | none => s
  | some r => if r.delay = 0 then applySlot k s else s.setSlot k { s.slot k with state := .waiting }

/-- The slot is ARMED and looks for its trigger in this microsecond: it entered ARMED in an earlier one (R119). -/
def State.looks (s : State) (k : Fin 32) : Bool :=
  (s.slot k).state == .armed && decide ((s.slot k).since < s.uptime)

/-- The trigger of the record in use. -/
def State.trigger (s : State) (k : Fin 32) : Option Trigger := (s.slot k).record.map (·.trigger)

/-- Mark the activation late (R120). -/
def setLate (k : Fin 32) (b : Bool) (s : State) : State := s.setSlot k { s.slot k with late := b }

/-- The moment of an AT_START, ANGLE or TIME trigger has come in this run microsecond (R119, R120). -/
def State.triggered (s : State) (k : Fin 32) : Bool :=
  s.looks k
    && (match s.trigger k with
      | some .atStart => true
      | some (.angle x n) => s.hit x && n.all (fun c => c == s.rot.cycle)
      | some (.time v) => decide (v ≤ s.run.clock)
      | some (.capture _ _ _) | some (.line _ _) | some (.afterSlot _) | none => false)

/-- The late mark of a firing by TIME (R120). -/
def markLate (k : Fin 32) (s : State) : State :=
  match s.trigger k with
  | some (.time v) => setLate k (decide (v < s.run.clock)) s
  | some .atStart | some (.angle _ _) | some (.capture _ _ _) | some (.line _ _) | some (.afterSlot _) | none => s

/-- AT_START, ANGLE and TIME triggers at a run microsecond (R120). -/
def runTrigger (k : Fin 32) (s : State) : State := if s.triggered k then fire k (markLate k s) else s

/-- The direction of an edge is one the select names (R98). -/
def EdgeSel.matches (e : EdgeSel) (d : Edge) : Bool :=
  match e, d with
  | .both, _ => true
  | .rise, .rise => true
  | .fall, .fall => true
  | .rise, .fall => false
  | .fall, .rise => false

/-- An offered edge fires a slot in a run microsecond only, since triggers are evaluated there and every apply is made in one
(R119, R123). An edge in the microsecond of a start or of a hold's release is offered and counted (R100, R109), and the
slot waits on with its trigger (log entry 9). -/
def State.edgesFire (s : State) : Bool := s.run.inMicro

/-- An edge is offered to one slot: CAPTURE counts it and fires at the m-th, LINE fires (R100, R120). The count is 0..255
(R111). -/
def offerEdge (input : Fin 10) (d : Edge) (k : Fin 32) (s : State) : State :=
  if s.looks k then
    match s.trigger k with
    | some (.capture c e m) =>
      if c.val = input.val ∧ e.matches d then
        let n := min ((s.slot k).occurrences + 1) 255
        let s := s.setSlot k { s.slot k with occurrences := n }
        if m ≤ n ∧ s.edgesFire = true then fire k s else s
      else s
    | some (.line l e) => if l.val + 8 = input.val ∧ e.matches d ∧ s.edgesFire = true then fire k s else s
    | some .atStart | some (.angle _ _) | some (.time _) | some (.afterSlot _) | none => s
  else s

/-- Slot j has left ACTIVE because its width elapsed: an AFTER_SLOT follower fires (R120). -/
def followSlot (j k : Fin 32) (s : State) : State :=
  if s.looks k && s.trigger k == some (.afterSlot j) then fire k s else s

/-! ### Edge-aligned paths (R145 to R147) -/

/-- An alignment wait ends with its path set and its slot ACTIVE. -/
def setAligned (p : Fin 24) (timeout : Bool) (s : State) : State :=
  match s.wait p with
  | none => s
  | some w =>
    let s := (s.setPath p (switchPath w.ground)).setWait p none
    enterActive w.slot (if timeout then .alignTimeout else (s.slot w.slot).applied) s

/-- A level change of a source is offered to one pin: in RUNNING it ends a wait opened in an earlier microsecond on that
source; in HELD the wait goes on (R145, R146). -/
def offerChange (src : LineSource) (p : Fin 24) (s : State) : State :=
  if s.run.state = .running
      ∧ (s.wait p).any (fun w => w.source == .line src && decide (w.since < s.uptime)) = true then
    setAligned p false s
  else s

/-- A level change of a source is offered to the Pin Matrix (R21, R89). -/
def levelChange (src : LineSource) (s : State) : State := forEach allPins (offerChange src) s

end Sys2Proof.Machine
end

