-- ==== Sys2Proof/Machine/Sources.lean ====
section
/-! DEFINITION. Trace memory and channel sources (chapter 3): TRACE-WRITE, TRACE-READ, WINDOW-SET, SEGMENT-PUSH,
SEGMENT-FLUSH, CHANNEL-SET, the source value of a channel for a run microsecond, and the end of a sample slot. -/

namespace Sys2Proof.Machine

/-! ### Trace requests -/

/-- The address and count of a TRACE-WRITE or TRACE-READ are in range (R48, R49). -/
def traceRange (address count : Nat) : Bool :=
  decide (address < Config.traceSize) && decide (1 ≤ count) && decide (count ≤ Config.traceBurst)
    && decide (address + count ≤ Config.traceSize)

/-- TRACE-WRITE (R48). -/
def reqTraceWrite (address count : Nat) (samples : List Sample) (s : State) : State × Answer :=
  if samples.length ≠ count then refuse s .badLength []
  else if traceRange address count then
    ({ s with trace := s.trace.writeMany address samples }, { status := .ok, body := le 3 address ++ le 1 count })
  else refuse s .badField (le 3 0 ++ le 1 0)

/-- The samples from an address on, in ascending order. -/
def Memory.readMany (m : Memory) (a : Nat) : Nat → List Sample
  | 0 => []
  | n + 1 => m.read a :: Memory.readMany m (a + 1) n

/-- TRACE-READ (R49); a refused one returns the address as sent and a count of 0 (R199). -/
def reqTraceRead (address count : Nat) (s : State) : State × Answer :=
  if traceRange address count then
    (s, { status := .ok, body := le 3 address ++ le 1 count
                                   ++ ((s.trace.readMany address count).map (fun x => le 2 x.toNat)).flatten })
  else refuse s .badField (le 3 address ++ le 1 0)

/-! ### Windows -/

/-- The checks of WINDOW-SET, made whether or not the window is enabled (R68). -/
def parseWindow (w : RawWindow) : Option (Fin 16 × Fin 4 × Window) :=
  match index? 16 w.channel, index? 4 w.window, flag? w.enable with
  | some ch, some i, some en =>
    if w.start < Config.cycleAngle ∧ w.stop < Config.cycleAngle ∧ w.base < Config.traceSize ∧ 1 ≤ w.pitch
        ∧ w.pitch ≤ 7200 then
      some (ch, i, { enable := en, start := w.start, stop := w.stop, base := w.base, pitch := w.pitch })
    else none
  | _, _, _ => none

/-- WINDOW-SET (R68). -/
def reqWindowSet (w : RawWindow) (s : State) : State × Answer :=
  if s.betweenRuns then
    match parseWindow w with
    | some (ch, i, win) =>
      (s.setChan ch { s.chan ch with windows := setAt (s.chan ch).windows i win }, .bare .ok)
    | none => refuse s .badField []
  else refuse s .wrongState []

/-- The offset of θ within a window (R69). -/
def Window.offset (w : Window) (theta : Nat) : Nat := (theta + Config.cycleAngle - w.start) % Config.cycleAngle

/-- Window coverage (R69). -/
def Window.covers (w : Window) (theta : Nat) : Bool :=
  w.enable && decide (w.offset theta ≤ (w.stop + Config.cycleAngle - w.start) % Config.cycleAngle)

/-- The address a covering window reads, before the wrap (R70). -/
def Window.address (w : Window) (theta : Nat) : Nat := w.base + w.offset theta / w.pitch

/-- The lowest-numbered covering window (R70). -/
def Channel.window (c : Channel) (theta : Nat) : Option Window :=
  ([0, 1, 2, 3].map (fun i => getAt c.windows i)).find? (fun w => w.covers theta)

/-! ### Segments -/

/-- The checks of SEGMENT-PUSH, but for the channel's mode (R64). -/
def parseSegment (g : RawSegment) : Option (Fin 16 × Segment) :=
  match index? 16 g.channel with
  | some ch =>
    if g.base < Config.traceSize ∧ 1 ≤ g.length ∧ g.length ≤ 65535 ∧ 1 ≤ g.period ∧ g.period ≤ 65535
        ∧ g.rep ≤ 255 then
      some (ch, { base := g.base, length := g.length, period := g.period, rep := g.rep })
    else none
  | none => none

/-- The queue depth of a channel as a reply byte; a channel that does not exist has none to state. -/
def State.segmentDepth (s : State) (channel : Nat) : List Byte :=
  match index? 16 channel with
  | some ch => le 1 (s.chan ch).queue.length
  | none => unstatedBytes 0x34 1

/-- SEGMENT-PUSH (R64). -/
def reqSegmentPush (g : RawSegment) (s : State) : State × Answer :=
  match parseSegment g with
  | none => refuse s .badField (s.segmentDepth g.channel)
  | some (ch, seg) =>
    let c := s.chan ch
    if c.mode ≠ .stream then refuse s .badField (s.segmentDepth g.channel)
    else if Config.segmentQueue ≤ c.queue.length then refuse s .queueFull (s.segmentDepth g.channel)
    else
      let s' := s.setChan ch { c with queue := c.queue ++ [seg] }
      (s', { status := .ok, body := s'.segmentDepth g.channel })

/-- The channel's take of run microsecond 1 waits for a flush that comes before it: the run has begun and the channel is still
STOPPED (R56, R63, log entry 3). -/
def State.awaitsFlush (s : State) (n : Fin 16) : Bool :=
  let c := s.chan n
  s.inRun && s.run.begun && c.enable && c.state == .stopped && c.active.isNone

/-- The channel's take of run microsecond 1 finds its queue empty: it is STARVED at its rest value, and its STARVED cause and its
hand-over are items of the microsecond (R56, R61, R66). -/
def starveAtStart (n : Fin 16) (s : State) : State :=
  let t := starve n ((s.chan n).restSource n) s
  t.setWork ((if (s.chan n).cause = .starved then [.channelNotice n] else []) ++ [.underrun n] ++ s.run.work)

/-- SEGMENT-FLUSH on one channel (R62): the queue is emptied, an active segment is discarded with the abort flag, and the
channel is then STARVED with the sample of the slot in progress. A STARVED channel whose queue is emptied is put to the
drained test (R43). A take of run microsecond 1 that waits for the flush then finds nothing (R63). -/
def flushChannel (ch : Fin 16) (abort : Bool) (s : State) : State :=
  let c := s.chan ch
  let s := s.setChan ch { c with queue := [] }
  if abort && c.active.isSome then
    if s.inRun then handStarved (enterStarved ch c.source s)
    else s.setChan ch { s.chan ch with active := none }
  else if c.state == .starved && !c.queue.isEmpty then drainedTest s
  else if s.awaitsFlush ch then starveAtStart ch s
  else s

/-- SEGMENT-FLUSH (R62). -/
def reqSegmentFlush (channel abort : Nat) (s : State) : State × Answer :=
  match index? 16 channel, flag? abort with
  | some ch, some f =>
    let c := s.chan ch
    if c.mode = .stream then
      (flushChannel ch f s,
        { status := .ok, body := le 1 c.queue.length ++ [flagByte (f && c.active.isSome)] })
    else (s, { status := .ok, body := le 1 0 ++ [flagByte false] })
  | _, _ => refuse s .badField (le 1 0 ++ [flagByte false])

/-! ### CONST -/

/-- The largest value of a channel's kind (R54, R73). -/
def maxCode (n : Fin 16) : Nat := if n.val < 12 then 4095 else 65535

/-- CHANNEL-SET (R54). -/
def reqChannelSet (channel code : Nat) (s : State) : State × Answer :=
  match index? 16 channel with
  | some ch =>
    if code ≤ maxCode ch then
      (s.setChan ch { s.chan ch with constCode := code }, { status := .ok, body := le 2 code })
    else refuse s .badField (le 2 0)
  | none => refuse s .badField (le 2 0)

/-! ### The source value for a run microsecond (R51) -/

/-- A segment just taken: p = 1, j = 0, nothing played (R56). -/
def Segment.fresh (g : Segment) : ActiveSeg :=
  { seg := g, pass := 1, index := 0, played := 0, sample := 0, ahead := .slot }

/-- The next pass number; that of a LOOP segment stands at 65,535 once it reaches it (R67). -/
def ActiveSeg.nextPass (a : ActiveSeg) : Nat := if a.seg.rep = 0 then min (a.pass + 1) 65535 else a.pass + 1

/-- One run microsecond of an active segment: the slot goes on, or a slot begins and its sample is read (R57, R58). -/
def ActiveSeg.play (a : ActiveSeg) (read : Nat → Nat) : ActiveSeg :=
  match a.ahead with
  | .slot =>
    if a.played = 0 then { a with played := 1, sample := read (a.seg.base + a.index) }
    else { a with played := a.played + 1 }
  | .nextSlot =>
    { a with index := a.index + 1, played := 1, sample := read (a.seg.base + (a.index + 1)), ahead := .slot }
  | .nextPass => { a with pass := a.nextPass, index := 0, played := 1, sample := read a.seg.base, ahead := .slot }

/-- A segment becomes active (R56, R60). -/
def takeSegment (n : Fin 16) (g : Segment) (rest : List Segment) (s : State) : State :=
  s.setChan n { s.chan n with active := some g.fresh, queue := rest, state := .playing }

/-- The channel takes the head of its queue at this run microsecond: from STARVED, or from STOPPED at run microsecond 1
(R56). -/
def State.takes (s : State) (n : Fin 16) : Bool :=
  let c := s.chan n
  c.enable && c.mode == .stream && c.active.isNone && !c.queue.isEmpty

/-- A STREAM channel with no active segment at a run microsecond: it takes the head of its queue, or enters STARVED at
the run's first microsecond (R56). The causes it raises are items of the microsecond. -/
def streamTake (n : Fin 16) (s : State) : State :=
  let c := s.chan n
  match c.active, c.queue with
  | none, g :: rest => takeSegment n g rest s
  | none, [] => if c.state = .starved then s else starve n (c.restSource n) s
  | some _, _ => s

/-- The source value of a STREAM channel for this run microsecond (R57, R61). -/
def streamPlay (n : Fin 16) (s : State) : State :=
  let c := s.chan n
  match c.active with
  | some a =>
    let a := a.play s.traceAt
    s.setChan n { c with active := some a, source := a.sample }
  | none => s.setChan n { c with source := c.held.getD (c.restSource n) }

/-- The source value of an ANGLE_MAP channel at θ (R70). -/
def State.mapValue (s : State) (n : Fin 16) : Nat :=
  match (s.chan n).window s.theta with
  | some w => s.traceAt (w.address s.theta)
  | none => (s.chan n).restSource n

/-- One channel's source value for this run microsecond (R51, R52). A channel of `flushed` makes no take: a flush of this
microsecond comes before it (R63). It reads its held value, or at run microsecond 1 its rest value (R61). -/
def formSource (flushed : List (Fin 16)) (n : Fin 16) (s : State) : State :=
  let c := s.chan n
  if c.enable then
    match c.mode with
    | .const => s.setChan n { c with source := c.constCode, state := .playing }
    | .stream => streamPlay n (if flushed.contains n then s else streamTake n s)
    | .angleMap => s.setChan n { c with source := s.mapValue n, state := .playing }
  else s

/-! ### The end of a sample slot (R57 to R60) -/

/-- A segment ends: the next one is taken, raising the TAKEN cause, or the channel is STARVED with the last sample played
(R60, R66). -/
def segmentEnd (n : Fin 16) (v : Nat) (s : State) : State :=
  match (s.chan n).queue with
  | g :: rest => raiseCause n .taken (takeSegment n g rest s)
  | [] => handStarved (enterStarved n v s)

/-- The sample slot in progress ends at the close of this microsecond (R57). -/
def sampleEnd (n : Fin 16) (s : State) : State :=
  if s.sampleEndDue n then
    let c := s.chan n
    match c.active with
    | none => s
    | some a =>
      if a.index + 1 < a.seg.length then s.setChan n { c with active := some { a with ahead := .nextSlot } }
      else if a.goesOn (!c.queue.isEmpty) then s.setChan n { c with active := some { a with ahead := .nextPass } }
      else segmentEnd n a.sample s
  else s

end Sys2Proof.Machine
end

