-- ==== Sys2Proof/Machine/Channels.lean ====
section
/-! DEFINITION. Stimulus channel outputs (chapter 4): CHANNEL-CONFIG, CHANNEL-READ, the output pipeline, the pulse
generator and the end of a half. -/

namespace Sys2Proof.Machine

/-! ### CHANNEL-CONFIG -/

/-- The rest field: a rest code within the guard on an analog channel, LOW or HIGH on a pulse channel (R74). -/
def parseRest (n : Fin 16) (rest gmin gmax : Nat) : Option (Nat × Bool) :=
  if n.val < 12 then (if gmin ≤ rest ∧ rest ≤ gmax then some (rest, false) else none)
  else (flag? rest).map (fun l => (0, l))

/-- The reference: checked on an analog channel, stored as INTERNAL on a pulse channel (R74, R197). -/
def parseReference (n : Fin 16) (v : Nat) : Option Reference :=
  if n.val < 12 then Reference.ofCode v else some .internal

/-- The new configuration on a channel: its queue is emptied unless the new mode is STREAM, and the clamped flag is clear
after a change of the enable (R53, R75, R77). -/
def Channel.configured (c : Channel) (en : Bool) (m : SourceMode) (rest : Nat × Bool) (ref : Reference)
    (gmin gmax : Nat) (gm : GuardMode) (cause : CauseSel) : Channel :=
  { c with enable := en, mode := m, restCode := rest.1, restLevel := rest.2, reference := ref, gmin := gmin,
           gmax := gmax, guardMode := gm, cause := cause, queue := if m = .stream then c.queue else [],
           clamped := if en = c.enable then c.clamped else false }

/-- The checks of CHANNEL-CONFIG, giving the change it makes to its channel (R74). -/
def parseChannel (r : RawChannelConfig) : Option (Fin 16 × (Channel → Channel)) :=
  match index? 16 r.channel with
  | none => none
  | some n =>
    match flag? r.enable, SourceMode.ofCode r.mode, parseRest n r.rest r.gmin r.gmax, parseReference n r.reference,
      GuardMode.ofCode r.guardMode, CauseSel.ofCode r.cause with
    | some en, some m, some rest, some ref, some gm, some cause =>
      if r.gmin ≤ r.gmax ∧ r.gmax ≤ maxCode n then
        some (n, fun c => c.configured en m rest ref r.gmin r.gmax gm cause)
      else none
    | _, _, _, _, _, _ => none

/-- CHANNEL-CONFIG (R74, R53). -/
def reqChannelConfig (r : RawChannelConfig) (s : State) : State × Answer :=
  if s.betweenRuns then
    match parseChannel r with
    | some (n, f) => (s.setChan n (f (s.chan n)), .bare .ok)
    | none => refuse s .badField []
  else refuse s .wrongState []

/-! ### The output pipeline (R78) -/

/-- Steps 2 to 4: the value after the modifier in force (R80 to R82). -/
def Channel.modified (c : Channel) : Int :=
  match c.modifier with
  | none => c.source
  | some (.freeze v) => v
  | some (.force v) => v
  | some (.offset d) => c.source + d

/-- The guard (R83). -/
def Channel.guarded (c : Channel) (v : Int) : Nat := (min (max v c.gmin) c.gmax).toNat

/-- The value lies outside the guard (R83). -/
def Channel.outside (c : Channel) (v : Int) : Bool := decide (v < c.gmin) || decide ((c.gmax : Int) < v)

/-- The rest state of a channel's output: the rest value, the line steady at the rest level (R76, R77, R88). -/
def Channel.atRest (n : Fin 16) (c : Channel) : Channel :=
  { c with output := c.restSource n, half := none, line := c.restLevel }

/-- The pulse generator at a microsecond with an output value: 0 rests, and an idle generator begins a half at the rest
level (R87, R88). -/
def Channel.pulse (c : Channel) (now : Nat) : Channel :=
  if c.output = 0 then { c with half := none, line := c.restLevel }
  else match c.half with
    | none => { c with half := some { period := c.output, since := now }, line := c.restLevel }
    | some _ => c

/-- The output value of an enabled channel for this run microsecond (R78 steps 2 to 5). -/
def Channel.driven (n : Fin 16) (c : Channel) (now : Nat) : Channel :=
  let v := c.modified
  let c := { c with output := c.guarded v, clamped := c.outside v }
  if n.val < 12 then c else c.pulse now

/-- One channel's output for this run microsecond (R78, R83); a disabled channel forms none (R77). -/
def formOutput (n : Fin 16) (s : State) : State :=
  let c := s.chan n
  s.setChan n (if c.enable then c.driven n s.uptime else { c.atRest n with clamped := false })

/-- The value of this run microsecond lies outside the channel's guard (R83). -/
def Channel.guards (c : Channel) : Bool := c.enable && c.clamped

/-- A channel in STRICT mode whose value of this run microsecond lies outside its guard (R84). -/
def Channel.trips (c : Channel) : Bool := c.guards && c.guardMode == .strict

/-! ### The end of a half (R87, R89) -/

/-- The half in progress has lasted its half-period. -/
def State.halfEndDue (s : State) (n : Fin 16) : Bool :=
  decide (12 ≤ n.val) && (s.chan n).half.any (fun h => s.reached (h.since + h.period))

/-- The channel when its half has ended at microsecond `now`: the next half begins at the opposite level with the output value
as its half-period, or the line rests (R87, R88). -/
def Channel.turned (c : Channel) (now : Nat) : Channel :=
  if c.output = 0 then { c with half := none, line := c.restLevel }
  else { c with half := some { period := c.output, since := now }, line := !c.line }

/-- A pulse line stood at `old` before; a change of it is offered to the Pin Matrix (R89). -/
def offerLine (old : Bool) (n : Fin 16) (s : State) : State :=
  if (s.chan n).line = old then s else levelChange (.channel n) s

/-- The half ends, and a level change of the line is offered (R87, R89). -/
def halfEnd (n : Fin 16) (s : State) : State :=
  if s.halfEndDue n then
    offerLine (s.chan n).line n (s.setChan n ((s.chan n).turned s.uptime))
  else s

/-! ### CHANNEL-READ (R91, R67) -/

/-- OFF 0, ON 1, DISABLED 2 (R91). -/
def State.driverCode (s : State) (c : Channel) : Byte :=
  if c.enable then (if s.sup.driver = .on then 1 else 0) else 2

/-- Pass and sample index; 0 with no active segment (R200). -/
def Channel.progressBytes (c : Channel) : List Byte :=
  match c.active with
  | some a => le 2 a.pass ++ le 2 a.index
  | none => le 2 0 ++ le 2 0

/-- The 20 bytes that report a channel (R91, section 11.4). -/
def State.channelBytes (s : State) (n : Fin 16) : List Byte :=
  let c := s.chan n
  [if n.val < 12 then 0 else 1, flagByte c.enable, s.driverCode c, c.mode.code, c.state.code]
    ++ le 1 c.queue.length ++ [flagByte c.active.isSome] ++ c.progressBytes ++ le 2 c.output
    ++ [levelCode (some (decide (12 ≤ n.val) && c.line)), flagByte c.clamped] ++ ChanMod.bytes c.modifier

/-- CHANNEL-READ (R91). -/
def reqChannelRead (channel : Nat) (s : State) : State × Answer :=
  match index? 16 channel with
  | some n => (s, { status := .ok, body := s.channelBytes n })
  | none => refuse s .badField (unstatedBytes 0x36 20)

end Sys2Proof.Machine
end

