-- ==== Sys2Proof/Machine/Work.lean ====
section
/-! DEFINITION. The items of a run microsecond's work: what is formed at its opening is handed on and raised item by item, so
that requests and other events of the same microsecond may be taken before any of them (R38, R41, R117, R147, R180,
R183, log entry 3). -/

namespace Sys2Proof.Machine

/-- The pulses of the sweep and of the cycle event (R182). -/
def runPulses (s : State) : State :=
  let s := pulseEvent
    (fun r => match r with
      | .angleMark x => s.hit x
      | .off | .runLevel | .holdLevel | .startPulse | .cyclePulse | .slotActive _ | .captureMirror _ => false) s
  if s.rot.cycleEvent then pulseEvent (fun r => r == .cyclePulse) s else s

/-- One item of a run microsecond. The other items belong to other steps. -/
def workItem (w : WorkItem) (s : State) : State :=
  match w with
  | .pulses => runPulses s
  | .change src => levelChange src s
  | .channelNotice n => raiseChannel n s
  | .guardNotice n => raiseGuard n s
  | .speedDrain => drainAtStart s
  | .guardTrip _ => runningCause .guardTrip s
  | .underrun _ => handStarved s
  | .slot k => runTrigger k s
  | .runControl | .release | .pointEnd | .sampleEnd _ | .halfEnd _ | .delayEnd _ | .widthEnd _ | .flush _ | .pause => s

/-- Take one item of the present run microsecond, if it is still to be taken. -/
def takeItem (w : WorkItem) (s : State) : State :=
  if s.run.work.contains w then workItem w (s.setWork (s.run.work.erase w)) else s

/-- Take every item that is still to be taken, in their standing order. -/
def finishWork (s : State) : State := forEach s.run.work workItem (s.setWork [])

end Sys2Proof.Machine
end

