-- ==== Sys2Proof/Machine/Run.lean ====
section
/-! DEFINITION. Run Control (chapter 2): RUN-CONFIG, START, HOLD, RESUME, END, CLEAR, the hold timer, and the edges the
Run Controller is offered. -/

namespace Sys2Proof.Machine

/-- A release of the run configuration: a disabled one is not checked and stored as 0 (R26). -/
def parseRelease (n : Nat) [NeZero n] (r : RawRelease) : Option (EdgeRelease n) :=
  match flag? r.enable with
  | none => none
  | some false => some (.disabled n)
  | some true =>
    match index? n r.input, EdgeSel.ofCode r.edge with
    | some i, some e => some { enable := true, input := i, edge := e }
    | _, _ => none

/-- The start mode with its input and edge, which are not checked and stored as 0 under IMMEDIATE (R26). -/
def parseStart (c : RawRunConfig) : Option (StartMode × Fin 2 × EdgeSel) :=
  match StartMode.ofCode c.startMode with
  | none => none
  | some .immediate => some (.immediate, 0, .rise)
  | some .line =>
    match index? 2 c.startInput, EdgeSel.ofCode c.startEdge with
    | some i, some e => some (.line, i, e)
    | _, _ => none

/-- The TIMEOUT release: enabled with 1..65,535 ms, or disabled and stored as 0 (R26). -/
def parseTimeout (c : RawRunConfig) : Option (Bool × Nat) :=
  match flag? c.timeoutEnable with
  | none => none
  | some false => some (false, 0)
  | some true => if 1 ≤ c.timeout ∧ c.timeout ≤ 65535 then some (true, c.timeout) else none

/-- The checks of RUN-CONFIG; a larger start speed is stored as 192,000 (R26). -/
def parseRunConfig (c : RawRunConfig) : Option RunConfig :=
  match parseStart c, parseRelease 2 c.line, parseRelease 8 c.capture, parseTimeout c with
  | some (mode, input, edge), some line, some capture, some (te, t) =>
    if c.startAngle < Config.cycleAngle ∧ c.options < 4 then
      some { startMode := mode, startInput := input, startEdge := edge, startAngle := c.startAngle,
             startSpeed := min c.startSpeed Config.maxSpeed, endOnDrain := c.options.testBit 0,
             stopOnUnderrun := c.options.testBit 1, line := line, capture := capture, timeoutEnable := te,
             timeout := t }
    else none
  | _, _, _, _ => none

/-- RUN-CONFIG (R26). -/
def reqRunConfig (c : RawRunConfig) (s : State) : State × Answer :=
  if s.betweenRuns then
    match parseRunConfig c with
    | none => refuse s .badField []
    | some cfg =>
      ({ s with run := { s.run with config := cfg } },
        .bare (if Config.maxSpeed < c.startSpeed then .clamped else .ok))
  else refuse s .wrongState []

/-- The Rotation Generator at START: angle, cycle count and speed from the configuration, no active point (R2). -/
def rotationStart (c : RunConfig) (r : Rotation) : Rotation :=
  { r with acc := c.startAngle * Config.grainsPerCentidegree, cycle := 0, speed := c.startSpeed, active := none,
           drained := false, prevTheta := c.startAngle, cycleEvent := false }

/-- The Run Controller at START (R28). -/
def runStart (r : Run) : Run :=
  { r with state := if r.config.startMode = .immediate then .running else .armed, endReason := .none, clock := 0,
           flags := .clear, last := .none, holdTimer := none, begun := false, wrapDue := false }

/-- START as it is carried out: the clock, flags, records and log are cleared, the clamped flags too (R28, R77, R108). What
is left of the ended run's last microsecond is taken before (log entry 3). -/
def startRun (s : State) : State :=
  let s := finishWork s
  let s := { s with run := runStart s.run, rot := rotationStart s.run.config s.rot, cap := { s.cap with log := [] } }
  let s := forEach allChannels (fun n s => s.setChan n { s.chan n with clamped := false }) s
  if s.run.state = .running then runStartEvent s else s

/-- The answer of a run command: the status and the run state after the request (section 11.4). -/
def runAnswer (st : Status) (s : State) : State × Answer := (s, { status := st, body := [s.run.state.code] })

/-- START (R28). -/
def reqStart (s : State) : State × Answer :=
  if s.betweenRuns then runAnswer .ok (startRun s) else runAnswer .wrongState s

/-- HOLD (R31). -/
def reqHold (s : State) : State × Answer :=
  if s.run.state = .running then
    runAnswer (if s.run.flags.any then .holdSkipped else .ok) (takeHold s)
  else runAnswer .wrongState s

/-- RESUME (R34). -/
def reqResume (s : State) : State × Answer :=
  if s.inRun then runAnswer .ok (releaseEvent .resume s) else runAnswer .wrongState s

/-- END (R40). -/
def reqEnd (s : State) : State × Answer :=
  if s.inRun || s.run.state == .armed then runAnswer .ok (enterEnded .endRequest s) else runAnswer .wrongState s

/-- CLEAR (R45). -/
def reqClear (s : State) : State × Answer :=
  if s.betweenRuns || s.run.state == .armed then
    runAnswer .ok { s with run := { s.run with state := .idle, endReason := .none, flags := .clear } }
  else runAnswer .wrongState s

/-- The hold timer has expired while the run is HELD (R36). -/
def State.holdTimeoutDue (s : State) : Bool := s.run.state == .held && s.run.holdTimer.any s.reached

/-- The hold timer expires: the hold is released by TIMEOUT (R36). -/
def holdTimeout (s : State) : State := if s.holdTimeoutDue then releaseEvent .timeout s else s

/-- The start edge: the run enters RUNNING from ARMED (R29). -/
def startEdge (s : State) : State :=
  runStartEvent (raiseRun .running .none { s with run := { s.run with state := .running } })

/-- The edge is the start edge of the configuration (R29). -/
def RunConfig.isStart (c : RunConfig) (input : Fin 10) (d : Edge) : Bool :=
  c.startMode == .line && c.startInput.val + 8 == input.val && c.startEdge.matches d

/-- The edge is an enabled LINE release event (R35). -/
def RunConfig.isLineRelease (c : RunConfig) (input : Fin 10) (d : Edge) : Bool :=
  c.line.enable && c.line.input.val + 8 == input.val && c.line.edge.matches d

/-- The edge is an enabled CAPTURE release event (R35). -/
def RunConfig.isCaptureRelease (c : RunConfig) (input : Fin 10) (d : Edge) : Bool :=
  c.capture.enable && c.capture.input.val == input.val && c.capture.edge.matches d

/-- A matching edge is delivered to the Run Controller (R29, R35, R99). -/
def runEdge (input : Fin 10) (d : Edge) (s : State) : State :=
  if s.run.state = .armed then (if s.run.config.isStart input d then startEdge s else s)
  else if s.run.config.isLineRelease input d then releaseEvent .line s
  else if s.run.config.isCaptureRelease input d then releaseEvent .capture s
  else s

end Sys2Proof.Machine
end

