-- ==== Sys2Proof/Machine/Rotation.lean ====
section
/-! DEFINITION. The Rotation Generator (chapter 1): the speed profile, the advance of the angle, the line levels, WHEEL-SET,
CAM-SET, SPEED-PUSH, SPEED-FLUSH and the end of a speed point. -/

namespace Sys2Proof.Machine

/-! ### Speed profile -/

/-- The length of a point (R5). -/
def SpeedPoint.length (p : SpeedPoint) : Nat := max 1 (p.ramp + p.hold)

/-- The speed for the k-th run microsecond of a point begun at speed S0 (R7). -/
def SpeedPoint.speedAt (p : SpeedPoint) (s0 k : Nat) : Nat :=
  if k ≤ p.ramp ∧ 0 < p.ramp then ((s0 : Int) + Int.tdiv (((p.target : Int) - s0) * k) p.ramp).toNat else p.target

/-- Take the head point when none is active (R6). -/
def Rotation.takePoint (r : Rotation) : Rotation :=
  match r.active, r.queue with
  | none, p :: rest => { r with active := some { point := p, s0 := r.speed, k := 0 }, queue := rest }
  | none, [] => r
  | some _, _ => r

/-- The speed of this run microsecond: one more microsecond of the active point, or the speed held (R6). -/
def Rotation.playPoint (r : Rotation) : Rotation :=
  match r.active with
  | none => r
  | some a => { r with active := some { a with k := a.k + 1 }, speed := a.point.speedAt a.s0 (a.k + 1) }

/-- The accumulator advances by 3 × S grains, with the wrap and the cycle count (R1). -/
def Rotation.turn (r : Rotation) : Rotation :=
  let sum := r.acc + 3 * r.speed
  if Config.cycleGrains ≤ sum then
    { r with acc := sum - Config.cycleGrains, cycle := (r.cycle + 1) % Config.cycleCountModulus, cycleEvent := true }
  else { r with acc := sum, cycleEvent := false }

/-- The generator's advance at a run microsecond: speed first, then the angle (R1), the sweep reaching from the angle
before (R3). -/
def Rotation.advance (r : Rotation) : Rotation :=
  ({ r with prevTheta := r.acc / Config.grainsPerCentidegree }.takePoint.playPoint).turn

/-! ### Line levels -/

/-- The pitch P of the wheel (R12). -/
def Wheel.pitch (w : Wheel) : Nat := Config.crankAngle / w.teeth

/-- Tooth i lies in a gap; a gap may run through tooth 0 (R12). -/
def Wheel.inGap (w : Wheel) (i : Nat) : Bool :=
  w.gaps.any (fun g => decide ((i + w.teeth - g.first) % w.teeth < g.count))

/-- The shift of the crank position (R13). -/
def CrankMod.shiftOf : Option CrankMod → Int
  | some (.shift s) => s
  | some (.toothDrop _) | none => 0

/-- Tooth i is dropped (R19). -/
def CrankMod.drops (m : Option CrankMod) (i : Nat) : Bool := m == some (.toothDrop i)

/-- The crank line level at cycle angle θ (R13). -/
def Wheel.level (w : Wheel) (m : Option CrankMod) (theta : Nat) : Bool :=
  if w.teeth = 0 then false
  else
    let p := (((theta : Int) - w.offset - CrankMod.shiftOf m) % (Config.crankAngle : Int)).toNat
    let i := p / w.pitch
    decide (p - i * w.pitch < w.duty) && !w.inGap i && !CrankMod.drops m i

/-- The level of the last edge at or below q, else of the last edge of the list; low for an empty list (R16). -/
def camListLevel (edges : List CamEdge) (q : Nat) : Bool :=
  match (edges.filter (fun e => decide (e.angle ≤ q))).getLast? with
  | some e => e.level
  | none => (edges.getLast?.map (·.level)).getD false

/-- The cam line level at cycle angle θ (R16, R20). -/
def camLevel (edges : List CamEdge) (m : Option CamMod) (theta : Nat) : Bool :=
  match m with
  | some (.hold l) => l
  | some (.shift s) => camListLevel edges (((theta : Int) - s) % (Config.cycleAngle : Int)).toNat
  | none => camListLevel edges theta

/-- The three lines for this run microsecond (R13, R16). -/
def Rotation.withLines (r : Rotation) : Rotation :=
  let theta := r.acc / Config.grainsPerCentidegree
  let cam := fun c => camLevel (getAt r.cams c) (getAt r.camMods c) theta
  { r with crankLine := r.wheel.level r.crankMod theta,
           camLines := setAt (setAt r.camLines 0 (cam 0)) 1 (cam 1) }

/-! ### Requests -/

/-- The teeth a gap covers (R12). -/
def Gap.teethOf (t : Nat) (g : Gap) : List Nat := (List.range g.count).map (fun i => (g.first + i) % t)

/-- A gap's own ranges (R12). -/
def Gap.ok (t : Nat) (g : Gap) : Bool := decide (g.first < t) && decide (1 ≤ g.count) && decide (g.count ≤ 3)

/-- The gaps a WHEEL-SET carries: entries beyond the gap count are not used (R197). -/
def wheelGaps (w : RawWheel) : List Gap :=
  [({ first := w.first0, count := w.count0 } : Gap), { first := w.first1, count := w.count1 }].take w.gapCount

/-- The checks of WHEEL-SET (R12). -/
def parseWheel (w : RawWheel) : Option Wheel :=
  if w.teeth = 0 then some .cleared
  else
    let pitch := Config.crankAngle / w.teeth
    let covered := ((wheelGaps w).map (Gap.teethOf w.teeth)).flatten
    if 4 ≤ w.teeth ∧ w.teeth ≤ 120 ∧ Config.crankAngle % w.teeth = 0 ∧ w.offset < Config.crankAngle
        ∧ 8 ≤ w.duty ∧ w.duty + 8 ≤ pitch ∧ w.gapCount ≤ 2 ∧ (wheelGaps w).all (Gap.ok w.teeth) = true
        ∧ covered.Nodup ∧ 2 * covered.length < w.teeth then
      some { teeth := w.teeth, offset := w.offset, duty := w.duty, gaps := wheelGaps w }
    else none

/-- WHEEL-SET (R12). -/
def reqWheelSet (w : RawWheel) (s : State) : State × Answer :=
  if s.betweenRuns then
    match parseWheel w with
    | none => refuse s .badField []
    | some w => ({ s with rot := { s.rot with wheel := w } }, .bare .ok)
  else refuse s .wrongState []

/-- One edge of a CAM-SET (R15). -/
def parseEdge (e : RawEdge) : Option CamEdge :=
  match flag? e.level with
  | some l => if e.angle < Config.cycleAngle then some { angle := e.angle, level := l } else none
  | none => none

/-- Consecutive edges strictly ascending and at least 8 centidegrees apart (R15). -/
def spaced : List CamEdge → Bool
  | e :: f :: rest => decide (e.angle + 8 ≤ f.angle) && spaced (f :: rest)
  | [_] => true
  | [] => true

/-- The spacing across the wrap: 72,000 − last + first; a list of one edge passes (R15). -/
def spacedWrap (es : List CamEdge) : Bool :=
  match es.head?, es.getLast? with
  | some f, some l => decide (l.angle + 8 ≤ Config.cycleAngle + f.angle)
  | _, _ => true

/-- The law of R15 on an edge list. -/
def camListOk (es : List CamEdge) : Bool :=
  decide (es.length ≤ 16) && spaced es && spacedWrap es && es.all (fun e => decide (e.angle < Config.cycleAngle))

/-- The checks of CAM-SET (R15). -/
def parseCam (edges : List RawEdge) : Option (List CamEdge) :=
  match edges.mapM parseEdge with
  | some es => if camListOk es then some es else none
  | none => none

/-- CAM-SET (R15). -/
def reqCamSet (cam count : Nat) (edges : List RawEdge) (s : State) : State × Answer :=
  if edges.length ≠ count then refuse s .badLength []
  else if s.betweenRuns then
    match index? 2 cam, parseCam edges with
    | some c, some es => ({ s with rot := { s.rot with cams := setAt s.rot.cams c es } }, .bare .ok)
    | _, _ => refuse s .badField []
  else refuse s .wrongState []

/-- A speed point as stored: a larger target is stored as 192,000 (R8). -/
def storedPoint (p : RawPoint) : SpeedPoint :=
  { target := min p.target Config.maxSpeed, ramp := p.ramp, hold := p.hold }

/-- The ramp and hold of a point fit their 3 bytes (R5, R8). -/
def pointInRange (p : RawPoint) : Bool := decide (p.ramp ≤ Config.max24) && decide (p.hold ≤ Config.max24)

/-- The speed queue depth as a reply byte. -/
def State.speedDepth (s : State) : List Byte := le 1 s.rot.queue.length

/-- SPEED-PUSH (R8). A push ends the drained condition (R10). -/
def reqSpeedPush (count : Nat) (points : List RawPoint) (s : State) : State × Answer :=
  if points.length ≠ count then refuse s .badLength []
  else if count = 0 ∨ 4 < count ∨ points.all pointInRange = false then refuse s .badField s.speedDepth
  else if Config.speedQueue < s.rot.queue.length + count then refuse s .queueFull s.speedDepth
  else
    let s' := { s with rot := { s.rot with queue := s.rot.queue ++ points.map storedPoint, drained := false } }
    (s', { status := if points.any (fun p => decide (Config.maxSpeed < p.target)) then .clamped else .ok,
           body := s'.speedDepth })

/-- SPEED-FLUSH (R9). -/
def reqSpeedFlush (alsoActive : Nat) (s : State) : State × Answer :=
  match flag? alsoActive with
  | none => refuse s .badField (le 1 0 ++ [flagByte false])
  | some f =>
    let removed := s.rot.queue.length
    let discarded := f && s.rot.active.isSome
    let s' := { s with rot := { s.rot with queue := [], active := if f then none else s.rot.active } }
    (if discarded || decide (0 < removed) then profileEmptied s' else s',
      { status := .ok, body := le 1 removed ++ [flagByte discarded] })

/-! ### The end of a speed point (R6) -/

/-- The active point has played its length. -/
def State.pointEndDue (s : State) : Bool := s.rot.active.any (fun a => decide (a.point.length ≤ a.k))

/-- The active point ends at the close of its last microsecond (R6, R10). -/
def pointEnd (s : State) : State :=
  if s.pointEndDue then profileEmptied { s with rot := { s.rot with active := none } } else s

end Sys2Proof.Machine
end

