-- ==== Sys2Proof/Machine/Harness.lean ====
section
/-! DEFINITION. The outputs behind the drivers (R21, R85 to R90) and the harness: what each pin is joined to, its switches and
relays, and what its ECU contact and its capture tap see (R141, R143, R156). -/

namespace Sys2Proof.Machine

/-! ### The part's own outputs -/

/-- DRV_EN (R163). -/
def State.drvEn (s : State) : Bool := s.sup.driver == .on

/-- What an output pin is driven with. -/
inductive PinDrive where
  | highImpedance
  | level (high : Bool)
  | code (ref : Reference) (v : Nat)
  deriving DecidableEq, Repr

/-- A pin behind the drivers. -/
def State.driven (s : State) (on : Bool) (d : PinDrive) : PinDrive := if on && s.drvEn then d else .highImpedance

/-- CRANK_OUT (R21). -/
def State.crankOut (s : State) : PinDrive := s.driven true (.level s.rot.crankLine)

/-- CAM0_OUT and CAM1_OUT (R21). -/
def State.camOut (s : State) (c : Fin 2) : PinDrive := s.driven true (.level (getAt s.rot.camLines c))

/-- CH n: the DAC code of an analog channel, the line of a pulse channel (R85, R87, R90). -/
def State.channelOut (s : State) (n : Fin 16) : PinDrive :=
  let c := s.chan n
  s.driven c.pinEnable (if n.val < 12 then .code c.pinRef c.output else .level c.line)

/-- The drive of the line or channel a pin is mapped to (R141). -/
def State.sourceOut (s : State) (src : LineSource) : PinDrive :=
  match src with
  | .crank => s.crankOut
  | .cam c => s.camOut c
  | .channel n => s.channelOut n

/-! ### The switches of a harness pin -/

/-- The relay transition in flight moves this pin's contacts (R156). RECOVERING moves none: relays that a reset has released show
their settled contacts at once, where R160 says only that they drop out within the settle time (DESIGN CHOICE, log entry 25). -/
def State.moving (s : State) (p : Fin 24) : Bool :=
  match s.pins.drive with
  | .busy e _ =>
    match e.path with
    | .supply q => q == p
    | .bridge q r => q == p || r == p
  | .free | .recovering _ => false

/-- The switches of one harness pin; true for closed (R143). -/
structure Switches where
  series : Bool
  ground : Bool
  supplyRelay : Bool
  bridgeRelay : Bool
  deriving DecidableEq, Repr

/-- The pin is the target pin of the BRIDGE that holds it, not the partner (R143). -/
def State.bridgeTarget (s : State) (p : Fin 24) : Bool :=
  ((s.holder (pinTarget p)).bind (fun k => (s.slot k).record)).any (fun r =>
    match r.action with
    | .bridge t _ => t == p
    | .openPin _ | .shortGnd _ | .shortSupply _ | .freeze _ | .force _ _ | .offset _ _ | .toothDrop _
    | .crankShift _ | .camHold _ | .camShift _ _ | .battDrop | .ignDrop | .holdRun | .endRun => false)

/-- The series switch as the path alone sets it (R141, R143). -/
def State.seriesByPath (s : State) (p : Fin 24) : Bool :=
  match s.path p with
  | .normal => getAt s.pins.routed p != .unused
  | .bridge _ => s.bridgeTarget p
  | .openPath | .shortGnd | .shortSupply => false

/-- The switches of a harness pin (R143); its series switch is held open while its relays move (R156). The supply and bridge relays
show the old path until the completion: R150 says only that they pull in or drop out within the 5,000 µs (DESIGN CHOICE, log
entry 26). -/
def State.switches (s : State) (p : Fin 24) : Switches :=
  { series := s.seriesByPath p && !s.moving p
    ground := s.path p == .shortGnd
    supplyRelay := s.path p == .shortSupply
    bridgeRelay := match s.path p with
      | .bridge _ => true
      | .normal | .openPath | .shortGnd | .shortSupply => false }

/-! ### What the ECU side sees -/

/-- What the ECU contact of a harness pin is joined to (R143). -/
inductive Contact where
  /-- An open circuit: no source and no load. -/
  | nothing
  /-- A source of the part, or its pin at high impedance. -/
  | source (d : PinDrive)
  /-- The rig's load for the ECU output line that tap k watches. -/
  | load (k : Fin 8)
  | ground
  /-- The battery feed after its switch, live or dead. -/
  | battery (live : Bool)
  /-- The relay contact while it moves: no source of the part (R156). -/
  | moving
  deriving DecidableEq, Repr

/-- The rig side of a pin: the source the map gives it (R141). -/
def State.rigSide (s : State) (p : Fin 24) : Contact :=
  match getAt s.pins.routed p with
  | .line src => .source (s.sourceOut src)
  | .tap k => .load k
  | .unused => .nothing

/-- What the ECU contact of a pin sees (R143, R156). On a BRIDGE both contacts see the target pin's source. After a reset it sees
what NORMAL gives at once, also while relays the reset released may still be moving (R160; DESIGN CHOICE, log entry 25). -/
def State.contact (s : State) (p : Fin 24) : Contact :=
  if s.moving p then .moving
  else match s.path p with
    | .normal => s.rigSide p
    | .openPath => .nothing
    | .shortGnd => .ground
    | .shortSupply => .battery s.sup.battAct
    | .bridge q => if s.bridgeTarget p then s.rigSide p else s.rigSide q

/-- The level a contact imposes on the ECU line, where it imposes one: ground, a live battery feed, or a line of the part
that drives it. A DAC code is no logic level, and the other contacts leave the line to the ECU (log entry 6). -/
def Contact.imposes : Contact → Option Bool
  | .ground => some false
  | .battery true => some true
  | .source (.level b) => some b
  | .nothing | .source .highImpedance | .source (.code _ _) | .load _ | .battery false | .moving => none

/-- The pin mapped to a capture tap (R141). -/
def State.tapPin (s : State) (k : Fin 8) : Option (Fin 24) :=
  allPins.find? (fun p => getAt s.pins.routed p == .tap k)

/-- The level at CAP_IN k when `line` stands on its ECU line: LOW with no pin mapped to the tap (R141), else what the ECU
side of the pin reads (R143). -/
def State.tapLevel (s : State) (k : Fin 8) (line : Bool) : Bool :=
  match s.tapPin k with
  | none => false
  | some p => (s.contact p).imposes.getD line

end Sys2Proof.Machine
end

