-- ==== Sys2Proof/Machine/Capture.lean ====
section
/-! DEFINITION. The Capture Unit (chapter 5): CAPTURE-CONFIG, LINE-CONFIG, the filter, the delivery of accepted edges, the
capture log, CAPTURE-READ and the run-clock wrap. -/

namespace Sys2Proof.Machine

/-! ### Configuration (R94) -/

/-- The checks of CAPTURE-CONFIG and LINE-CONFIG but for the input number (R94). -/
def parseInput (c : RawInputConfig) : Option (Bool × Nat × EdgeSel) :=
  match flag? c.enable, EdgeSel.ofCode c.edge with
  | some en, some e =>
    if c.interval = 1 ∨ c.interval = 4 ∨ c.interval = 16 then some (en, c.interval, e) else none
  | _, _ => none

/-- An accepted request stores the configuration and restarts the filter (R94). A disabled input loses its level at the next
microsecond. -/
def Input.configured (x : Input) (en : Bool) (interval : Nat) (e : EdgeSel) (now : Nat) : Input :=
  { x with enable := en, interval := interval, edge := e, agree := 0,
           phase := if en then some (now + 1) else none, acquire := true }

/-- Configure one input, or refuse (R94). -/
def configInput (k : Option (Fin 10)) (c : RawInputConfig) (s : State) : State × Answer :=
  if s.betweenRuns then
    match k, parseInput c with
    | some k, some (en, interval, e) =>
      (s.setInput k ((s.input k).configured en interval e s.uptime), .bare .ok)
    | _, _ => refuse s .badField []
  else refuse s .wrongState []

/-- CAPTURE-CONFIG (R94). -/
def reqCaptureConfig (c : RawInputConfig) (s : State) : State × Answer :=
  configInput (if c.input ≤ 7 then index? 10 c.input else none) c s

/-- LINE-CONFIG (R94). -/
def reqLineConfig (c : RawInputConfig) (s : State) : State × Answer :=
  configInput (if c.input ≤ 1 then index? 10 (c.input + 8) else none) c s

/-! ### The level at an input pin -/

/-- The level at an input's pin. -/
def State.pinLevel (s : State) (k : Fin 10) (line : Bool) : Bool :=
  if h : k.val < 8 then s.tapLevel ⟨k.val, h⟩ line else line

/-! ### The capture log (R102 to R105) -/

/-- The record of an edge accepted now, with the HELD mark given (R102). -/
def State.record (s : State) (i : Fin 8) (d : Edge) (held : Bool) : CaptureRecord :=
  { input := i, edge := d, clock := s.run.clock, theta := s.theta, cycle := s.rot.cycle, held := held,
    replaced := false }

/-- Write a record: appended, raising CAPTURE_FILL at the threshold, or replacing the newest of a full log, with
CAPTURE_OVERFLOW (R103 to R105). -/
def writeRecord (r : CaptureRecord) (s : State) : State :=
  if s.cap.log.length < Config.captureLog then
    raiseIf (s.cap.log.length + 1 == s.ntc.threshold) .captureFill
      { s with cap := { s.cap with log := s.cap.log ++ [r] } }
  else
    raise .captureOverflow
      { s with cap := { s.cap with log := s.cap.log.dropLast ++ [{ r with replaced := true }] } }

/-- A matching edge is written to the log when it is on a capture input in RUNNING or HELD (R99, R103). -/
def logEdge (k : Fin 10) (d : Edge) (s : State) : State :=
  if h : k.val < 8 then
    if s.inRun then writeRecord (s.record ⟨k.val, h⟩ d (s.run.state == .held)) s else s
  else s

/-- One delivery of a matching edge; `st` is the run state in which it was accepted (R99). -/
def edgeItem (st : RunState) (k : Fin 10) (d : Edge) (w : WorkItem) (s : State) : State :=
  match w with
  | .runControl => runEdge k d s
  | .slot j => if st = .running then offerEdge k d j s else s
  | .pulses | .change _ | .channelNotice _ | .guardNotice _ | .speedDrain | .guardTrip _ | .underrun _
  | .release | .pointEnd | .sampleEnd _ | .halfEnd _ | .delayEnd _ | .widthEnd _ | .flush _ | .pause => s

/-- The deliveries of an edge in their standing order: the Run Controller, then the slots. -/
def edgeItems : List WorkItem := .runControl :: allSlots.map WorkItem.slot

/-- A matching edge is delivered to its destinations (R99). -/
def deliverEdge (k : Fin 10) (d : Edge) (order : List WorkItem) (s : State) : State :=
  forEach (orderItems order edgeItems) (edgeItem s.run.state k d) (logEdge k d s)

/-! ### The filter (R95, R96) -/

/-- An enabled input is at its sample phase. -/
def State.sampleDue (s : State) (k : Fin 10) : Bool := (s.input k).enable && (s.input k).phase.any s.reached

/-- The input after a sample that finds `lv`, and the accepted edge if there is one (R95, R96). -/
def Input.sample (x : Input) (lv : Bool) : Input × Option Edge :=
  match x.acquire, x.level with
  | false, some old =>
    if lv = old then ({ x with agree := 0 }, none)
    else if x.agree < 2 then ({ x with agree := x.agree + 1 }, none)
    else ({ x with level := some lv, agree := 0 }, some (if lv then .rise else .fall))
  | _, _ => ({ x with level := some lv, agree := 0, acquire := false }, none)

/-- An enabled input is sampled with `line` standing on its line (R95). -/
def sampleInput (k : Fin 10) (line : Bool) (order : List WorkItem) (s : State) : State :=
  if s.sampleDue k then
    let x := s.input k
    let r := x.sample (s.pinLevel k line)
    let s := s.setInput k { r.1 with phase := some (s.uptime + x.interval), wire := line }
    match r.2 with
    | some d => if x.edge.matches d then deliverEdge k d order s else s
    | none => s
  else s

/-! ### Reading the log, and the wrap -/

/-- The accepted level of an input as given to its readers: none for a disabled one (R93, R101). -/
def Input.given (x : Input) : Option Bool := x.level

/-- The ten level bytes (R106). -/
def State.levelBytes (s : State) : List Byte := allInputs.map (fun k => levelCode (s.input k).given)

/-- CAPTURE-READ (R106). -/
def reqCaptureRead (n : Nat) (s : State) : State × Answer :=
  if 1 ≤ n ∧ n ≤ 16 then
    let out := s.cap.log.take n
    let s' := { s with cap := { s.cap with log := s.cap.log.drop n } }
    (s', { status := .ok, body := le 1 out.length ++ le 2 s'.cap.log.length ++ s.levelBytes
                                    ++ (out.map CaptureRecord.bytes).flatten })
  else refuse s .badField (le 1 0 ++ le 2 s.cap.log.length ++ s.levelBytes)

/-- The run clock has wrapped: every record with a clock above 0 is removed, with CAPTURE_OVERFLOW if there was one
(R108). -/
def clockWrap (s : State) : State :=
  if s.run.wrapDue then
    let kept := s.cap.log.filter (fun r => r.clock == 0)
    raiseIf (decide (kept.length < s.cap.log.length)) .captureOverflow
      { s with cap := { s.cap with log := kept }, run := { s.run with wrapDue := false } }
  else s

end Sys2Proof.Machine
end

