-- ==== Sys2Proof/Machine/Faults.lean ====
section
/-! DEFINITION. Fault slots (chapter 6): the checks of a fault record, FAULT-LOAD, FAULT-ARM, FAULT-CANCEL, FAULT-QUERY,
TARGET-QUERY, and the elapse of a delay and of a width. -/

namespace Sys2Proof.Machine

/-! ### The checks of R113 and R201 -/

/-- A target number that names a pin. -/
def pinOf (t : Nat) : Option (Fin 24) := index? 24 t
/-- A target number that names a channel. -/
def chanOf (t : Nat) : Option (Fin 16) := if 24 ≤ t then index? 16 (t - 24) else none
/-- A target number that names a cam line. -/
def camOf (t : Nat) : Option (Fin 2) := if 41 ≤ t then index? 2 (t - 41) else none

/-- An unused field has the one value 0 (R201). -/
def RawUnused.ok (r : RawRecord) (partner value : Bool) : Bool :=
  (partner || r.partner == 0) && (value || r.value == 0)

/-- OFFSET's range on a channel (R113). -/
def offsetOk (n : Fin 16) (d : Int) : Bool := decide (-(maxCode n : Int) ≤ d) && decide (d ≤ maxCode n)

/-- The range of a shift (R113). -/
def shiftOk (d : Int) : Bool := decide (-(Config.maxShift : Int) ≤ d) && decide (d ≤ Config.maxShift)

/-- Target, partner and value suit the action (R113); T is the wheel's present tooth count. A run action's width must be 0 (log
entry 13). DESIGN CHOICE (log entry 29): its measure may be TIME or ANGLE, since it measures the delay (R112); R127 and R201
leave open whether it is an unused field. -/
def parseAction (teeth : Nat) (r : RawRecord) : Option Action :=
  let plain := RawUnused.ok r false false
  let valued := RawUnused.ok r false true
  match r.action with
  | 0x01 => if plain then (pinOf r.target).map .openPin else none
  | 0x02 => if plain then (pinOf r.target).map .shortGnd else none
  | 0x03 => if plain then (pinOf r.target).map .shortSupply else none
  | 0x04 =>
    match pinOf r.target, pinOf r.partner with
    | some p, some q => if p ≠ q ∧ r.value = 0 then some (.bridge p q) else none
    | _, _ => none
  | 0x10 => if plain then (chanOf r.target).map .freeze else none
  | 0x11 => (chanOf r.target).bind (fun n => if valued && offsetOk n r.value then some (.offset n r.value) else none)
  | 0x12 =>
    (chanOf r.target).bind (fun n =>
      if valued && decide (0 ≤ r.value) && decide (r.value ≤ maxCode n) then some (.force n r.value.toNat) else none)
  | 0x20 =>
    if r.target = 40 ∧ valued = true ∧ 0 ≤ r.value ∧ r.value < teeth then some (.toothDrop r.value.toNat) else none
  | 0x21 => if r.target = 40 ∧ valued = true ∧ shiftOk r.value = true then some (.crankShift r.value) else none
  | 0x22 => if plain then (camOf r.target).map .camHold else none
  | 0x23 => (camOf r.target).bind (fun c => if valued && shiftOk r.value then some (.camShift c r.value) else none)
  | 0x30 => if plain ∧ r.target = 43 then some .battDrop else none
  | 0x31 => if plain ∧ r.target = 44 then some .ignDrop else none
  | 0x40 => if plain ∧ r.target = 45 ∧ r.width = 0 then some .holdRun else none
  | 0x41 => if plain ∧ r.target = 45 ∧ r.width = 0 then some .endRun else none
  | _ => none

/-- The trigger parameters of bytes 8..13, as one number with byte 8 lowest (R112, R201). -/
def parseTrigger (slot : Nat) (kind params : Nat) : Option Trigger :=
  match kind with
  | 0 => if params = 0 then some .atStart else none
  | 1 =>
    let x := params % 2 ^ 24
    let n := params / 2 ^ 24 % 2 ^ 16
    if x < Config.cycleAngle then
      match flag? (params / 2 ^ 40) with
      | some true => if n = 0 then some (.angle x none) else none
      | some false => some (.angle x (some n))
      | none => none
    else none
  | 2 =>
    match index? 8 (params % 256), EdgeSel.ofCode (params / 256 % 256) with
    | some i, some e =>
      let m := params / 2 ^ 16 % 256
      if 1 ≤ m ∧ params / 2 ^ 24 = 0 then some (.capture i e m) else none
    | _, _ => none
  | 3 =>
    match index? 2 (params % 256), EdgeSel.ofCode (params / 256 % 256) with
    | some i, some e => if params / 2 ^ 16 = 0 then some (.line i e) else none
    | _, _ => none
  | 4 => if params < Config.clockModulus then some (.time params) else none
  | 5 =>
    match index? 32 params with
    | some j => if j.val ≠ slot then some (.afterSlot j) else none
    | none => none
  | _ => none

/-- The source makes level changes an edge-aligned fault can wait for: channel 12..15, CRANK, CAM0 or CAM1 (R113). -/
def PinSource.alignable : PinSource → Bool
  | .line .crank | .line (.cam _) => true
  | .line (.channel n) => decide (12 ≤ n.val)
  | .tap _ | .unused => false

/-- The edge-aligned flag suits the action and the pin's present source (R113). -/
def alignedOk (m : Vector PinSource 24) (a : Action) (aligned : Bool) : Bool :=
  if aligned then
    match a with
    | .openPin p | .shortGnd p => (getAt m p).alignable
    | .shortSupply _ | .bridge _ _ | .freeze _ | .force _ _ | .offset _ _ | .toothDrop _ | .crankShift _ | .camHold _
    | .camShift _ _ | .battDrop | .ignDrop | .holdRun | .endRun => false
  else true

/-- The record a FAULT-LOAD carries, if it passes every check of R113. -/
def State.parseRecord (s : State) (slot : Nat) (r : RawRecord) : Option FaultRecord :=
  match parseAction s.rot.wheel.teeth r, parseTrigger slot r.trigger r.params, Measure.ofCode r.measure, flag? r.flags with
  | some a, some t, some m, some al =>
    if r.delay ≤ Config.max24 ∧ r.width ≤ Config.max24 ∧ r.rep ≤ 255 ∧ alignedOk s.pins.map a al = true then
      some { action := a, trigger := t, measure := m, delay := r.delay, width := r.width, rep := r.rep, aligned := al }
    else none
  | _, _, _, _ => none

/-! ### FAULT-LOAD, FAULT-ARM, FAULT-CANCEL -/

/-- The slot takes a record at once in EMPTY, LOADED and DONE (R114). -/
def SlotState.idle : SlotState → Bool
  | .empty | .loaded | .done => true
  | .armed | .waiting | .aligning | .pending | .active | .releasing => false

/-- FAULT-LOAD (R113, R114). -/
def reqFaultLoad (slot : Nat) (r : RawRecord) (s : State) : State × Answer :=
  match index? 32 slot, s.parseRecord slot r with
  | some k, some rec =>
    let x := s.slot k
    if x.state.idle then
      (s.setSlot k { x with state := .loaded, record := some rec, staged := none },
        { status := .ok, body := [flagByte false] })
    else (s.setSlot k { x with staged := some rec }, { status := .ok, body := [flagByte true] })
  | _, _ => refuse s .badField [flagByte false]

/-- The mask of the slots that satisfy a test, slot k in bit k. -/
def maskOf (f : Fin 32 → Bool) : SlotMask :=
  (allSlots.filter f).foldl (fun m k => m ||| BitVec.twoPow 32 k.val) 0

/-- The slot is LOADED or DONE, and so can be armed (R118). -/
def State.armable (s : State) (k : Fin 32) : Bool := (s.slot k).state == .loaded || (s.slot k).state == .done

/-- Arm one slot (R118). -/
def armSlot (k : Fin 32) (s : State) : State :=
  let x := s.slot k
  if s.armable k then
    s.setSlot k { x with state := .armed, remaining := .ofRepeat ((x.record.map (·.rep)).getD 0), occurrences := 0,
                         progress := 0, late := false, releaseEnd := .rep, since := s.uptime }
  else s

/-- FAULT-ARM (R118). -/
def reqFaultArm (mask : SlotMask) (s : State) : State × Answer :=
  let named := maskOf (fun k => mask.getLsbD k.val && s.armable k)
  (forEach allSlots (fun k s => if mask.getLsbD k.val then armSlot k s else s) s,
    { status := .ok, body := le 4 named.toNat })

/-- FAULT-CANCEL (R131). -/
def reqFaultCancel (mask : SlotMask) (s : State) : State × Answer :=
  let changed := maskOf (fun k => mask.getLsbD k.val && s.returns k)
  (forEach allSlots (fun k s => if mask.getLsbD k.val then cancelSlot k s else s) s,
    { status := .ok, body := le 4 changed.toNat })

/-! ### FAULT-QUERY and TARGET-QUERY -/

/-- 0 when not PENDING, 1 while the apply waits in the list, 2 while it is in flight (R136, section 11.4). -/
def State.pendingPosition (s : State) (k : Fin 32) : Byte :=
  if (s.slot k).state = .pending then (if s.inFlight k then 2 else 1) else 0

/-- The Remaining field (R136, R200). An ANGLE count may have passed its delay or width when its elapse is still to be taken in
this microsecond; R136 gives no value for the negative rest, and the model shows 0 (DESIGN CHOICE, log entry 24). -/
def Slot.remainingBytes (x : Slot) : List Byte :=
  match x.state, x.record with
  | .waiting, some r => le 4 (r.delay - x.progress)
  | .active, some r => if r.width = 0 then le 4 0xFFFFFFFF else le 4 (r.width - x.progress)
  | _, _ => le 4 0

/-- The 36 bytes that report a slot (R136, section 11.4). -/
def State.slotBytes (s : State) (k : Fin 32) : List Byte :=
  let x := s.slot k
  [x.state.code, s.pendingPosition k, x.releaseEnd.code, x.outcome.code] ++ x.remaining.bytes
    ++ le 1 x.occurrences ++ [flagByte x.staged.isSome] ++ x.remainingBytes ++ [flagByte x.record.isSome]
    ++ (x.record.map FaultRecord.bytes).getD (le 23 0)

/-- FAULT-QUERY (R136). -/
def reqFaultQuery (slot : Nat) (s : State) : State × Answer :=
  match index? 32 slot with
  | some k => (s, { status := .ok, body := s.slotBytes k })
  | none => refuse s .badField (unstatedBytes 0x54 36)

/-- A holder byte: the slot, or 0xFF for none (R200). -/
def holderByte (h : Option (Fin 32)) : Byte := (h.map (fun k => BitVec.ofNat 8 k.val)).getD 0xFF

/-- TARGET-QUERY (R138). -/
def reqTargetQuery (s : State) : State × Answer :=
  (s, { status := .ok, body := allTargets.map (fun t => holderByte (s.holder t))
                                 ++ (allPins.map (fun p => (s.path p).bytes)).flatten })

/-! ### Delays and widths -/

/-- The progress a run microsecond adds to a slot that counts (R122, R128). -/
def Measure.step (m : Measure) (s : State) : Nat :=
  match m with
  | .time => 1
  | .angle => s.sweepSize

/-- A slot in WAITING or ACTIVE counts one run microsecond (R122, R128). -/
def countProgress (k : Fin 32) (s : State) : State :=
  let x := s.slot k
  match x.record with
  | some r =>
    if x.state = .waiting ∨ (x.state = .active ∧ r.width ≠ 0) then
      s.setSlot k { x with progress := x.progress + r.measure.step s }
    else s
  | none => s

/-- The slot is WAITING and its progress has reached its delay (R122). -/
def State.delayDue (s : State) (k : Fin 32) : Bool :=
  (s.slot k).state == .waiting && (s.slot k).record.any (fun r => decide (r.delay ≤ (s.slot k).progress))

/-- The delay elapses: the slot proceeds to apply (R122). -/
def delayEnd (k : Fin 32) (s : State) : State := if s.delayDue k then applySlot k s else s

/-- The slot is ACTIVE and its progress has reached its width; a latched width never elapses (R128). -/
def State.widthDue (s : State) (k : Fin 32) : Bool :=
  (s.slot k).state == .active
    && (s.slot k).record.any (fun r => decide (0 < r.width) && decide (r.width ≤ (s.slot k).progress))

/-- What the elapse of a width does after the slot has left ACTIVE: its own release, and its followers' firings (R128). -/
def widthItem (j : Fin 32) (w : WorkItem) (s : State) : State :=
  match w with
  | .release => if (s.slot j).state = .releasing then handRelease j s else s
  | .slot k => followSlot j k s
  | .pulses | .change _ | .channelNotice _ | .guardNotice _ | .speedDrain | .guardTrip _ | .underrun _
  | .runControl | .pointEnd | .sampleEnd _ | .halfEnd _ | .delayEnd _ | .widthEnd _ | .flush _ | .pause => s

/-- The standing order at the elapse of a width: the release, then the followers. -/
def widthItems : List WorkItem := .release :: allSlots.map WorkItem.slot

/-- The width elapses: RELEASING with release end REPEAT, the release handed on, the followers fired (R128). -/
def widthEnd (k : Fin 32) (order : List WorkItem) (s : State) : State :=
  if s.widthDue k then
    forEach (orderItems order widthItems) (widthItem k)
      (s.setSlot k { s.slot k with state := .releasing, releaseEnd := .rep })
  else s

end Sys2Proof.Machine
end

