-- ==== Sys2Proof/Machine/PinMatrix.lean ====
section
/-! DEFINITION. Pin Matrix and relay sequencer (chapter 7): PIN-MAP, the alignment timeout, the grant and the completions of
relay transitions, the end of the drive's recovery. -/

namespace Sys2Proof.Machine

/-! ### PIN-MAP (R140) -/

/-- Some harness pin has a holder. -/
def State.pinHeld (s : State) : Bool := allPins.any (fun p => (s.holder (pinTarget p)).isSome)

/-- 24 source codes as a map. -/
def parseMap (codes : List Nat) : Option (Vector PinSource 24) :=
  match codes.mapM PinSource.ofCode with
  | some xs => if h : xs.length = 24 then some (Vector.mk xs.toArray (by simp [h])) else none
  | none => none

/-- A source other than UNUSED stands on two pins (R140). -/
def duplicated (m : Vector PinSource 24) : Bool :=
  let used := (allPins.map (getAt m)).filter (fun x => x != .unused)
  !decide used.Nodup

/-- PIN-MAP (R140). The switches follow from the next microsecond. -/
def reqPinMap (codes : List Nat) (s : State) : State × Answer :=
  if codes.length ≠ 24 then refuse s .badLength []
  else if !s.betweenRuns || s.pinHeld then refuse s .wrongState []
  else
    match parseMap codes with
    | none => refuse s .badField []
    | some m =>
      if duplicated m then refuse s .duplicate []
      else ({ s with pins := { s.pins with map := m } }, .bare .ok)

/-! ### Alignment timeout (R147) -/

/-- The pin's alignment wait has reached its timeout. -/
def State.alignDue (s : State) (p : Fin 24) : Bool :=
  (s.wait p).any (fun w => s.reached (w.since + Config.alignTimeout))

/-- The timeout expires: the path is set with outcome ALIGN_TIMEOUT (R147). -/
def alignExpire (p : Fin 24) (s : State) : State := if s.alignDue p then setAligned p true s else s

/-! ### The relay drive -/

/-- The transition in flight has lasted the settle time (R150). -/
def State.settledEntry (s : State) (kind : RelayKind) : Option RelayEntry :=
  match s.pins.drive with
  | .busy e u => if e.kind = kind ∧ s.reached (u + Config.relaySettle) = true then some e else none
  | .free | .recovering _ => none

/-- The path an APPLY sets (R153). -/
def setRelayPath (r : RelayPath) (s : State) : State :=
  match r with
  | .supply p => s.setPath p .shortSupply
  | .bridge p q => (s.setPath p (.bridge q)).setPath q (.bridge p)

/-- The path a RELEASE leaves (R154). -/
def clearRelayPath (r : RelayPath) (s : State) : State :=
  match r with
  | .supply p => s.setPath p .normal
  | .bridge p q => (s.setPath p .normal).setPath q .normal

/-- The slot at the completion of its APPLY: ACTIVE, or RELEASING with a RELEASE entry handed over at once when its
release end is LOAD (R153). -/
def applyCompleted (e : RelayEntry) (s : State) : State :=
  match (s.slot e.slot).releaseEnd with
  | .rep => enterActive e.slot (s.slot e.slot).applied s
  | .load =>
    handRelay { e with kind := .release, since := s.uptime } (s.setSlot e.slot { s.slot e.slot with state := .releasing })

/-- The drive is FREE from the completion of its transition, and the microsecond of the completion stands for the Supply Sequencer
(R150, R158). -/
def driveSettled (s : State) : State :=
  { s with pins := { s.pins with drive := .free, completed := some s.uptime } }

/-- An APPLY transition completes (R153); a driver stage waiting for it is made (R168). -/
def relayApplyComplete (s : State) : State :=
  match s.settledEntry .apply with
  | some e => relayCompleted (applyCompleted e (setRelayPath e.path (driveSettled s)))
  | none => s

/-- A RELEASE transition completes: path and holder are cleared together (R154); a driver stage waiting for it is made
(R168). -/
def relayReleaseComplete (s : State) : State :=
  match s.settledEntry .release with
  | some e => relayCompleted (releaseDone e.slot (clearRelayPath e.path (driveSettled s)))
  | none => s

/-- The drive's RECOVERING interval has passed (R150). -/
def State.recoveryDue (s : State) : Bool :=
  match s.pins.drive with
  | .recovering t => s.reached t
  | .free | .busy _ _ => false

/-- The drive is FREE after its RECOVERING interval (R150, R160). -/
def relayRecoveryEnd (s : State) : State := if s.recoveryDue then s.setDrive .free else s

end Sys2Proof.Machine
end

