-- ==== Sys2Proof/Machine/Supply.lean ====
section
/-! DEFINITION. ECU Supply Sequencer (chapter 8): SUPPLY-CONFIG, SUPPLY-SET, the waits, connect sense and the disconnect
shutdown. -/

namespace Sys2Proof.Machine

/-- SUPPLY-CONFIG (R165). -/
def reqSupplyConfig (mode : Nat) (s : State) : State × Answer :=
  match SupplyMode.ofCode mode with
  | some m => ({ s with sup := { s.sup with mode := m } }, .bare .ok)
  | none => refuse s .badField []

/-- The six state bytes of the SUPPLY-SET reply (R164, section 11.4). -/
def State.supplyBytes (s : State) : List Byte :=
  [flagByte s.sup.battCmd, flagByte s.sup.ignCmd, flagByte s.sup.battAct, flagByte s.sup.ignAct,
   flagByte s.sup.drvReq, s.sup.driver.code]

/-- The pending stages of a shutdown are cancelled (R164, R168). -/
def cancelShutdown (s : State) : State := { s with sup := { s.sup with shutdown := .none } }

/-- SUPPLY-SET (R164). -/
def reqSupplySet (battery ignition driver : Nat) (s : State) : State × Answer :=
  match flag? battery, flag? ignition, flag? driver with
  | some b, some i, some d =>
    let s' := commandFeeds b i d (cancelShutdown s)
    (s', { status := .ok, body := s'.supplyBytes })
  | _, _, _ => refuse s .badField s.supplyBytes

/-- The feed stage of a shutdown is due (R168). -/
def State.feedStageDue (s : State) : Bool :=
  match s.sup.shutdown with
  | .feed t => s.reached t
  | .none | .driver => false

/-- The feed stage: both feeds are commanded OFF and the shutdown is complete (R168). -/
def feedStage (s : State) : State :=
  if s.feedStageDue then commandFeeds false false s.sup.drvReq (cancelShutdown s) else s

/-- The battery-first wait has passed (R162). -/
def State.ignitionDue (s : State) : Bool :=
  !s.sup.waitDone && s.sup.waitStart.any (fun t => s.reached (t + Config.ignitionWait))

/-- The battery-first wait is satisfied; the ignition comes ON when its other conditions hold (R162). -/
def ignitionWaitEnd (s : State) : State :=
  if s.ignitionDue then settleFeeds { s with sup := { s.sup with waitDone := true } } else s

/-- The wake timer has passed (R163). -/
def State.wakeDue (s : State) : Bool :=
  match s.sup.driver with
  | .wakeWait w => s.reached (w + Config.wakeWait)
  | .off | .on => false

/-- The drivers reach ON; SUPPLY is raised (R163, R172). -/
def wakeWaitEnd (s : State) : State :=
  if s.wakeDue then raise .supply { s with sup := { s.sup with driver := .on } } else s

/-- An accepted disconnection: SUPPLY, DISCONNECT to the Run Controller, and in AUTO mode the shutdown, whose driver stage
waits for a relay transition in flight (R168). -/
def disconnect (s : State) : State :=
  let s := disconnectCause (raise .supply { s with sup := { s.sup with conn := .disconnected } })
  if s.sup.mode = .auto then
    if s.relayBusy then { s with sup := { s.sup with shutdown := .driver } } else driverStage s
  else s

/-- The reading of CONN_SENSE that a microsecond has, low when connected (R166). -/
def readSense (s : State) : State :=
  let s := { s with sup := { s.sup with sensed := true } }
  match s.sup.conn, s.sup.connPin with
  | .disconnected, false => { s with sup := { s.sup with conn := .debouncing s.uptime } }
  | .debouncing _, true => { s with sup := { s.sup with conn := .disconnected } }
  | .connected, true => disconnect s
  | .disconnected, true => s
  | .debouncing _, false => s
  | .connected, false => s

/-- The level at the CONN_SENSE pin is now `high`. The pin is read once in a microsecond: here, if it has not been read in this
one; else the next microsecond reads the level (R166, R174). -/
def senseChange (high : Bool) (s : State) : State :=
  let t := { s with sup := { s.sup with connPin := high } }
  if s.sup.sensed then t else readSense t

/-- The reading of this microsecond is still to come and will change the connect-sense state (R166). -/
def State.senseDue (s : State) : Bool :=
  !s.sup.sensed &&
    match s.sup.conn with
    | .disconnected => !s.sup.connPin
    | .debouncing _ | .connected => s.sup.connPin

/-- The debounce of a connection has passed, and this microsecond's reading found the loop closed or will find it so (R166). -/
def State.connectDue (s : State) : Bool :=
  match s.sup.conn with
  | .debouncing w => (s.sup.sensed || !s.sup.connPin) && s.reached (w + Config.debounce)
  | .disconnected | .connected => false

/-- An accepted connection, by this microsecond's reading: SUPPLY, and in AUTO mode everything commanded ON (R166, R167). -/
def connectionAccepted (s : State) : State :=
  if s.connectDue then
    let s := raise .supply { s with sup := { s.sup with conn := .connected, sensed := true } }
    if s.sup.mode = .auto then commandFeeds true true true s else s
  else s

end Sys2Proof.Machine
end

