-- ==== Sys2Proof/Machine/Notices.lean ====
section
/-! DEFINITION. Notices and trigger outputs (chapter 9): NOTICE-CONFIG, NOTICE-READ, TRIGGER-ROUTE, the end of a pulse. -/

namespace Sys2Proof.Machine

/-- Eight enable flags, RUN first, as a set (R178). -/
def parseEnables : List Nat → Option (BitVec 8)
  | es =>
    match es.mapM flag? with
    | some bs => if bs.length = 8 then some (BitVec.ofNat 8 (bits bs)) else none
    | none => none
where
  bits : List Bool → Nat
    | [] => 0
    | b :: rest => (if b then 1 else 0) + 2 * bits rest

/-- NOTICE-CONFIG (R178). -/
def reqNoticeConfig (enables : List Nat) (threshold : Nat) (s : State) : State × Answer :=
  if enables.length ≠ 8 then refuse s .badLength []
  else
    match parseEnables enables with
    | some e =>
      if 1 ≤ threshold ∧ threshold ≤ Config.captureLog then
        ({ s with ntc := { s.ntc with enables := e, threshold := threshold } }, .bare .ok)
      else refuse s .badField []
    | none => refuse s .badField []

/-- A data field of the NOTICE-READ reply: sent as 0 for a kind that is not returned (R179, R200). -/
def dataOf (returned : Bool) (bs : List Byte) : List Byte := if returned then bs else bs.map (fun _ => 0)

/-- The 11 bytes that report the pending kinds (section 11.4). -/
def State.noticeBytes (s : State) : List Byte :=
  [s.ntc.pending] ++ dataOf (s.isPending .run) [s.ntc.runState.code, s.ntc.runReason.code]
    ++ dataOf (s.isPending .channel) (le 2 s.ntc.channelMask.toNat)
    ++ dataOf (s.isPending .guardTrip) (le 2 s.ntc.guardMask.toNat)
    ++ dataOf (s.isPending .fault) (le 4 s.ntc.faultMask.toNat)

/-- NOTICE-READ: every pending kind is returned and cleared (R179). -/
def reqNoticeRead (s : State) : State × Answer :=
  ({ s with ntc := { s.ntc with pending := 0, runState := .idle, runReason := .none, channelMask := 0, guardMask := 0,
                                faultMask := 0 } },
    { status := .ok, body := s.noticeBytes })

/-- A route source and its parameter; the parameter of a source that takes none is not checked (R183, R197). -/
def parseRoute (source param : Nat) : Option Route :=
  match source with
  | 0 => some .off
  | 1 => some .runLevel
  | 2 => some .holdLevel
  | 3 => some .startPulse
  | 4 => if param < Config.cycleAngle then some (.angleMark param) else none
  | 5 => some .cyclePulse
  | 6 => (index? 32 param).map .slotActive
  | 7 => (index? 10 param).map .captureMirror
  | _ => none

/-- TRIGGER-ROUTE (R183). -/
def reqTriggerRoute (line source param : Nat) (s : State) : State × Answer :=
  match index? 4 line, parseRoute source param with
  | some l, some r =>
    ({ s with ntc := { s.ntc with routes := setAt s.ntc.routes l r, timers := setAt s.ntc.timers l none } }, .bare .ok)
  | _, _ => refuse s .badField []

/-- The line's pulse timer has passed its last microsecond (R182). -/
def State.pulseDue (s : State) (l : Fin 4) : Bool := (getAt s.ntc.timers l).any (fun t => decide (t < s.uptime))

/-- The pulse timer becomes idle after its last microsecond (R182). -/
def pulseEnd (l : Fin 4) (s : State) : State := if s.pulseDue l then s.setTimer l none else s

end Sys2Proof.Machine
end

