-- ==== Sys2Proof/Machine/Link.lean ====
section
/-! DEFINITION. The rig link (chapter 10): the CRC, the reading of a request's payload, the requests IDENTIFY, STATUS and
UNIT-RESET, the handing of a request to its block, the port, the receiver and the replies. -/

namespace Sys2Proof.Machine

/-! ### CRC (R186) -/

/-- One message bit: shift toward the high end, and combine with 0x1021 when the bit shifted out differs from it. -/
def crcBit (r : BitVec 16) (b : Bool) : BitVec 16 :=
  if r.msb != b then (r <<< 1) ^^^ 0x1021 else r <<< 1

/-- One byte, most significant bit first. -/
def crcByte (r : BitVec 16) (b : Byte) : BitVec 16 :=
  [7, 6, 5, 4, 3, 2, 1, 0].foldl (fun r i => crcBit r (b.getLsbD i)) r

/-- The frame CRC over the length, the kind and the payload. -/
def crc16 (bs : List Byte) : BitVec 16 := bs.foldl crcByte 0xFFFF

/-- The two CRC characters, high byte first. -/
def crcBytes (bs : List Byte) : List Byte :=
  [(crc16 bs).extractLsb' 8 8, (crc16 bs).extractLsb' 0 8]

/-! ### Reading a payload (R197, R198) -/

/-- What a frame's kind and payload ask for. -/
inductive Parsed where
  | unknownKind
  | badLength
  | request (c : Instr)
  deriving DecidableEq, Repr

/-- A payload of fixed fields (R198). -/
def fixedForm (ws : List Nat) (p : List Byte) (f : List Nat → Instr) : Parsed :=
  match fields ws p with
  | some v => .request (f v)
  | none => .badLength

/-- A field by its place. -/
def at' (v : List Nat) (i : Nat) : Nat := v.getD i 0

/-- The points of a SPEED-PUSH, nine bytes each. -/
def rawPoints : List Byte → List RawPoint
  | a :: b :: c :: d :: e :: f :: g :: h :: i :: rest =>
    { target := unle [a, b, c], ramp := unle [d, e, f], hold := unle [g, h, i] } :: rawPoints rest
  | _ => []

/-- The edges of a CAM-SET, four bytes each. -/
def rawEdges : List Byte → List RawEdge
  | a :: b :: c :: l :: rest => { angle := unle [a, b, c], level := l.toNat } :: rawEdges rest
  | _ => []

/-- The samples of a TRACE-WRITE, two bytes each. -/
def rawSamples : List Byte → List Sample
  | a :: b :: rest => BitVec.ofNat 16 (unle [a, b]) :: rawSamples rest
  | _ => []

/-- SPEED-PUSH takes 1 + 9 × count bytes (R198). -/
def parseSpeedPush (p : List Byte) : Parsed :=
  match p with
  | [] => .badLength
  | n :: rest => if rest.length = 9 * n.toNat then .request (.speedPush n.toNat (rawPoints rest)) else .badLength

/-- CAM-SET takes 2 + 4 × count bytes (R198). -/
def parseCamSet (p : List Byte) : Parsed :=
  match p with
  | c :: n :: rest =>
    if rest.length = 4 * n.toNat then .request (.camSet c.toNat n.toNat (rawEdges rest)) else .badLength
  | _ => .badLength

/-- TRACE-WRITE takes 4 + 2 × count bytes (R198). -/
def parseTraceWrite (p : List Byte) : Parsed :=
  match p with
  | a :: b :: c :: n :: rest =>
    if rest.length = 2 * n.toNat then .request (.traceWrite (unle [a, b, c]) n.toNat (rawSamples rest)) else .badLength
  | _ => .badLength

/-- The 19 bytes of RUN-CONFIG. -/
def rawRunConfig (v : List Nat) : RawRunConfig :=
  { startMode := at' v 0, startInput := at' v 1, startEdge := at' v 2, startAngle := at' v 3, startSpeed := at' v 4,
    options := at' v 5, line := { enable := at' v 6, input := at' v 7, edge := at' v 8 },
    capture := { enable := at' v 9, input := at' v 10, edge := at' v 11 },
    timeoutEnable := at' v 12, timeout := at' v 13 }

/-- The 10 bytes of WHEEL-SET. -/
def rawWheel (v : List Nat) : RawWheel :=
  { teeth := at' v 0, offset := at' v 1, duty := at' v 2, gapCount := at' v 3, first0 := at' v 4, count0 := at' v 5,
    first1 := at' v 6, count1 := at' v 7 }

/-- The 12 bytes of CHANNEL-CONFIG. -/
def rawChannel (v : List Nat) : RawChannelConfig :=
  { channel := at' v 0, enable := at' v 1, mode := at' v 2, rest := at' v 3, reference := at' v 4, gmin := at' v 5,
    gmax := at' v 6, guardMode := at' v 7, cause := at' v 8 }

/-- The 14 bytes of WINDOW-SET. -/
def rawWindow (v : List Nat) : RawWindow :=
  { channel := at' v 0, window := at' v 1, enable := at' v 2, start := at' v 3, stop := at' v 4, base := at' v 5,
    pitch := at' v 6 }

/-- The 9 bytes of SEGMENT-PUSH. -/
def rawSegment (v : List Nat) : RawSegment :=
  { channel := at' v 0, base := at' v 1, length := at' v 2, period := at' v 3, rep := at' v 4 }

/-- The 4 bytes of CAPTURE-CONFIG and LINE-CONFIG. -/
def rawInput (v : List Nat) : RawInputConfig :=
  { input := at' v 0, enable := at' v 1, interval := at' v 2, edge := at' v 3 }

/-- The 23 bytes of a fault-slot record, after the slot number (R201). -/
def rawRecord (v : List Nat) : RawRecord :=
  { action := at' v 1, target := at' v 2, partner := at' v 3, value := unleInt32 (at' v 4), trigger := at' v 5,
    params := at' v 6, measure := at' v 7, delay := at' v 8, width := at' v 9, rep := at' v 10, flags := at' v 11 }

/-- The request a kind and payload carry, by the codes of section 11.3 and the fields of section 11.4. -/
def parseRequest (kind : Byte) (p : List Byte) : Parsed :=
  match kind.toNat with
  | 0x01 => fixedForm [] p (fun _ => .identify)
  | 0x02 => fixedForm [1] p (fun v => .status (at' v 0))
  | 0x03 => fixedForm [] p (fun _ => .unitReset)
  | 0x10 => fixedForm [1, 1, 1, 3, 3, 1, 1, 1, 1, 1, 1, 1, 1, 2] p (fun v => .runConfig (rawRunConfig v))
  | 0x11 => fixedForm [] p (fun _ => .start)
  | 0x12 => fixedForm [] p (fun _ => .hold)
  | 0x13 => fixedForm [] p (fun _ => .resume)
  | 0x14 => fixedForm [] p (fun _ => .endRun)
  | 0x15 => fixedForm [] p (fun _ => .clear)
  | 0x20 => fixedForm [1, 2, 2, 1, 1, 1, 1, 1] p (fun v => .wheelSet (rawWheel v))
  | 0x21 => parseCamSet p
  | 0x22 => parseSpeedPush p
  | 0x23 => fixedForm [1] p (fun v => .speedFlush (at' v 0))
  | 0x30 => parseTraceWrite p
  | 0x31 => fixedForm [3, 1] p (fun v => .traceRead (at' v 0) (at' v 1))
  | 0x32 => fixedForm [1, 1, 1, 2, 1, 2, 2, 1, 1] p (fun v => .channelConfig (rawChannel v))
  | 0x33 => fixedForm [1, 1, 1, 3, 3, 3, 2] p (fun v => .windowSet (rawWindow v))
  | 0x34 => fixedForm [1, 3, 2, 2, 1] p (fun v => .segmentPush (rawSegment v))
  | 0x35 => fixedForm [1, 1] p (fun v => .segmentFlush (at' v 0) (at' v 1))
  | 0x36 => fixedForm [1] p (fun v => .channelRead (at' v 0))
  | 0x37 => fixedForm [1, 2] p (fun v => .channelSet (at' v 0) (at' v 1))
  | 0x40 => fixedForm [1, 1, 1, 1] p (fun v => .captureConfig (rawInput v))
  | 0x41 => fixedForm [1] p (fun v => .captureRead (at' v 0))
  | 0x42 => fixedForm [1, 1, 1, 1] p (fun v => .lineConfig (rawInput v))
  | 0x50 => fixedForm (List.replicate 24 1) p (fun v => .pinMap v)
  | 0x51 => fixedForm [1, 1, 1, 1, 4, 1, 6, 1, 3, 3, 1, 1] p (fun v => .faultLoad (at' v 0) (rawRecord v))
  | 0x52 => fixedForm [4] p (fun v => .faultArm (BitVec.ofNat 32 (at' v 0)))
  | 0x53 => fixedForm [4] p (fun v => .faultCancel (BitVec.ofNat 32 (at' v 0)))
  | 0x54 => fixedForm [1] p (fun v => .faultQuery (at' v 0))
  | 0x55 => fixedForm [] p (fun _ => .targetQuery)
  | 0x60 => fixedForm [1] p (fun v => .supplyConfig (at' v 0))
  | 0x61 => fixedForm [1, 1, 1] p (fun v => .supplySet (at' v 0) (at' v 1) (at' v 2))
  | 0x70 => fixedForm [1, 1, 1, 1, 1, 1, 1, 1, 2] p (fun v => .noticeConfig (v.take 8) (at' v 8))
  | 0x71 => fixedForm [] p (fun _ => .noticeRead)
  | 0x72 => fixedForm [1, 1, 3] p (fun v => .triggerRoute (at' v 0) (at' v 1) (at' v 2))
  | _ => .unknownKind

/-! ### IDENTIFY, STATUS, UNIT-RESET (R194 to R196) -/

/-- IDENTIFY (R194). -/
def reqIdentify (s : State) : State × Answer :=
  (s, { status := .ok,
        body := [0x0A] ++ le 2 0x2416 ++ [1] ++ le 1 s.link.address.toNat ++ le 4 Config.traceSize
                  ++ [16, 12, 4, 4, 8, 16, 24, 32, 45, 32] ++ le 2 Config.captureLog ++ [8, 2, 4, 250] })

/-- The 40 bytes of STATUS (R195, section 11.4). -/
def State.statusBytes (s : State) : List Byte :=
  [s.run.state.code, s.run.endReason.code] ++ le 5 s.run.clock
    ++ [s.run.flags.events.byte, s.run.last.kind.code, s.run.last.events.byte] ++ le 5 s.run.last.clock
    ++ le 3 s.theta ++ le 2 s.rot.cycle ++ le 3 s.rot.speed ++ le 1 s.rot.queue.length
    ++ [flagByte s.rot.active.isSome, flagByte s.sup.battCmd, flagByte s.sup.battAct, flagByte s.sup.ignCmd,
        flagByte s.sup.ignAct, flagByte s.sup.drvReq, s.sup.driver.code, s.sup.conn.code, s.sup.mode.code,
        s.sup.shutdown.code]
    ++ le 2 s.link.framing ++ le 2 s.link.crc ++ le 2 s.link.overrun

/-- STATUS, with the clear of the three error counts (R192, R195). -/
def reqStatus (f : Nat) (s : State) : State × Answer :=
  match flag? f with
  | some true =>
    ({ s with link := { s.link with framing := 0, crc := 0, overrun := 0 } }, { status := .ok, body := s.statusBytes })
  | some false => (s, { status := .ok, body := s.statusBytes })
  | none => refuse s .badField s.statusBytes

/-- UNIT-RESET: answered OK; the warm reset follows its reply (R196). -/
def reqUnitReset (s : State) : State × Answer := (s, .bare .ok)

/-! ### Handing a request to its block -/

/-- A request is handed to the block that owns the state it names, and is then in work (R189). Events are no requests. -/
def serve (c : Instr) (s : State) : State :=
  match c with
  | .identify => respond 0x01 (reqIdentify s)
  | .status f => respond 0x02 (reqStatus f s)
  | .unitReset => respond 0x03 (reqUnitReset s)
  | .runConfig c => respond 0x10 (reqRunConfig c s)
  | .start => respond 0x11 (reqStart s)
  | .hold => respond 0x12 (reqHold s)
  | .resume => respond 0x13 (reqResume s)
  | .endRun => respond 0x14 (reqEnd s)
  | .clear => respond 0x15 (reqClear s)
  | .wheelSet w => respond 0x20 (reqWheelSet w s)
  | .camSet c n es => respond 0x21 (reqCamSet c n es s)
  | .speedPush n ps => respond 0x22 (reqSpeedPush n ps s)
  | .speedFlush f => respond 0x23 (reqSpeedFlush f s)
  | .traceWrite a n xs => respond 0x30 (reqTraceWrite a n xs s)
  | .traceRead a n => respond 0x31 (reqTraceRead a n s)
  | .channelConfig c => respond 0x32 (reqChannelConfig c s)
  | .windowSet w => respond 0x33 (reqWindowSet w s)
  | .segmentPush g => respond 0x34 (reqSegmentPush g s)
  | .segmentFlush ch f => respond 0x35 (reqSegmentFlush ch f s)
  | .channelRead ch => respond 0x36 (reqChannelRead ch s)
  | .channelSet ch v => respond 0x37 (reqChannelSet ch v s)
  | .captureConfig c => respond 0x40 (reqCaptureConfig c s)
  | .captureRead n => respond 0x41 (reqCaptureRead n s)
  | .lineConfig c => respond 0x42 (reqLineConfig c s)
  | .pinMap cs => respond 0x50 (reqPinMap cs s)
  | .faultLoad k r => respond 0x51 (reqFaultLoad k r s)
  | .faultArm m => respond 0x52 (reqFaultArm m s)
  | .faultCancel m => respond 0x53 (reqFaultCancel m s)
  | .faultQuery k => respond 0x54 (reqFaultQuery k s)
  | .targetQuery => respond 0x55 (reqTargetQuery s)
  | .supplyConfig m => respond 0x60 (reqSupplyConfig m s)
  | .supplySet b i d => respond 0x61 (reqSupplySet b i d s)
  | .noticeConfig es t => respond 0x70 (reqNoticeConfig es t s)
  | .noticeRead => respond 0x71 (reqNoticeRead s)
  | .triggerRoute l src p => respond 0x72 (reqTriggerRoute l src p s)
  | .frameReceived _ | .brokenCharacter | .characterGapTimeout | .replyStart | .replyEnd | .coldReset _ | .warmReset
  | .initIntervalEnd | .runMicrosecond _ | .speedPointEnd | .sampleSlotEnd _ | .runClockWrap | .delayElapse _
  | .widthElapse _ _ | .holdTimeout | .inputSample _ _ _ | .halfPeriodEnd _ | .alignmentTimeout _ | .relayGrant
  | .relayApplyComplete | .relayReleaseComplete | .relayRecoveryEnd | .feedStage | .ignitionWaitEnd | .wakeWaitEnd
  | .connSenseChange _ | .connectionAccepted | .pulseTimerEnd _ | .addressCharacterReceived _
  | .lengthCharacterReceived _ => s

/-- A frame is handed to its block, or answered UNKNOWN_KIND or BAD_LENGTH (R189, R190). -/
def handFrame (f : Frame) (s : State) : State :=
  match parseRequest f.kind f.payload with
  | .unknownKind => respond f.kind (refuse s .unknownKind [])
  | .badLength => respond f.kind (refuse s .badLength [])
  | .request c => serve c s

/-- A broadcast: the six run and arming kinds take effect without a reply, and every other kind, or one that would be
refused, is ignored (R191). A refused request changes nothing, so its effect is that of the request alone. -/
def takeBroadcast (f : Frame) (s : State) : State :=
  match parseRequest f.kind f.payload with
  | .request .start => (reqStart s).1
  | .request .hold => (reqHold s).1
  | .request .resume => (reqResume s).1
  | .request .endRun => (reqEnd s).1
  | .request .clear => (reqClear s).1
  | .request (.faultArm m) => (reqFaultArm m s).1
  | .request _ | .unknownKind | .badLength => s

/-! ### Error counts (R192) -/

/-- A count goes up by one and stays at 65,535. -/
def bump (n : Nat) : Nat := min (n + 1) Config.maxCount

def countFraming (s : State) : State := { s with link := { s.link with framing := bump s.link.framing } }
def countCrc (s : State) : State := { s with link := { s.link with crc := bump s.link.crc } }
def countOverrun (s : State) : State := { s with link := { s.link with overrun := bump s.link.overrun } }

/-! ### The port (R189) -/

/-- A request arrives: handed when no request is in work, else it waits, else it is discarded with an overrun. -/
def arrive (f : Frame) (s : State) : State :=
  match s.link.inWork, s.link.waiting with
  | none, _ => handFrame f s
  | some _, none => { s with link := { s.link with waiting := some f } }
  | some _, some _ => countOverrun s

/-! ### The receiver (R187, R188) -/

def setReceiver (r : Receiver) (s : State) : State := { s with link := { s.link with receiver := r } }

/-- The microsecond in which the gap after a character received now passes 20 µs (R187). Where the next character's start bit
comes before that, its reception ends the gap (log entry 7). -/
def State.gapEnd (s : State) (follows : Bool) : Nat :=
  s.uptime + (if follows then Config.nextCharacter else Config.characterGap)

/-- The length character (R188): out of range drops the frame with a CRC error. -/
def takeLength (bc : Bool) (c : RxChar) (s : State) : State :=
  if c.data.toNat = 0 ∨ Config.maxLength < c.data.toNat then countCrc (setReceiver .hunting s)
  else setReceiver (.receiving bc [c.data] (s.gapEnd c.follows)) s

/-- A complete frame: length, kind, payload and the two CRC characters (R188). -/
def completeFrame (bc : Bool) (data : List Byte) (s : State) : State :=
  let s := setReceiver .hunting s
  let n := data.length - 2
  let body := data.take n
  if crcBytes body = data.drop n then
    let f : Frame := { kind := body.getD 1 0, payload := body.drop 2 }
    if bc then takeBroadcast f s else arrive f s
  else countCrc s

/-- One data character (R187): discarded unless a frame is in progress; the second CRC character completes it. -/
def takeData (c : RxChar) (s : State) : State :=
  match s.link.receiver with
  | .initializing _ | .hunting => s
  | .receiving bc [] _ => takeLength bc c s
  | .receiving bc (l :: rest) _ =>
    let data := l :: rest ++ [c.data]
    if data.length = l.toNat + 3 then completeFrame bc data s else setReceiver (.receiving bc data (s.gapEnd c.follows)) s

/-- Data characters of a frame, in order; the last of them ends in this microsecond. -/
def receiveFrame (chars : List RxChar) (s : State) : State := forEach chars takeData s

/-- The event abandons a frame in progress with a framing error (R187). -/
def abandonFrame (s : State) : State :=
  match s.link.receiver with
  | .receiving _ _ _ => countFraming (setReceiver .hunting s)
  | .initializing _ | .hunting => s

/-- The gap after the last character of the frame in progress has passed 20 µs (R187). -/
def State.gapOver (s : State) : Bool :=
  match s.link.receiver with
  | .receiving _ _ gap => s.reached gap
  | .initializing _ | .hunting => false

/-- The gap passes 20 µs: the frame in progress is abandoned (R187). -/
def gapTimeout (s : State) : State := if s.gapOver then abandonFrame s else s

/-- An address character taken in HUNTING: bit 7 clear and this unit's address or 15 begins a frame (R187). -/
def huntAddress (c : RxChar) (s : State) : State :=
  let dest := c.data.toNat % 16
  if c.data.toNat < 128 ∧ (dest = s.link.address.toNat ∨ dest = 15) then
    setReceiver (.receiving (dest == 15) [] (s.gapEnd c.follows)) s
  else s

/-- An address character (R187). -/
def receiveAddress (c : RxChar) (s : State) : State :=
  match s.link.receiver with
  | .initializing _ => s
  | .hunting => huntAddress c s
  | .receiving _ _ _ => huntAddress c (abandonFrame s)

/-- The length character of a frame in progress; at any other place no length character is received. -/
def receiveLength (c : RxChar) (s : State) : State :=
  match s.link.receiver with
  | .receiving bc [] _ => takeLength bc c s
  | .receiving _ (_ :: _) _ | .initializing _ | .hunting => s

/-- The initialization interval has passed (R193). -/
def State.initDue (s : State) : Bool :=
  match s.link.receiver with
  | .initializing t => s.reached t
  | .hunting | .receiving _ _ _ => false

/-- The receiver enters HUNTING at the end of the initialization interval (R193). -/
def initEnd (s : State) : State := if s.initDue then setReceiver .hunting s else s

/-! ### Replies (R189, R190) -/

/-- The characters of a reply frame: address, length, kind, payload and CRC (R185, R186). -/
def State.replyFrame (s : State) (w : InWork) : List Byte :=
  let body := BitVec.ofNat 8 (w.reply.length + 1) :: w.replyKind :: w.reply
  (0x80 ||| s.link.address.zeroExtend 8) :: body ++ crcBytes body

/-- The whole microseconds in the reply's n × 2.2 µs (R185). -/
def InWork.sendTime (w : InWork) : Nat := 22 * (w.reply.length + 5) / 10

/-- The n × 2.2 µs of the reply, a part of a microsecond counted whole (R185). -/
def InWork.sendSpan (w : InWork) : Nat := (22 * (w.reply.length + 5) + 9) / 10

def setInWork (w : Option InWork) (s : State) : State := { s with link := { s.link with inWork := w } }

/-- The reply of the request in work begins (R190). -/
def replyStart (s : State) : State :=
  match s.link.inWork with
  | some w => if w.phase = .formed then setInWork (some { w with phase := .sending s.uptime }) s else s
  | none => s

/-- The request in work whose reply can have been sent in full by now (R190, log entry 7). -/
def State.sentReply (s : State) : Option InWork :=
  match s.link.inWork with
  | some w =>
    match w.phase with
    | .sending b => if s.reached (b + w.sendTime) then some w else none
    | .formed | .sent => none
  | none => none

/-- The last character of the reply is sent: a UNIT-RESET's warm reset follows, any other request makes way for the waiting
frame (R189, R196). -/
def replyEnd (s : State) : State :=
  match s.sentReply with
  | none => s
  | some w =>
    if w.resets then
      let s := setInWork (some { w with phase := .sent }) s
      { s with link := { s.link with resetDue := some (s.uptime + 1) } }
    else
      match s.link.waiting with
      | none => setInWork none s
      | some f => handFrame f { s with link := { s.link with inWork := none, waiting := none } }

end Sys2Proof.Machine
end

