-- ==== Sys2Proof/Machine/Resets.lean ====
section
/-! DEFINITION. The two resets (R22, R47, R72, R92, R110, R139, R160, R174, R184, R193, R196). A reset is not a run end: it
raises no notice, counts no repetition and completes no transition. -/

namespace Sys2Proof.Machine

/-- The release of a cold reset with the address straps as they stand: every block takes its cold value. The uptime
count goes on, the levels at the pins stand, and commands still waiting stay (log entries 1 and 6). -/
def coldReset (straps : BitVec 3) (s : State) : State :=
  let keepWire := fun (k : Fin 10) => { Input.cold with wire := (s.input k).wire }
  { State.cold s.uptime straps (Vector.ofFn keepWire) s.sup.connPin with pending := s.pending }

/-- R110: an input after a warm reset; an enabled one takes an acquiring sample at the next microsecond. -/
def Input.afterWarm (x : Input) (now : Nat) : Input :=
  { x with agree := 0, phase := if x.enable then some (now + 1) else none, acquire := true }

/-- R72 and R92: a channel after a warm reset. DESIGN CHOICE (log entry 27): R92 has an enabled channel at its rest value from the
first microsecond after the reset and leaves open what the pin shows in the reset's own; here the rest value, the rest
level and the kept enable and reference stand from the reset on. -/
def Channel.afterWarm (n : Fin 16) (c : Channel) : Channel :=
  { c with queue := [], active := none, state := .stopped, held := none, source := 0, output := c.restSource n,
           clamped := false, modifier := none, line := c.restLevel, half := none, pinEnable := c.enable,
           pinRef := c.reference }

/-- R139: a slot after a warm reset. -/
def Slot.afterWarm (x : Slot) : Slot :=
  { Slot.cold with
    state := if x.state = .empty then .empty else .loaded
    record := if x.state = .empty then none else x.record }

/-- R174: the Supply Sequencer after a warm reset; a pending driver stage is made at the reset, and the actual states and
the drivers follow from the kept commands with no drop. -/
def Supply.afterWarm (u : Supply) (now : Nat) : Supply :=
  let u := { u with battDrop := false, ignDrop := false }
  let u := if u.shutdown = .driver then
      { u with drvReq := false, shutdown := .feed (now + Config.feedStageDelay) }
    else u
  u.settled now

/-- R193: the Link Port after a warm reset. -/
def Link.afterWarm (l : Link) (now : Nat) : Link :=
  { l with receiver := .initializing (now + Config.warmInit), inWork := none, waiting := none, resetDue := none,
           resetAt := now }

/-- Every block takes its warm-reset values. -/
def takeWarm (s : State) : State :=
  let s := forEach allChannels (fun n s => s.setChan n ((s.chan n).afterWarm n)) s
  let s := forEach allInputs (fun k s => s.setInput k ((s.input k).afterWarm s.uptime)) s
  let s := forEach allSlots (fun k s => s.setSlot k (s.slot k).afterWarm) s
  { s with
    run := .afterReset s.run.config
    rot := .afterReset s.rot.wheel s.rot.cams
    cap := { s.cap with log := [] }
    faults := { s.faults with holders := .replicate 45 none }
    pins := .afterReset s.uptime s.pins.map
    sup := s.sup.afterWarm s.uptime
    ntc := .afterReset s.ntc.enables s.ntc.threshold s.ntc.routes
    link := s.link.afterWarm s.uptime }

/-- The microsecond of the warm reset has come (R196). -/
def State.warmDue (s : State) : Bool := s.link.resetDue.any s.reached

/-- The warm reset follows the reply of a UNIT-RESET (R196). -/
def warmReset (s : State) : State := if s.warmDue then takeWarm s else s

end Sys2Proof.Machine
end

