-- ==== Sys2Proof/Machine/Tick.lean ====
section
/-! DEFINITION. Time: the beginning of a microsecond, the events that fall due, the opening and the work of a run
microsecond (R23), and what the block does on its own when no command waits (log entry 1). -/

namespace Sys2Proof.Machine

/-! ### The beginning of a microsecond -/

/-- A configuration taken in the microsecond before reaches the pin (R75). -/
def Channel.reachPin (c : Channel) : Channel := { c with pinEnable := c.enable, pinRef := c.reference }

/-- The channel drives its rest value outside a run, and from where a run begins (R76, R77, R88). -/
def State.restsNow (s : State) : Bool := !s.inRun || !s.run.begun

/-- One channel at the beginning of a microsecond. -/
def beginChannel (n : Fin 16) (s : State) : State :=
  let c := (s.chan n).reachPin
  s.setChan n (if s.restsNow then c.atRest n else c)

/-- A disabled input has the level NONE from the microsecond after its disabling (R94). -/
def beginInput (k : Fin 10) (s : State) : State :=
  let x := s.input k
  if x.enable then s else s.setInput k { x with level := none, phase := none }

/-- A microsecond of uptime begins: configurations reach the pins (R75, R94, R140), and CONN_SENSE has its reading of this
microsecond still to come (R166). -/
def beginMicro (s : State) : State :=
  let s := { s with
    uptime := s.uptime + 1
    run := { s.run with inMicro := false }
    pins := { s.pins with routed := s.pins.map }
    sup := { s.sup with sensed := false } }
  forEach allInputs beginInput (forEach allChannels beginChannel s)

/-! ### Events that fall due -/

/-- The reply of the request in work has not begun and must (R190). -/
def State.replyDue (s : State) : Bool :=
  s.link.inWork.any (fun w => w.phase == .formed && s.reached (w.taken + Config.replyWithin))

/-- The reply of the request in work has surely been sent in full (log entry 7). -/
def State.replySent (s : State) : Bool :=
  s.link.inWork.any (fun w =>
    match w.phase with
    | .sending b => s.reached (b + w.sendSpan)
    | .formed | .sent => false)

/-- The event is due in the present microsecond. -/
def isDue (c : Instr) (s : State) : Bool :=
  match c with
  | .warmReset => s.warmDue
  | .initIntervalEnd => s.initDue
  | .relayRecoveryEnd => s.recoveryDue
  | .runClockWrap => s.run.wrapDue
  | .halfPeriodEnd n => s.halfEndDue n
  | .inputSample k _ _ => s.sampleDue k
  | .speedPointEnd => s.pointEndDue
  | .sampleSlotEnd n => s.sampleEndDue n
  | .delayElapse k => s.delayDue k
  | .widthElapse k _ => s.widthDue k
  | .relayApplyComplete => (s.settledEntry .apply).isSome
  | .relayReleaseComplete => (s.settledEntry .release).isSome
  | .alignmentTimeout p => s.alignDue p
  | .ignitionWaitEnd => s.ignitionDue
  | .wakeWaitEnd => s.wakeDue
  | .connSenseChange high => s.senseDue && high == s.sup.connPin
  | .connectionAccepted => s.connectDue
  | .feedStage => s.feedStageDue
  | .holdTimeout => s.holdTimeoutDue
  | .pulseTimerEnd l => s.pulseDue l
  | .replyStart => s.replyDue
  | .replyEnd => s.replySent
  | .characterGapTimeout => s.gapOver
  | .relayGrant => s.grantDue
  | .identify | .status _ | .unitReset | .runConfig _ | .start | .hold | .resume | .endRun | .clear | .wheelSet _
  | .camSet _ _ _ | .speedPush _ _ | .speedFlush _ | .traceWrite _ _ _ | .traceRead _ _ | .channelConfig _
  | .windowSet _ | .segmentPush _ | .segmentFlush _ _ | .channelRead _ | .channelSet _ _ | .captureConfig _
  | .lineConfig _ | .captureRead _ | .pinMap _ | .faultLoad _ _ | .faultArm _ | .faultCancel _ | .faultQuery _
  | .targetQuery | .supplyConfig _ | .supplySet _ _ _ | .noticeConfig _ _ | .noticeRead | .triggerRoute _ _ _
  | .frameReceived _ | .brokenCharacter | .coldReset _ | .runMicrosecond _
  | .addressCharacterReceived _ | .lengthCharacterReceived _ => false

/-- The time-driven events, in the order in which the block takes those due in one microsecond when no command says
otherwise; the grant of the relay drive comes last, after every hand-over (R152, log entries 1 and 17). -/
def dueEvents (s : State) : List Instr :=
  [.warmReset, .initIntervalEnd, .relayRecoveryEnd, .runClockWrap]
    ++ pulseChannels.map Instr.halfPeriodEnd
    ++ allInputs.map (fun k => Instr.inputSample k (s.input k).wire [])
    ++ [.speedPointEnd] ++ allChannels.map Instr.sampleSlotEnd
    ++ allSlots.map Instr.delayElapse ++ allSlots.map (fun k => Instr.widthElapse k [])
    ++ [.relayApplyComplete, .relayReleaseComplete] ++ allPins.map Instr.alignmentTimeout
    ++ [.ignitionWaitEnd, .wakeWaitEnd, .connSenseChange s.sup.connPin, .connectionAccepted, .feedStage, .holdTimeout]
    ++ allOutputs.map Instr.pulseTimerEnd ++ [.replyStart, .replyEnd, .characterGapTimeout, .relayGrant]

/-- The event the block takes next on its own, if one is due. -/
def nextDue (s : State) : Option Instr := (dueEvents s).find? (fun c => isDue c s)

/-- What a time-driven event does. -/
def takeDue (c : Instr) (s : State) : State :=
  match c with
  | .warmReset => warmReset s
  | .initIntervalEnd => initEnd s
  | .relayRecoveryEnd => relayRecoveryEnd s
  | .runClockWrap => clockWrap s
  | .halfPeriodEnd n => halfEnd n s
  | .inputSample k line order => sampleInput k line order s
  | .speedPointEnd => pointEnd s
  | .sampleSlotEnd n => sampleEnd n s
  | .delayElapse k => delayEnd k s
  | .widthElapse k order => widthEnd k order s
  | .relayApplyComplete => relayApplyComplete s
  | .relayReleaseComplete => relayReleaseComplete s
  | .alignmentTimeout p => alignExpire p s
  | .ignitionWaitEnd => ignitionWaitEnd s
  | .wakeWaitEnd => wakeWaitEnd s
  | .connSenseChange high => senseChange high s
  | .connectionAccepted => connectionAccepted s
  | .feedStage => feedStage s
  | .holdTimeout => holdTimeout s
  | .pulseTimerEnd l => pulseEnd l s
  | .replyStart => replyStart s
  | .replyEnd => replyEnd s
  | .characterGapTimeout => gapTimeout s
  | .relayGrant => relayGrant s
  | .identify | .status _ | .unitReset | .runConfig _ | .start | .hold | .resume | .endRun | .clear | .wheelSet _
  | .camSet _ _ _ | .speedPush _ _ | .speedFlush _ | .traceWrite _ _ _ | .traceRead _ _ | .channelConfig _
  | .windowSet _ | .segmentPush _ | .segmentFlush _ _ | .channelRead _ | .channelSet _ _ | .captureConfig _
  | .lineConfig _ | .captureRead _ | .pinMap _ | .faultLoad _ _ | .faultArm _ | .faultCancel _ | .faultQuery _
  | .targetQuery | .supplyConfig _ | .supplySet _ _ _ | .noticeConfig _ _ | .noticeRead | .triggerRoute _ _ _
  | .frameReceived _ | .brokenCharacter | .coldReset _ | .runMicrosecond _
  | .addressCharacterReceived _ | .lengthCharacterReceived _ => s

/-- Take the events due in this microsecond, at most `fuel` of them. -/
def takeAllDue : Nat → State → State
  | 0, s => s
  | fuel + 1, s =>
    match nextDue s with
    | some c => takeAllDue fuel (takeDue c s)
    | none => s

/-- The microsecond closes: every event due in it is taken. -/
def closeMicro (s : State) : State := takeAllDue 1024 s

/-! ### A run microsecond (R23) -/

/-- The run clock advances (R24); the wrap is marked for the capture log (R108). -/
def Run.tick (r : Run) : Run :=
  let c := (r.clock + 1) % Config.clockModulus
  { r with clock := c, inMicro := true, wrapDue := r.wrapDue || c == 0 }

/-- The clock, the speed, the angle and the line levels for this run microsecond (R24, R1, R13, R16). -/
def advance (s : State) : State := { s with run := s.run.tick, rot := s.rot.advance.withLines }

/-- The command is RUN_MICROSECOND. -/
def isRunMicrosecond : Instr → Bool
  | .runMicrosecond _ => true
  | _ => false

/-- A SEGMENT-FLUSH of channel n waits in the queue of commands, to be taken in this run microsecond: no RUN_MICROSECOND stands
before it. -/
def State.flushAhead (s : State) (n : Fin 16) : Bool :=
  let ahead := s.pending.takeWhile (fun c => !isRunMicrosecond c)
  ahead.contains (.segmentFlush n.val 0) || ahead.contains (.segmentFlush n.val 1)

/-- The channels whose take comes after a flush of the same microsecond, and so finds nothing: RUN_MICROSECOND names the flush,
and the queue holds it (R63, log entry 3). -/
def flushedFirst (order : List WorkItem) (s : State) : List (Fin 16) :=
  allChannels.filter (fun n => order.contains (.flush n) && s.takes n && s.flushAhead n)

/-- What a run microsecond forms, which nothing of the same microsecond goes before but a flush of a channel in `flushed`: the
clock, the angle and the lines, the sources and outputs, the progress of the slots. -/
def formMicro (flushed : List (Fin 16)) (s : State) : State :=
  let s := forEach allChannels formOutput (forEach allChannels (formSource flushed) (advance s))
  let s := forEach allSlots countProgress s
  { s with run := { s.run with begun := true } }

/-- A channel's source takes a segment, or enters STARVED, from `a` to `b`, and its cause select names that (R56, R66). -/
def Channel.causes (a b : Channel) : Bool :=
  match b.cause with
  | .taken => a.active.isNone && b.active.isSome
  | .starved => a.state != .starved && b.state == .starved

/-- The items of a run microsecond formed from `a` to `b` in their standing order, `a` as the microsecond before left it: pulse
events (R182), level changes (R14, R16, R89, a return to the rest level at run microsecond 1 among them), causes of the
sources (R66), entries into STARVED (R61), the profile found empty at the run's first microsecond (R10, R43), values outside
the guard (R83, R84), the slots whose trigger has come (R120). -/
def runItems (a b : State) : List WorkItem :=
  [.pulses] ++ (if a.rot.crankLine = b.rot.crankLine then [] else [.change .crank])
    ++ ([0, 1] : List (Fin 2)).flatMap
        (fun c => if getAt a.rot.camLines c = getAt b.rot.camLines c then [] else [.change (.cam c)])
    ++ pulseChannels.flatMap (fun n => if (a.chan n).line = (b.chan n).line then [] else [.change (.channel n)])
    ++ allChannels.flatMap (fun n => if (a.chan n).causes (b.chan n) then [.channelNotice n] else [])
    ++ allChannels.flatMap
        (fun n => if (a.chan n).state ≠ .starved ∧ (b.chan n).state = .starved then [.underrun n] else [])
    ++ (if !a.run.begun && b.profileEmpty then [.speedDrain] else [])
    ++ allChannels.flatMap (fun n => if (b.chan n).guards then [.guardNotice n] else [])
    ++ allChannels.flatMap (fun n => if (b.chan n).trips then [.guardTrip n] else [])
    ++ allSlots.flatMap (fun k => if b.triggered k then [.slot k] else [])

/-- A run microsecond opens, in a microsecond that has begun after `old`: its values are formed and its items stand to be
taken. -/
def openMicro (order : List WorkItem) (old s : State) : State :=
  let t := formMicro (flushedFirst order s) s
  t.setWork (runItems old t)

/-- One item that RUN_MICROSECOND names: an item of the microsecond's own, or a time-driven event that is due. -/
def namedItem (w : WorkItem) (s : State) : State :=
  match w with
  | .pointEnd => pointEnd s
  | .sampleEnd n => sampleEnd n s
  | .halfEnd n => halfEnd n s
  | .delayEnd k => delayEnd k s
  | .widthEnd k => widthEnd k [] s
  | .pulses | .change _ | .channelNotice _ | .guardNotice _ | .speedDrain | .guardTrip _ | .underrun _
  | .slot _ | .runControl | .release | .flush _ | .pause => takeItem w s

/-- Take the items named, up to a pause, then every other item unless there is a pause (log entry 3). -/
def takeWork (order : List WorkItem) (s : State) : State :=
  let s := forEach (order.takeWhile (fun w => w != .pause)) namedItem s
  if order.contains .pause then s else finishWork s

/-- A microsecond outside RUNNING begins; a pulse line that goes to its rest level is offered as a level change (R76, R88,
R89). -/
def quietMicro (s : State) : State := forEach pulseChannels (fun n => offerLine (s.chan n).line n) (beginMicro s)

/-- The next microsecond begins and, in RUNNING, is a run microsecond (R23). -/
def nextMicro (order : List WorkItem) (s : State) : State :=
  let b := beginMicro s
  if b.run.state = .running then takeWork order (openMicro order s b) else quietMicro s

/-- A run microsecond: what a pause has left of the present one is taken; else what is still due in the present
microsecond is taken and, if the run is then RUNNING, the next microsecond is a run microsecond with all of its work
(R23). -/
def runMicro (order : List WorkItem) (s : State) : State :=
  if s.run.work.isEmpty then
    if s.run.state = .running then
      let c := closeMicro s
      if c.run.state = .running then nextMicro order c else c
    else s
  else takeWork order s

/-! ### The block on its own -/

/-- With no command waiting the block takes what is left of the run microsecond, then the next event due; with none due the
next microsecond begins, a run microsecond in RUNNING (R23, log entry 1). -/
def idle (s : State) : State :=
  match s.run.work with
  | w :: _ => takeItem w s
  | [] =>
    match nextDue s with
    | some c => takeDue c s
    | none => nextMicro [] s

end Sys2Proof.Machine
end

