-- ==== Sys2Proof/Machine/Pins.lean ====
section
/-! DEFINITION. The output pins as functions of the state: trigger outputs (R181, R182), feed enables (R161), output voltage
(R85, R86), the relay drive (R150), the characters of the link bit by bit (R185, R189). ATTN is `State.attnLow`;
the outputs behind the drivers and the harness stand in Harness.lean. -/

namespace Sys2Proof.Machine

/-- Slot k stands in ACTIVE (R181). -/
def State.slotActive (s : State) (k : Fin 32) : Bool := (s.slot k).state == .active

/-- A pulse timer is set and has not passed (R182). -/
def State.pulseHigh (s : State) (l : Fin 4) : Bool := (getAt s.ntc.timers l).any (fun t => decide (s.uptime ≤ t))

/-- The level a route gives (R181, R182). -/
def State.routeLevel (s : State) (l : Fin 4) : Bool :=
  match getAt s.ntc.routes l with
  | .off => false
  | .runLevel => s.run.state == .running
  | .holdLevel => s.run.state == .held
  | .slotActive k => s.slotActive k
  | .captureMirror k => (s.input k).given == some true
  | .startPulse | .angleMark _ | .cyclePulse => s.pulseHigh l

/-- The line TRIG_OUT l, low in the microsecond of a reset (R181, R182, R184). -/
def State.trigOut (s : State) (l : Fin 4) : Bool := decide (s.link.resetAt ≠ s.uptime) && s.routeLevel l

/-- BATT_EN (R161). -/
def State.battEn (s : State) : Bool := s.sup.battAct

/-- IGN_EN (R161). -/
def State.ignEn (s : State) : Bool := s.sup.ignAct

/-- The span for which VSENS is specified, 4.5 V to 5.5 V (R86). -/
def vsensInSpan (vsens : Rat) : Bool := decide (9 / 2 ≤ vsens) && decide (vsens ≤ 11 / 2)

/-- The voltage `v` between analog ground and `supply`, the voltage to which the analog supply lets an output rise. -/
def withinSupply (supply v : Rat) : Rat := max 0 (min v supply)

/-- The output voltage of a DAC code: Vref × code / 4096, Vref 5 V or the voltage at VSENS (R85, R86). With VSENS outside its span
the fraction holds to the limit of the analog supply (R86), for which the spec has no figure: `supply` is that limit, an
argument (log entry 22). -/
def outputVolts (r : Reference) (vsens supply : Rat) (code : Nat) : Rat :=
  match r with
  | .internal => 5 * code / 4096
  | .ratio =>
    let v := vsens * code / 4096
    if vsensInSpan vsens then v else withinSupply supply v

/-- RLY_COIL with RLY_DIR and the path selected: the path being moved, and whether it is energized (R150). -/
def State.relayPins (s : State) : Option (RelayPath × Bool) :=
  match s.pins.drive with
  | .busy e _ => some (e.path, e.kind == .apply)
  | .free | .recovering _ => none

/-! ### Characters on the link (R185) -/

/-- What eleven bits on a pair stand for. -/
inductive Character where
  | address (b : Byte)
  | data (b : Byte)
  | broken
  deriving DecidableEq, Repr

/-- A character as sent, first bit first: start bit low, eight data bits with the least significant first, the mark bit, the
stop bit high (R185). -/
def characterBits (mark : Bool) (b : Byte) : List Bool :=
  false :: ([0, 1, 2, 3, 4, 5, 6, 7].map (fun i => b.getLsbD i) ++ [mark, true])

/-- The data bits of a character, least significant first. -/
def dataByte : List Bool → Nat
  | [] => 0
  | b :: rest => (if b then 1 else 0) + 2 * dataByte rest

/-- A character as received: broken when its stop bit is low, an address character with mark bit 1, a data character with mark
bit 0 (R185). Anything that does not begin with a low start bit, or is not eleven bits, is no character. -/
def readCharacter (bits : List Bool) : Option Character :=
  match bits with
  | [false, d0, d1, d2, d3, d4, d5, d6, d7, mark, stop] =>
    let b := BitVec.ofNat 8 (dataByte [d0, d1, d2, d3, d4, d5, d6, d7])
    some (if stop then (if mark then .address b else .data b) else .broken)
  | _ => none

/-- The command that a received character is, and whether the next one follows within 20 µs: a data character goes into the
frame in progress (R187, R188). -/
def Character.command (follows : Bool) : Character → Instr
  | .address b => .addressCharacterReceived { data := b, follows := follows }
  | .data b => .frameReceived [{ data := b, follows := follows }]
  | .broken => .brokenCharacter

/-- The bits of a frame: its address character, then its data characters, each start bit right after the stop bit before it
(R185, R186). -/
def frameBits : List Byte → List Bool
  | [] => []
  | a :: rest => characterBits true a ++ (rest.map (characterBits false)).flatten

/-- The bits on LINK_TX while a reply is sent, 0.2 µs each; none while the pair is high-impedance (R185, R189). -/
def State.linkTx (s : State) : Option (List Bool) :=
  s.link.inWork.bind (fun w =>
    match w.phase with
    | .sending _ => some (frameBits (s.replyFrame w))
    | .formed | .sent => none)

/-- The level of the pair in the n-th bit time of a frame's bits; the line rests high after them (R185). -/
def wireLevel (bits : List Bool) (n : Nat) : Bool := bits.getD n true

end Sys2Proof.Machine
end

