-- ==== Sys2Proof/Machine/Requests.lean ====
section
/-! DEFINITION. The meanings of the request commands: the request is handed to its block in this microsecond and is then the
request in work with its reply formed (R189, R190, log entry 4). -/

namespace Sys2Proof.Machine

/-- The request of kind 0x01 (R194). -/
def execIdentify (s : State) : Host.Outcome State Fault Refusal :=
  .next (respond 0x01 (reqIdentify s))

/-- The request of kind 0x02 (R195, R192). -/
def execStatus (f : Nat) (s : State) : Host.Outcome State Fault Refusal :=
  .next (respond 0x02 (reqStatus f s))

/-- The request of kind 0x03 (R196). -/
def execUnitReset (s : State) : Host.Outcome State Fault Refusal :=
  .next (respond 0x03 (reqUnitReset s))

/-- The request of kind 0x10 (R26). -/
def execRunConfig (c : RawRunConfig) (s : State) : Host.Outcome State Fault Refusal :=
  .next (respond 0x10 (reqRunConfig c s))

/-- The request of kind 0x11 (R28). -/
def execStart (s : State) : Host.Outcome State Fault Refusal :=
  .next (respond 0x11 (reqStart s))

/-- The request of kind 0x12 (R31). -/
def execHold (s : State) : Host.Outcome State Fault Refusal :=
  .next (respond 0x12 (reqHold s))

/-- The request of kind 0x13 (R34). -/
def execResume (s : State) : Host.Outcome State Fault Refusal :=
  .next (respond 0x13 (reqResume s))

/-- The request of kind 0x14 (R40). -/
def execEnd (s : State) : Host.Outcome State Fault Refusal :=
  .next (respond 0x14 (reqEnd s))

/-- The request of kind 0x15 (R45). -/
def execClear (s : State) : Host.Outcome State Fault Refusal :=
  .next (respond 0x15 (reqClear s))

/-- The request of kind 0x20 (R12). -/
def execWheelSet (w : RawWheel) (s : State) : Host.Outcome State Fault Refusal :=
  .next (respond 0x20 (reqWheelSet w s))

/-- The request of kind 0x21 (R15). -/
def execCamSet (cam : Nat) (count : Nat) (edges : List RawEdge) (s : State) : Host.Outcome State Fault Refusal :=
  .next (respond 0x21 (reqCamSet cam count edges s))

/-- The request of kind 0x22 (R8). -/
def execSpeedPush (count : Nat) (points : List RawPoint) (s : State) : Host.Outcome State Fault Refusal :=
  .next (respond 0x22 (reqSpeedPush count points s))

/-- The request of kind 0x23 (R9). -/
def execSpeedFlush (f : Nat) (s : State) : Host.Outcome State Fault Refusal :=
  .next (respond 0x23 (reqSpeedFlush f s))

/-- The request of kind 0x30 (R48). -/
def execTraceWrite (a : Nat) (count : Nat) (samples : List Sample) (s : State) : Host.Outcome State Fault Refusal :=
  .next (respond 0x30 (reqTraceWrite a count samples s))

/-- The request of kind 0x31 (R49). -/
def execTraceRead (a : Nat) (count : Nat) (s : State) : Host.Outcome State Fault Refusal :=
  .next (respond 0x31 (reqTraceRead a count s))

/-- The request of kind 0x32 (R74, R53). -/
def execChannelConfig (c : RawChannelConfig) (s : State) : Host.Outcome State Fault Refusal :=
  .next (respond 0x32 (reqChannelConfig c s))

/-- The request of kind 0x33 (R68). -/
def execWindowSet (w : RawWindow) (s : State) : Host.Outcome State Fault Refusal :=
  .next (respond 0x33 (reqWindowSet w s))

/-- The request of kind 0x34 (R64). -/
def execSegmentPush (g : RawSegment) (s : State) : Host.Outcome State Fault Refusal :=
  .next (respond 0x34 (reqSegmentPush g s))

/-- The request of kind 0x35 (R62). -/
def execSegmentFlush (ch : Nat) (abort : Nat) (s : State) : Host.Outcome State Fault Refusal :=
  .next (respond 0x35 (reqSegmentFlush ch abort s))

/-- The request of kind 0x36 (R91, R67). -/
def execChannelRead (ch : Nat) (s : State) : Host.Outcome State Fault Refusal :=
  .next (respond 0x36 (reqChannelRead ch s))

/-- The request of kind 0x37 (R54). -/
def execChannelSet (ch : Nat) (code : Nat) (s : State) : Host.Outcome State Fault Refusal :=
  .next (respond 0x37 (reqChannelSet ch code s))

/-- The request of kind 0x40 (R94). -/
def execCaptureConfig (c : RawInputConfig) (s : State) : Host.Outcome State Fault Refusal :=
  .next (respond 0x40 (reqCaptureConfig c s))

/-- The request of kind 0x42 (R94). -/
def execLineConfig (c : RawInputConfig) (s : State) : Host.Outcome State Fault Refusal :=
  .next (respond 0x42 (reqLineConfig c s))

/-- The request of kind 0x41 (R106). -/
def execCaptureRead (n : Nat) (s : State) : Host.Outcome State Fault Refusal :=
  .next (respond 0x41 (reqCaptureRead n s))

/-- The request of kind 0x50 (R140). -/
def execPinMap (codes : List Nat) (s : State) : Host.Outcome State Fault Refusal :=
  .next (respond 0x50 (reqPinMap codes s))

/-- The request of kind 0x51 (R113, R114). -/
def execFaultLoad (slot : Nat) (r : RawRecord) (s : State) : Host.Outcome State Fault Refusal :=
  .next (respond 0x51 (reqFaultLoad slot r s))

/-- The request of kind 0x52 (R118). -/
def execFaultArm (mask : SlotMask) (s : State) : Host.Outcome State Fault Refusal :=
  .next (respond 0x52 (reqFaultArm mask s))

/-- The request of kind 0x53 (R131). -/
def execFaultCancel (mask : SlotMask) (s : State) : Host.Outcome State Fault Refusal :=
  .next (respond 0x53 (reqFaultCancel mask s))

/-- The request of kind 0x54 (R136). -/
def execFaultQuery (slot : Nat) (s : State) : Host.Outcome State Fault Refusal :=
  .next (respond 0x54 (reqFaultQuery slot s))

/-- The request of kind 0x55 (R138). -/
def execTargetQuery (s : State) : Host.Outcome State Fault Refusal :=
  .next (respond 0x55 (reqTargetQuery s))

/-- The request of kind 0x60 (R165). -/
def execSupplyConfig (mode : Nat) (s : State) : Host.Outcome State Fault Refusal :=
  .next (respond 0x60 (reqSupplyConfig mode s))

/-- The request of kind 0x61 (R164). -/
def execSupplySet (battery : Nat) (ignition : Nat) (driver : Nat) (s : State) : Host.Outcome State Fault Refusal :=
  .next (respond 0x61 (reqSupplySet battery ignition driver s))

/-- The request of kind 0x70 (R178). -/
def execNoticeConfig (enables : List Nat) (threshold : Nat) (s : State) : Host.Outcome State Fault Refusal :=
  .next (respond 0x70 (reqNoticeConfig enables threshold s))

/-- The request of kind 0x71 (R179). -/
def execNoticeRead (s : State) : Host.Outcome State Fault Refusal :=
  .next (respond 0x71 (reqNoticeRead s))

/-- The request of kind 0x72 (R183). -/
def execTriggerRoute (line : Nat) (source : Nat) (param : Nat) (s : State) : Host.Outcome State Fault Refusal :=
  .next (respond 0x72 (reqTriggerRoute line source param s))

end Sys2Proof.Machine
end

