-- ==== Sys2Proof/Machine/Events.lean ====
section
/-! DEFINITION. The meanings of the event commands: the link, the resets, the run, the timers, the relays and the pins. An event
that is not due when it is commanded changes nothing (log entry 8). -/

namespace Sys2Proof.Machine

/-- The data characters that complete a frame: length, CRC, and the good frame's way to the port or as a broadcast (R187, R188,
R189, R191). -/
def execFrameReceived (chars : List RxChar) (s : State) : Host.Outcome State Fault Refusal :=
  .next (receiveFrame chars s)

/-- A broken character abandons a frame in progress with a framing error (R187, R192). -/
def execBrokenCharacter (s : State) : Host.Outcome State Fault Refusal := .next (abandonFrame s)

/-- The gap between characters passes 20 µs: a frame in progress is abandoned with a framing error (R187, R192). -/
def execCharacterGapTimeout (s : State) : Host.Outcome State Fault Refusal := .next (gapTimeout s)

/-- The first character of the reply of the request in work is sent (R190). -/
def execReplyStart (s : State) : Host.Outcome State Fault Refusal := .next (replyStart s)

/-- The last character of the reply has been sent (R189, R196). -/
def execReplyEnd (s : State) : Host.Outcome State Fault Refusal := .next (replyEnd s)

/-- The release of a cold reset (R22, R47, R72, R92, R110, R139, R160, R174, R184, R193). -/
def execColdReset (straps : BitVec 3) (s : State) : Host.Outcome State Fault Refusal := .next (coldReset straps s)

/-- The warm reset of a UNIT-RESET (R196). -/
def execWarmReset (s : State) : Host.Outcome State Fault Refusal := .next (warmReset s)

/-- The initialization interval ends: the receiver is HUNTING (R193). -/
def execInitIntervalEnd (s : State) : Host.Outcome State Fault Refusal := .next (initEnd s)

/-- One run microsecond (R23). -/
def execRunMicrosecond (order : List WorkItem) (s : State) : Host.Outcome State Fault Refusal := .next (runMicro order s)

/-- The active speed point ends at the close of its last microsecond (R6, R10). -/
def execSpeedPointEnd (s : State) : Host.Outcome State Fault Refusal := .next (pointEnd s)

/-- A sample slot has played its period (R57 to R60). -/
def execSampleSlotEnd (ch : Fin 16) (s : State) : Host.Outcome State Fault Refusal := .next (sampleEnd ch s)

/-- The run clock has wrapped: the capture log loses its records above clock 0 (R108). -/
def execRunClockWrap (s : State) : Host.Outcome State Fault Refusal := .next (clockWrap s)

/-- A slot's delay has elapsed: it applies (R122, R124). -/
def execDelayElapse (k : Fin 32) (s : State) : Host.Outcome State Fault Refusal := .next (delayEnd k s)

/-- A slot's width has elapsed: its release is handed on and its followers fire (R128). -/
def execWidthElapse (k : Fin 32) (order : List WorkItem) (s : State) : Host.Outcome State Fault Refusal := .next (widthEnd k order s)

/-- The hold timer expires (R36). -/
def execHoldTimeout (s : State) : Host.Outcome State Fault Refusal := .next (holdTimeout s)

/-- An input is sampled at its phase (R95, R96, R99). -/
def execInputSample (input : Fin 10) (line : Bool) (order : List WorkItem) (s : State) : Host.Outcome State Fault Refusal := .next (sampleInput input line order s)

/-- A pulse channel's half ends (R87, R89). -/
def execHalfPeriodEnd (ch : Fin 16) (s : State) : Host.Outcome State Fault Refusal := .next (halfEnd ch s)

/-- An alignment wait reaches its timeout (R147). -/
def execAlignmentTimeout (pin : Fin 24) (s : State) : Host.Outcome State Fault Refusal := .next (alignExpire pin s)

/-- The relay drive grants one entry (R152). -/
def execRelayGrant (s : State) : Host.Outcome State Fault Refusal := .next (relayGrant s)

/-- An APPLY transition completes (R153, R168). -/
def execRelayApplyComplete (s : State) : Host.Outcome State Fault Refusal := .next (relayApplyComplete s)

/-- A RELEASE transition completes (R154, R168). -/
def execRelayReleaseComplete (s : State) : Host.Outcome State Fault Refusal := .next (relayReleaseComplete s)

/-- The relay drive's RECOVERING interval ends (R150, R160). -/
def execRelayRecoveryEnd (s : State) : Host.Outcome State Fault Refusal := .next (relayRecoveryEnd s)

/-- The feed stage of a disconnect shutdown (R168). -/
def execFeedStage (s : State) : Host.Outcome State Fault Refusal := .next (feedStage s)

/-- The battery-first wait is satisfied (R162). -/
def execIgnitionWaitEnd (s : State) : Host.Outcome State Fault Refusal := .next (ignitionWaitEnd s)

/-- The wake timer ends: the drivers are ON (R163). -/
def execWakeWaitEnd (s : State) : Host.Outcome State Fault Refusal := .next (wakeWaitEnd s)

/-- The level at CONN_SENSE changes (R166, R168). -/
def execConnSenseChange (high : Bool) (s : State) : Host.Outcome State Fault Refusal := .next (senseChange high s)

/-- A connection is accepted after its debounce (R166, R167). -/
def execConnectionAccepted (s : State) : Host.Outcome State Fault Refusal := .next (connectionAccepted s)

/-- A trigger output's pulse timer becomes idle (R182). -/
def execPulseTimerEnd (line : Fin 4) (s : State) : Host.Outcome State Fault Refusal := .next (pulseEnd line s)

/-- An address character (R187). -/
def execAddressCharacterReceived (data : RxChar) (s : State) : Host.Outcome State Fault Refusal :=
  .next (receiveAddress data s)

/-- A length character (R188). -/
def execLengthCharacterReceived (data : RxChar) (s : State) : Host.Outcome State Fault Refusal :=
  .next (receiveLength data s)

end Sys2Proof.Machine
end

