-- ==== Sys2Proof/Machine/Dispatch.lean ====
section
/-! DEFINITION. The one dispatch from a command to its meaning. -/

namespace Sys2Proof.Machine

def exec (i : Instr) (s : State) : Host.Outcome State Fault Refusal :=
  match i with
  | .identify => Sys2Proof.Machine.execIdentify s
  | .status f => Sys2Proof.Machine.execStatus f s
  | .unitReset => Sys2Proof.Machine.execUnitReset s
  | .runConfig c => Sys2Proof.Machine.execRunConfig c s
  | .start => Sys2Proof.Machine.execStart s
  | .hold => Sys2Proof.Machine.execHold s
  | .resume => Sys2Proof.Machine.execResume s
  | .endRun => Sys2Proof.Machine.execEnd s
  | .clear => Sys2Proof.Machine.execClear s
  | .wheelSet w => Sys2Proof.Machine.execWheelSet w s
  | .camSet cam count edges => Sys2Proof.Machine.execCamSet cam count edges s
  | .speedPush count points => Sys2Proof.Machine.execSpeedPush count points s
  | .speedFlush f => Sys2Proof.Machine.execSpeedFlush f s
  | .traceWrite a count samples => Sys2Proof.Machine.execTraceWrite a count samples s
  | .traceRead a count => Sys2Proof.Machine.execTraceRead a count s
  | .channelConfig c => Sys2Proof.Machine.execChannelConfig c s
  | .windowSet w => Sys2Proof.Machine.execWindowSet w s
  | .segmentPush g => Sys2Proof.Machine.execSegmentPush g s
  | .segmentFlush ch abort => Sys2Proof.Machine.execSegmentFlush ch abort s
  | .channelRead ch => Sys2Proof.Machine.execChannelRead ch s
  | .channelSet ch code => Sys2Proof.Machine.execChannelSet ch code s
  | .captureConfig c => Sys2Proof.Machine.execCaptureConfig c s
  | .lineConfig c => Sys2Proof.Machine.execLineConfig c s
  | .captureRead n => Sys2Proof.Machine.execCaptureRead n s
  | .pinMap codes => Sys2Proof.Machine.execPinMap codes s
  | .faultLoad slot r => Sys2Proof.Machine.execFaultLoad slot r s
  | .faultArm mask => Sys2Proof.Machine.execFaultArm mask s
  | .faultCancel mask => Sys2Proof.Machine.execFaultCancel mask s
  | .faultQuery slot => Sys2Proof.Machine.execFaultQuery slot s
  | .targetQuery => Sys2Proof.Machine.execTargetQuery s
  | .supplyConfig mode => Sys2Proof.Machine.execSupplyConfig mode s
  | .supplySet battery ignition driver => Sys2Proof.Machine.execSupplySet battery ignition driver s
  | .noticeConfig enables threshold => Sys2Proof.Machine.execNoticeConfig enables threshold s
  | .noticeRead => Sys2Proof.Machine.execNoticeRead s
  | .triggerRoute line source param => Sys2Proof.Machine.execTriggerRoute line source param s
  | .frameReceived chars => Sys2Proof.Machine.execFrameReceived chars s
  | .brokenCharacter => Sys2Proof.Machine.execBrokenCharacter s
  | .characterGapTimeout => Sys2Proof.Machine.execCharacterGapTimeout s
  | .replyStart => Sys2Proof.Machine.execReplyStart s
  | .replyEnd => Sys2Proof.Machine.execReplyEnd s
  | .coldReset straps => Sys2Proof.Machine.execColdReset straps s
  | .warmReset => Sys2Proof.Machine.execWarmReset s
  | .initIntervalEnd => Sys2Proof.Machine.execInitIntervalEnd s
  | .runMicrosecond order => Sys2Proof.Machine.execRunMicrosecond order s
  | .speedPointEnd => Sys2Proof.Machine.execSpeedPointEnd s
  | .sampleSlotEnd ch => Sys2Proof.Machine.execSampleSlotEnd ch s
  | .runClockWrap => Sys2Proof.Machine.execRunClockWrap s
  | .delayElapse k => Sys2Proof.Machine.execDelayElapse k s
  | .widthElapse k order => Sys2Proof.Machine.execWidthElapse k order s
  | .holdTimeout => Sys2Proof.Machine.execHoldTimeout s
  | .inputSample input line order => Sys2Proof.Machine.execInputSample input line order s
  | .halfPeriodEnd ch => Sys2Proof.Machine.execHalfPeriodEnd ch s
  | .alignmentTimeout pin => Sys2Proof.Machine.execAlignmentTimeout pin s
  | .relayGrant => Sys2Proof.Machine.execRelayGrant s
  | .relayApplyComplete => Sys2Proof.Machine.execRelayApplyComplete s
  | .relayReleaseComplete => Sys2Proof.Machine.execRelayReleaseComplete s
  | .relayRecoveryEnd => Sys2Proof.Machine.execRelayRecoveryEnd s
  | .feedStage => Sys2Proof.Machine.execFeedStage s
  | .ignitionWaitEnd => Sys2Proof.Machine.execIgnitionWaitEnd s
  | .wakeWaitEnd => Sys2Proof.Machine.execWakeWaitEnd s
  | .connSenseChange high => Sys2Proof.Machine.execConnSenseChange high s
  | .connectionAccepted => Sys2Proof.Machine.execConnectionAccepted s
  | .pulseTimerEnd line => Sys2Proof.Machine.execPulseTimerEnd line s
  | .addressCharacterReceived data => Sys2Proof.Machine.execAddressCharacterReceived data s
  | .lengthCharacterReceived data => Sys2Proof.Machine.execLengthCharacterReceived data s

end Sys2Proof.Machine
end

