-- ==== Sys2Proof/Safety.lean ====
section
/-! DEFINITION. What counts as a safe state: the laws of the device, block by block, as the rules state them. Each is a
property of one state that every step is to keep; `DeviceLaw` is all of them together. -/

namespace Sys2Proof.Safety

open Sys2Proof.Machine

/-- Trace memory stands in its canonical form: rising addresses of the memory, no entry equal to an unlisted one (R48,
log entry 5). -/
def TraceLaw (s : State) : Prop := s.trace.wf = true

/-- A stored speed point is in range (R5). -/
def PointLaw (p : SpeedPoint) : Prop := p.target ≤ 192000 ∧ p.ramp ≤ 16777215 ∧ p.hold ≤ 16777215

/-- The accumulator lies in 0..5,759,999,999, the cycle count below 65,536 and the speed in 0..192,000; the queue holds at
most 16 points, each in range (R1, R5, R26). -/
def RotationLaw (s : State) : Prop :=
  s.rot.acc < 5760000000 ∧ s.rot.cycle < 65536 ∧ s.rot.speed ≤ 192000 ∧ s.rot.prevTheta < 72000
    ∧ s.rot.queue.length ≤ 16 ∧ (∀ p ∈ s.rot.queue, PointLaw p)
    ∧ (∀ a ∈ s.rot.active, PointLaw a.point ∧ a.s0 ≤ 192000)
    ∧ s.run.config.startAngle < 72000 ∧ s.run.config.startSpeed ≤ 192000

/-- A set wheel pattern has a whole pitch and both parts of every tooth at least 8 centidegrees long (R12). -/
def WheelLaw (w : Wheel) : Prop :=
  w.teeth = 0 ∨ (4 ≤ w.teeth ∧ w.teeth ≤ 120 ∧ 36000 % w.teeth = 0 ∧ w.offset < 36000 ∧ 8 ≤ w.duty
    ∧ w.duty + 8 ≤ 36000 / w.teeth ∧ w.gaps.length ≤ 2
    ∧ ∀ g ∈ w.gaps, g.first < w.teeth ∧ 1 ≤ g.count ∧ g.count ≤ 3)

/-- A cam list has at most 16 edges, at angles of the cycle, consecutive ones at least 8 centidegrees apart, also from
the last to the first across the wrap (R15). -/
def CamLaw (es : List CamEdge) : Prop :=
  es.length ≤ 16 ∧ (∀ e ∈ es, e.angle < 72000) ∧ es.IsChain (fun e f => e.angle + 8 ≤ f.angle)
    ∧ ∀ f ∈ es.head?, ∀ l ∈ es.getLast?, l.angle + 8 ≤ 72000 + f.angle

/-- The patterns in use obey R12 and R15. -/
def PatternLaw (s : State) : Prop := WheelLaw s.rot.wheel ∧ ∀ c, CamLaw (getAt s.rot.cams c)

/-- The end reason is NONE exactly when the run state is not ENDED (R25); all three pending release flags are clear whenever
the run is HELD (R33); the hold timer runs only in HELD (R33); the run clock is a 40-bit count (R24). -/
def RunLaw (s : State) : Prop :=
  (s.run.endReason = .none ↔ s.run.state ≠ .ended) ∧ (s.run.state = .held → s.run.flags.any = false)
    ∧ (s.run.holdTimer.isSome → s.run.state = .held) ∧ s.run.clock < 2 ^ 40

/-- The microsecond in which a debounce began; 0 where there is none (R166). -/
def debounceStart : ConnState → Nat
  | .debouncing w => w
  | .disconnected | .connected => 0

/-- The actual states are the ones R161 decides, so the ignition is ON only with the battery; the drivers are out of OFF exactly
while the battery is ON and their request is ON (R163); the battery-first wait runs exactly while both feeds are commanded ON,
and is satisfied only when started (R162); a debounce began in this microsecond or an earlier one (R166). -/
def SupplyLaw (s : State) : Prop :=
  s.sup.battAct = (s.sup.battCmd && !s.sup.battDrop)
    ∧ s.sup.ignAct = (s.sup.ignCmd && s.sup.battAct && !s.sup.ignDrop && s.sup.waitDone)
    ∧ (s.sup.driver ≠ .off ↔ s.sup.battAct = true ∧ s.sup.drvReq = true)
    ∧ (s.sup.waitStart.isSome = (s.sup.battCmd && s.sup.ignCmd)) ∧ (s.sup.waitDone → s.sup.waitStart.isSome)
    ∧ debounceStart s.sup.conn ≤ s.uptime

/-- A segment in range (R55). -/
def SegmentLaw (g : Segment) : Prop :=
  g.base < 1048576 ∧ 1 ≤ g.length ∧ g.length ≤ 65535 ∧ 1 ≤ g.period ∧ g.period ≤ 65535 ∧ g.rep ≤ 255

/-- Each channel's segment queue holds at most 8 segments, all in range, and none outside STREAM mode (R55, R53). -/
def QueueLaw (s : State) : Prop :=
  ∀ n, (s.chan n).queue.length ≤ 8 ∧ (∀ g ∈ (s.chan n).queue, SegmentLaw g)
    ∧ ((s.chan n).mode ≠ .stream → (s.chan n).queue = [])

/-- The guard limits lie within the channel's kind, the lower not above the upper, and the rest code of an analog channel lies
within its guard (R74). -/
def GuardLaw (s : State) : Prop :=
  ∀ n, (s.chan n).gmin ≤ (s.chan n).gmax ∧ (s.chan n).gmax ≤ (if n.val < 12 then 4095 else 65535)
    ∧ (n.val < 12 → (s.chan n).gmin ≤ (s.chan n).restCode ∧ (s.chan n).restCode ≤ (s.chan n).gmax)

/-- The capture log holds at most 512 records, in nondecreasing run-clock order and none ahead of the run clock (R103); the
order may fail only between a wrap of the run clock and its RUN_CLOCK_WRAP in the same microsecond (R108). -/
def LogLaw (s : State) : Prop :=
  s.cap.log.length ≤ 512
    ∧ (s.run.wrapDue = false →
        s.cap.log.Pairwise (fun a b => a.clock ≤ b.clock) ∧ ∀ r ∈ s.cap.log, r.clock ≤ s.run.clock)

/-- The slot stands in a state in which it holds its targets (R116). -/
def holding (x : Slot) : Prop :=
  x.state = .aligning ∨ x.state = .pending ∨ x.state = .active ∨ x.state = .releasing

/-- The targets of the slot's record in use (R116). -/
def recordTargets (x : Slot) : List (Fin 45) := (x.record.map (·.action.targets)).getD []

/-- The relay transitions handed over and not completed: the one in flight, then those waiting (R150, R151). -/
def transitions (s : State) : List RelayEntry :=
  (match s.pins.drive with
    | .busy e _ => [e]
    | .free | .recovering _ => []) ++ s.pins.waitList

/-- A transition belongs to a slot in PENDING (APPLY) or RELEASING (RELEASE), with the path of its record (R151). -/
def EntryLaw (s : State) (e : RelayEntry) : Prop :=
  (s.slot e.slot).state = (match e.kind with | .apply => .pending | .release => .releasing)
    ∧ ((s.slot e.slot).record.bind (·.action.relay)) = some e.path

/-- An alignment wait belongs to a slot in ALIGNING whose record acts on that pin alone (R145). -/
def WaitLaw (s : State) (p : Fin 24) (w : AlignWait) : Prop :=
  (s.slot w.slot).state = .aligning ∧ recordTargets (s.slot w.slot) = [pinTarget p]

/-- The holder table and the harness: a slot is the holder of a target exactly while it stands in ALIGNING, PENDING, ACTIVE
or RELEASING with that target (R116); every slot that is not EMPTY has a record (R111); alignment waits and relay
transitions belong to their slots, at most one transition per slot (R145, R151); a pin's path is other than NORMAL
only while some slot holds the pin (R142), and NORMAL while its slot is in ALIGNING or PENDING (R138). -/
def HolderLaw (s : State) : Prop :=
  (∀ t k, s.holder t = some k ↔ holding (s.slot k) ∧ t ∈ recordTargets (s.slot k))
    ∧ (∀ k, (s.slot k).state ≠ .empty → (s.slot k).record.isSome)
    ∧ (∀ p, ∀ w ∈ s.wait p, WaitLaw s p w)
    ∧ (∀ e ∈ transitions s, EntryLaw s e) ∧ ((transitions s).map (·.slot)).Nodup
    ∧ (∀ p, s.path p ≠ .normal → (s.holder (pinTarget p)).isSome)
    ∧ (∀ p k, s.holder (pinTarget p) = some k → (s.slot k).state = .aligning ∨ (s.slot k).state = .pending →
        s.path p = .normal)

/-- The fill threshold is 1..512 (R178), and a mask has bits only while its kind is pending (R175, R179). -/
def NoticeLaw (s : State) : Prop :=
  1 ≤ s.ntc.threshold ∧ s.ntc.threshold ≤ 512 ∧ (s.ntc.channelMask ≠ 0 → s.isPending .channel)
    ∧ (s.ntc.guardMask ≠ 0 → s.isPending .guardTrip) ∧ (s.ntc.faultMask ≠ 0 → s.isPending .fault)

/-- The three error counts are 0..65,535 (R192); a frame waits only while a request is in work (R189); a frame in progress has
a length of 1..250 and is not complete (R187, R188). -/
def LinkLaw (s : State) : Prop :=
  s.link.framing ≤ 65535 ∧ s.link.crc ≤ 65535 ∧ s.link.overrun ≤ 65535
    ∧ (s.link.waiting.isSome → s.link.inWork.isSome)
    ∧ ∀ bc l rest gap, s.link.receiver = .receiving bc (l :: rest) gap →
        1 ≤ l.toNat ∧ l.toNat ≤ 250 ∧ rest.length + 1 < l.toNat + 3

/-- All the laws of the device. -/
def DeviceLaw (s : State) : Prop :=
  TraceLaw s ∧ RotationLaw s ∧ PatternLaw s ∧ RunLaw s ∧ SupplyLaw s ∧ QueueLaw s ∧ GuardLaw s ∧ LogLaw s
    ∧ HolderLaw s ∧ NoticeLaw s ∧ LinkLaw s

/-! ### Terms the statements use -/

/-- IDLE or ENDED. -/
def between (s : State) : Prop := s.run.state = .idle ∨ s.run.state = .ended

/-- The state with a request of this kind in work and its reply formed: the status, then the fields (R189, R190). Nothing
else differs from `s`. -/
def answered (kind : Byte) (st : Status) (body : List Byte) (s : State) : State :=
  let w : InWork :=
    { replyKind := kind + 0x80, reply := st.code :: body, resets := kind == 0x03 && st == .ok, taken := s.uptime,
      phase := .formed }
  { s with link := { s.link with inWork := some w } }

/-- The edge a code of section 11.5 stands for. -/
def edgeOf (v : Nat) : EdgeSel := if v = 0 then .rise else if v = 1 then .fall else .both

/-- The missing teeth of a WHEEL-SET. -/
def missingTeeth (w : RawWheel) : Nat :=
  (if 1 ≤ w.gapCount then w.count0 else 0) + (if w.gapCount = 2 then w.count1 else 0)

/-- The checks of R12 on the fields of a WHEEL-SET. -/
def WheelLegal (w : RawWheel) : Prop :=
  w.teeth = 0 ∨
    (4 ≤ w.teeth ∧ w.teeth ≤ 120 ∧ 36000 % w.teeth = 0 ∧ w.offset < 36000 ∧ 8 ≤ w.duty
      ∧ w.duty + 8 ≤ 36000 / w.teeth ∧ w.gapCount ≤ 2
      ∧ (1 ≤ w.gapCount → w.first0 < w.teeth ∧ 1 ≤ w.count0 ∧ w.count0 ≤ 3)
      ∧ (w.gapCount = 2 → w.first1 < w.teeth ∧ 1 ≤ w.count1 ∧ w.count1 ≤ 3
          ∧ ∀ i < w.count0, ∀ j < w.count1, (w.first0 + i) % w.teeth ≠ (w.first1 + j) % w.teeth)
      ∧ 2 * missingTeeth w < w.teeth)

/-- The pattern a legal WHEEL-SET stores (R12). -/
def wheelStored (w : RawWheel) : Wheel :=
  if w.teeth = 0 then { teeth := 0, offset := 0, duty := 0, gaps := [] }
  else
    { teeth := w.teeth, offset := w.offset, duty := w.duty,
      gaps := (if 1 ≤ w.gapCount then [{ first := w.first0, count := w.count0 }] else [])
        ++ (if w.gapCount = 2 then [{ first := w.first1, count := w.count1 }] else []) }

/-- The checks of R15 on the edges of a CAM-SET. -/
def CamLegal (es : List RawEdge) : Prop :=
  es.length ≤ 16 ∧ (∀ e ∈ es, e.angle < 72000 ∧ e.level ≤ 1) ∧ es.IsChain (fun e f => e.angle + 8 ≤ f.angle)
    ∧ ∀ f ∈ es.head?, ∀ l ∈ es.getLast?, 8 ≤ 72000 - l.angle + f.angle

/-- A release of RUN-CONFIG over `n` inputs (R26). -/
def ReleaseLegal (n : Nat) (r : RawRelease) : Prop :=
  r.enable ≤ 1 ∧ (r.enable = 1 → r.input < n ∧ r.edge ≤ 2)

/-- The release stored: a disabled one as 0 (R26). -/
def releaseStored (n : Nat) [NeZero n] (r : RawRelease) : EdgeRelease n :=
  if r.enable = 1 then { enable := true, input := Fin.ofNat n r.input, edge := edgeOf r.edge }
  else { enable := false, input := 0, edge := .rise }

/-- The checks of R26. -/
def RunConfigLegal (c : RawRunConfig) : Prop :=
  c.startMode ≤ 1 ∧ (c.startMode = 1 → c.startInput < 2 ∧ c.startEdge ≤ 2) ∧ c.startAngle < 72000 ∧ c.options < 4
    ∧ ReleaseLegal 2 c.line ∧ ReleaseLegal 8 c.capture ∧ c.timeoutEnable ≤ 1
    ∧ (c.timeoutEnable = 1 → 1 ≤ c.timeout ∧ c.timeout ≤ 65535)

/-- The configuration a legal RUN-CONFIG stores (R26). -/
def configStored (c : RawRunConfig) : RunConfig where
  startMode := if c.startMode = 1 then .line else .immediate
  startInput := if c.startMode = 1 then Fin.ofNat 2 c.startInput else 0
  startEdge := if c.startMode = 1 then edgeOf c.startEdge else .rise
  startAngle := c.startAngle
  startSpeed := if c.startSpeed ≤ 192000 then c.startSpeed else 192000
  endOnDrain := decide (c.options % 2 = 1)
  stopOnUnderrun := decide (c.options / 2 = 1)
  line := releaseStored 2 c.line
  capture := releaseStored 8 c.capture
  timeoutEnable := decide (c.timeoutEnable = 1)
  timeout := if c.timeoutEnable = 1 then c.timeout else 0

/-- The largest value of a channel's kind (R73). -/
def kindMax (n : Nat) : Nat := if n < 12 then 4095 else 65535

/-- The checks of R74. -/
def ChannelLegal (r : RawChannelConfig) : Prop :=
  r.channel < 16 ∧ r.enable ≤ 1 ∧ r.mode ≤ 2 ∧ r.guardMode ≤ 1 ∧ r.cause ≤ 1 ∧ r.gmin ≤ r.gmax
    ∧ r.gmax ≤ kindMax r.channel
    ∧ (r.channel < 12 → r.gmin ≤ r.rest ∧ r.rest ≤ r.gmax ∧ r.reference ≤ 1) ∧ (12 ≤ r.channel → r.rest ≤ 1)

/-- A channel after an accepted CHANNEL-CONFIG (R74, R53, R75). -/
def channelStored (r : RawChannelConfig) (c : Channel) : Channel :=
  { c with
    enable := decide (r.enable = 1)
    mode := if r.mode = 0 then .const else if r.mode = 1 then .stream else .angleMap
    restCode := if r.channel < 12 then r.rest else 0
    restLevel := decide (12 ≤ r.channel ∧ r.rest = 1)
    reference := if r.channel < 12 ∧ r.reference = 1 then .ratio else .internal
    gmin := r.gmin
    gmax := r.gmax
    guardMode := if r.guardMode = 1 then .strict else .clamp
    cause := if r.cause = 1 then .starved else .taken
    queue := if r.mode = 1 then c.queue else []
    clamped := if decide (r.enable = 1) = c.enable then c.clamped else false }

/-- The checks of R68. -/
def WindowLegal (w : RawWindow) : Prop :=
  w.channel < 16 ∧ w.window < 4 ∧ w.enable ≤ 1 ∧ w.start < 72000 ∧ w.stop < 72000 ∧ w.base < 1048576 ∧ 1 ≤ w.pitch
    ∧ w.pitch ≤ 7200

/-- The checks of R64 on the fields of a segment. -/
def SegmentLegal (g : RawSegment) : Prop :=
  g.base < 1048576 ∧ 1 ≤ g.length ∧ g.length ≤ 65535 ∧ 1 ≤ g.period ∧ g.period ≤ 65535 ∧ g.rep ≤ 255

/-- The checks of R94 but for the input number. -/
def InputLegal (c : RawInputConfig) : Prop :=
  c.enable ≤ 1 ∧ (c.interval = 1 ∨ c.interval = 4 ∨ c.interval = 16) ∧ c.edge ≤ 2

/-- An input after an accepted CAPTURE-CONFIG or LINE-CONFIG in microsecond `now` (R94). -/
def inputStored (c : RawInputConfig) (now : Nat) (x : Input) : Input :=
  { x with enable := decide (c.enable = 1), interval := c.interval, edge := edgeOf c.edge, agree := 0,
           phase := if c.enable = 1 then some (now + 1) else none, acquire := true }

/-- The point played in the next run microsecond: the active one, else the head of the queue (R6). -/
def nextPoint (r : Rotation) : Option ActivePoint :=
  match r.active, r.queue with
  | some a, _ => some a
  | none, p :: _ => some { point := p, s0 := r.speed, k := 0 }
  | none, [] => none

/-- The speed of the next run microsecond (R6, R7). -/
def nextSpeed (r : Rotation) : Nat :=
  match nextPoint r with
  | none => r.speed
  | some a =>
    if a.k + 1 ≤ a.point.ramp then
      ((a.s0 : Int) + Int.tdiv (((a.point.target : Int) - a.s0) * (a.k + 1)) a.point.ramp).toNat
    else a.point.target

/-- The value after the modifier `m` in force (R78, steps 2 to 4). -/
def afterModifier (m : Option ChanMod) (v : Nat) : Int :=
  match m with
  | none => v
  | some (.freeze w) => w
  | some (.force w) => w
  | some (.offset d) => v + d

/-- Target, partner, value and width suit the action (the table of R113, with R201). -/
def ActionLegal (teeth : Nat) (r : RawRecord) : Prop :=
  let plain := r.partner = 0 ∧ r.value = 0
  let lim : Int := if r.target < 36 then 4095 else 65535
  let chan := 24 ≤ r.target ∧ r.target < 40 ∧ r.partner = 0
  let cam := r.target = 41 ∨ r.target = 42
  ((r.action = 0x01 ∨ r.action = 0x02 ∨ r.action = 0x03) ∧ r.target < 24 ∧ plain)
    ∨ (r.action = 0x04 ∧ r.target < 24 ∧ r.partner < 24 ∧ r.partner ≠ r.target ∧ r.value = 0)
    ∨ (r.action = 0x10 ∧ chan ∧ r.value = 0)
    ∨ (r.action = 0x11 ∧ chan ∧ -lim ≤ r.value ∧ r.value ≤ lim)
    ∨ (r.action = 0x12 ∧ chan ∧ 0 ≤ r.value ∧ r.value ≤ lim)
    ∨ (r.action = 0x20 ∧ r.target = 40 ∧ r.partner = 0 ∧ 0 ≤ r.value ∧ r.value < teeth)
    ∨ (r.action = 0x21 ∧ r.target = 40 ∧ r.partner = 0 ∧ -3600 ≤ r.value ∧ r.value ≤ 3600)
    ∨ (r.action = 0x22 ∧ cam ∧ plain)
    ∨ (r.action = 0x23 ∧ cam ∧ r.partner = 0 ∧ -3600 ≤ r.value ∧ r.value ≤ 3600)
    ∨ (r.action = 0x30 ∧ r.target = 43 ∧ plain) ∨ (r.action = 0x31 ∧ r.target = 44 ∧ plain)
    ∨ ((r.action = 0x40 ∨ r.action = 0x41) ∧ r.target = 45 ∧ plain ∧ r.width = 0)

/-- Byte 8 + i of a fault-slot record (R201). -/
def paramByte (r : RawRecord) (i : Nat) : Nat := r.params / 256 ^ i % 256

/-- The trigger parameters suit the trigger kind (R112, R201) in slot `slot`. -/
def TriggerLegal (slot : Nat) (r : RawRecord) : Prop :=
  let rest := fun i => r.params / 256 ^ i = 0
  (r.trigger = 0 ∧ r.params = 0)
    ∨ (r.trigger = 1 ∧ r.params % 256 ^ 3 < 72000
        ∧ (r.params / 256 ^ 5 = 0 ∨ (r.params / 256 ^ 5 = 1 ∧ r.params / 256 ^ 3 % 65536 = 0)))
    ∨ (r.trigger = 2 ∧ paramByte r 0 < 8 ∧ paramByte r 1 ≤ 2 ∧ 1 ≤ paramByte r 2 ∧ rest 3)
    ∨ (r.trigger = 3 ∧ paramByte r 0 < 2 ∧ paramByte r 1 ≤ 2 ∧ rest 2)
    ∨ (r.trigger = 4 ∧ r.params < 2 ^ 40)
    ∨ (r.trigger = 5 ∧ r.params < 32 ∧ r.params ≠ slot)

/-- The edge-aligned flag suits the action and the present source of the pin (R113). -/
def AlignedLegal (m : Vector PinSource 24) (r : RawRecord) : Prop :=
  r.flags = 0 ∨
    (r.flags = 1 ∧ (r.action = 0x01 ∨ r.action = 0x02)
      ∧ ∀ p : Fin 24, p.val = r.target →
          (getAt m p = .line .crank ∨ (∃ c, getAt m p = .line (.cam c))
            ∨ ∃ n : Fin 16, 12 ≤ n.val ∧ getAt m p = .line (.channel n)))

/-- A FAULT-LOAD of this record into this slot passes the checks of R113. -/
def RecordLegal (s : State) (slot : Nat) (r : RawRecord) : Prop :=
  slot < 32 ∧ ActionLegal s.rot.wheel.teeth r ∧ TriggerLegal slot r ∧ AlignedLegal s.pins.map r ∧ r.measure ≤ 1
    ∧ r.delay ≤ 16777215 ∧ r.width ≤ 16777215 ∧ r.rep ≤ 255

/-- The 23 bytes of a fault-slot record as a FAULT-LOAD carries them (R201). -/
def recordBytes (r : RawRecord) : List Byte :=
  le 1 r.action ++ le 1 r.target ++ le 1 r.partner ++ leInt 4 r.value ++ le 1 r.trigger ++ le 6 r.params ++ le 1 r.measure
    ++ le 3 r.delay ++ le 3 r.width ++ le 1 r.rep ++ le 1 r.flags

/-- The slot after an activation that counts a repetition in microsecond `now`: ARMED while repetitions remain, else DONE, or
LOADED with its staged copy (R129, R115). -/
def counted (now : Nat) (x : Slot) : Slot :=
  let left : Reps := match x.remaining with | .finite n => .finite (n - 1) | .endless => .endless
  if left = .finite 0 then
    match x.staged with
    | some r => { x with remaining := left, state := .loaded, record := some r, staged := none }
    | none => { x with remaining := left, state := .done, progress := 0 }
  else { x with remaining := left, state := .armed, occurrences := 0, progress := 0, late := false, releaseEnd := .rep,
                since := now }

/-- The slot ACTIVE after its apply, its progress at 0 and its outcome APPLIED or LATE (R125, R128). -/
def entered (x : Slot) : Slot := { x with state := .active, progress := 0, outcome := if x.late then .late else .applied }

/-- What an instant action that is not edge-aligned puts in force, in `t` after its apply in `s` (R126, R78 to R80, R17 to
R20, R144, R170, R171). -/
def inForce (a : Action) (s t : State) : Prop :=
  match a with
  | .openPin p => t.path p = .openPath
  | .shortGnd p => t.path p = .shortGnd
  | .freeze n =>
    (t.chan n).modifier = some (.freeze (if (s.chan n).enable then (s.chan n).source
      else if n.val < 12 then (s.chan n).restCode else 0))
  | .force n v => (t.chan n).modifier = some (.force v)
  | .offset n d => (t.chan n).modifier = some (.offset d)
  | .toothDrop i => t.rot.crankMod = some (.toothDrop i)
  | .crankShift d => t.rot.crankMod = some (.shift d)
  | .camHold c => getAt t.rot.camMods c = some (.hold (getAt s.rot.camLines c))
  | .camShift c d => getAt t.rot.camMods c = some (.shift d)
  | .battDrop => t.sup.battDrop = true ∧ t.sup.battAct = false ∧ t.sup.ignAct = false ∧ t.sup.driver = .off
  | .ignDrop => t.sup.ignDrop = true ∧ t.sup.ignAct = false
  | .shortSupply _ | .bridge _ _ | .holdRun | .endRun => True

/-- What an instant release leaves of its action (R126, R144, R170, R171). -/
def takenAway (a : Action) (t : State) : Prop :=
  match a with
  | .openPin p | .shortGnd p => t.path p = .normal
  | .freeze n | .force n _ | .offset n _ => (t.chan n).modifier = none
  | .toothDrop _ | .crankShift _ => t.rot.crankMod = none
  | .camHold c | .camShift c _ => getAt t.rot.camMods c = none
  | .battDrop => t.sup.battDrop = false ∧ t.sup.battAct = t.sup.battCmd
  | .ignDrop => t.sup.ignDrop = false
  | .shortSupply _ | .bridge _ _ | .holdRun | .endRun => True

/-- The two states differ at most in the slots, the holders, the SUPPLY and FAULT notices and what acts on the targets `ts`. -/
def sameBut (ts : List (Fin 45)) (s t : State) : Prop :=
  t.uptime = s.uptime ∧ t.run = s.run ∧ t.trace = s.trace ∧ t.cap = s.cap ∧ t.link = s.link ∧ t.pending = s.pending
    ∧ (∀ n, { t.chan n with modifier := (s.chan n).modifier } = s.chan n)
    ∧ (∀ n, chanTarget n ∉ ts → t.chan n = s.chan n)
    ∧ { t.pins with paths := s.pins.paths } = s.pins ∧ (∀ p, pinTarget p ∉ ts → t.path p = s.path p)
    ∧ { t.rot with crankMod := s.rot.crankMod, camMods := s.rot.camMods } = s.rot
    ∧ (40 ∉ ts → t.rot.crankMod = s.rot.crankMod)
    ∧ (∀ c, camTarget c ∉ ts → getAt t.rot.camMods c = getAt s.rot.camMods c)
    ∧ { t.sup with battDrop := s.sup.battDrop, ignDrop := s.sup.ignDrop, battAct := s.sup.battAct, ignAct := s.sup.ignAct,
                   driver := s.sup.driver } = s.sup
    ∧ (43 ∉ ts → 44 ∉ ts → t.sup = s.sup)
    ∧ { t.ntc with pending := s.ntc.pending, faultMask := s.ntc.faultMask } = s.ntc
    ∧ ∀ k : NoticeKind, k ≠ .supply → k ≠ .fault → t.isPending k = s.isPending k

/-- The source code of section 11.5 for a pin's source. -/
def sourceCode : PinSource → Nat
  | .line (.channel n) => n.val
  | .line .crank => 0x10
  | .line (.cam c) => 0x11 + c.val
  | .tap k => 0x20 + k.val
  | .unused => 0xFF

/-- The entry the drive chooses among those waiting: a release before any apply, then the lowest slot (R152). -/
def Chosen (e : RelayEntry) (es : List RelayEntry) : Prop :=
  e ∈ es ∧ ∀ f ∈ es, (f.kind = .release → e.kind = .release) ∧ (f.kind = e.kind → e.slot ≤ f.slot)

/-- Every enabled STREAM channel but `n` is STARVED with nothing queued (R43). -/
def OthersDry (s : State) (n : Fin 16) : Prop :=
  ∀ m, m ≠ n → (s.chan m).enable = true → (s.chan m).mode = .stream →
    (s.chan m).state = .starved ∧ (s.chan m).queue = []

/-- The channel's segment ends at the close of this microsecond, with nothing queued behind it (R57, R58, R60). -/
def EndsDry (c : Channel) : Prop :=
  ∃ a, c.active = some a ∧ a.ahead = .slot ∧ a.seg.period ≤ a.played ∧ a.seg.length ≤ a.index + 1 ∧ a.seg.rep ≠ 0
    ∧ a.seg.rep ≤ a.pass ∧ c.queue = []

/-- The select names the edge to the level `lv` (R98). -/
def names (e : EdgeSel) (lv : Bool) : Prop := e ≠ (if lv then .fall else .rise)

/-- A sample that finds `lv` in microsecond `now` is the one that accepts it, with an edge the input's own select names
(R95 to R98). -/
def Accepts (x : Input) (lv : Bool) (now : Nat) : Prop :=
  x.enable = true ∧ (∃ u, x.phase = some u ∧ u ≤ now) ∧ x.acquire = false ∧ x.level = some (!lv) ∧ 2 ≤ x.agree
    ∧ names x.edge lv

/-- Nothing in the capture deliveries answers an edge: no slot is ARMED and no edge release is enabled. -/
def QuietEdges (s : State) : Prop :=
  (∀ k, (s.slot k).state ≠ .armed) ∧ s.run.config.line.enable = false ∧ s.run.config.capture.enable = false

end Sys2Proof.Safety
end

