-- ==== Sys2Proof/Certificates/Slice0/Obligations.lean ====
section
/-! DEFINITION. The statements for the provers, chapter by chapter. Each docstring names the rule a statement formalises. A
statement of a command's result is an equation for the next state wherever one state is the answer, so it says its
frame: every field the equation does not change reads as before. -/

open Sys2Proof Sys2Proof.Machine Sys2Proof.Safety

/-! ### The machine -/

/-- One step with a command at the front of the queue is that command's meaning on the state with the queue's rest. -/
def Obligations.StepRunsTheFrontCommand : Prop :=
  ∀ (c : Instr) (rest : List Instr) (s : State), s.pending = c :: rest → step s = exec c { s with pending := rest }

/-- No command faults, none is refused, and none touches the commands that wait behind it. The first two are the model's own
reading (log entry 12): the spec gives every command an effect in every state. -/
def Obligations.EveryCommandAnswersAndKeepsTheQueue : Prop :=
  ∀ (c : Instr) (s : State), ∃ t, exec c s = .next t ∧ t.pending = s.pending

/-- With no command waiting (log entry 1, the model's own reading of what the block does in time) the block takes what is left
of the run microsecond, item by item; else the first event that is due, in the order of log entry 1; else the next
microsecond begins. In RUNNING that is a run microsecond (R23). Otherwise only uptime moves: configurations reach their
pins (R75, R140), a disabled input has the level NONE (R94, log entry 19), channels rest outside a run and hold through
one (R76, R32), and CONN_SENSE has its reading of the new microsecond still to come (R166), the first after a cold reset on
(R174); where it will change the connect-sense state it is one of the events due. -/
def Obligations.AnEmptyQueueLetsTimeGoOn : Prop :=
  ∀ s : State, s.pending = [] →
    (∀ w rest, s.run.work = w :: rest → step s = .next (takeItem w s))
      ∧ (s.run.work = [] →
          (∀ before c behind, dueEvents s = before ++ c :: behind → isDue c s = true →
              (∀ b ∈ before, isDue b s = false) → step s = exec c s)
          ∧ ((∀ c ∈ dueEvents s, isDue c s = false) →
              (s.run.state = .running → step s = exec (.runMicrosecond []) s)
              ∧ (s.run.state ≠ .running → ∃ t, step s = .next t
                  ∧ t.uptime = s.uptime + 1 ∧ t.trace = s.trace ∧ t.cap.log = s.cap.log
                  ∧ t.pins.map = s.pins.map ∧ t.pins.routed = s.pins.map
                  ∧ (∀ k, (s.input k).enable = false → (t.input k).level = none)
                  ∧ (∀ k, (s.input k).enable = true → t.input k = s.input k)
                  ∧ (∀ n, (t.chan n).pinEnable = (s.chan n).enable ∧ (t.chan n).pinRef = (s.chan n).reference)
                  ∧ (s.run.state ≠ .held → ∀ n, (t.chan n).half = none ∧ (t.chan n).line = (s.chan n).restLevel
                      ∧ (t.chan n).output = if n.val < 12 then (s.chan n).restCode else 0)
                  ∧ (s.run.state = .held → s.run.begun = true → ∀ n, (t.chan n).output = (s.chan n).output
                      ∧ (t.chan n).half = (s.chan n).half ∧ (t.chan n).line = (s.chan n).line)
                  ∧ t.sup = { s.sup with sensed := false } ∧ t.run = { s.run with inMicro := false } ∧ t.rot = s.rot
                  ∧ t.faults = s.faults ∧ t.ntc = s.ntc ∧ t.link = s.link)))

/-! ### Chapter 1: Rotation Generator -/

/-- WHEEL-SET (R12) and CAM-SET (R15): stored in IDLE and ENDED when every check passes; else BAD_LENGTH, WRONG_STATE or
BAD_FIELD in the order of R190, with nothing stored. -/
def Obligations.PatternSetsStoreOrRefuse : Prop :=
  (∀ (w : RawWheel) (s : State),
    (between s → WheelLegal w →
        exec (.wheelSet w) s = .next (answered 0x20 .ok [] { s with rot := { s.rot with wheel := wheelStored w } }))
      ∧ (between s → ¬ WheelLegal w → exec (.wheelSet w) s = .next (answered 0x20 .badField [] s))
      ∧ (¬ between s → exec (.wheelSet w) s = .next (answered 0x20 .wrongState [] s)))
  ∧ ∀ (cam : Nat) (count : Nat) (es : List RawEdge) (s : State),
    (es.length ≠ count → exec (.camSet cam count es) s = .next (answered 0x21 .badLength [] s))
      ∧ (es.length = count → ¬ between s → exec (.camSet cam count es) s = .next (answered 0x21 .wrongState [] s))
      ∧ (es.length = count → between s → ¬ (cam < 2 ∧ CamLegal es) →
          exec (.camSet cam count es) s = .next (answered 0x21 .badField [] s))
      ∧ (es.length = count → between s → CamLegal es → ∀ c : Fin 2, c.val = cam →
          exec (.camSet cam count es) s = .next (answered 0x21 .ok []
            { s with rot := { s.rot with
                cams := setAt s.rot.cams c (es.map (fun e => { angle := e.angle, level := e.level == 1 })) } }))

/-- SPEED-PUSH (R8): the points join the tail with targets above 192,000 stored as 192,000 and the status CLAMPED; a count
outside 1..4 is BAD_FIELD, too little room is QUEUE_FULL, a wrong length BAD_LENGTH, and nothing is then added. -/
def Obligations.SpeedPushAppendsOrRefuses : Prop :=
  ∀ (count : Nat) (ps : List RawPoint) (s : State), (∀ p ∈ ps, p.ramp ≤ 16777215 ∧ p.hold ≤ 16777215) →
    (ps.length ≠ count → exec (.speedPush count ps) s = .next (answered 0x22 .badLength [] s))
      ∧ (ps.length = count → count = 0 ∨ 4 < count →
          exec (.speedPush count ps) s = .next (answered 0x22 .badField (le 1 s.rot.queue.length) s))
      ∧ (ps.length = count → 1 ≤ count → count ≤ 4 → 16 < s.rot.queue.length + count →
          exec (.speedPush count ps) s = .next (answered 0x22 .queueFull (le 1 s.rot.queue.length) s))
      ∧ (ps.length = count → 1 ≤ count → count ≤ 4 → s.rot.queue.length + count ≤ 16 →
          exec (.speedPush count ps) s = .next (answered 0x22
            (if ps.all (fun p => decide (p.target ≤ 192000)) then .ok else .clamped)
            (le 1 (s.rot.queue.length + count))
            { s with rot := { s.rot with
                queue := s.rot.queue
                  ++ ps.map (fun p => { target := min p.target 192000, ramp := p.ramp, hold := p.hold })
                drained := false } }))

/-- SPEED-FLUSH (R9, R10): the queue is emptied, the active point discarded with the flag, and the reply counts both. When
that leaves a run's profile empty it becomes drained and SPEED is raised (log entry 11); with end on drain set and every
enabled STREAM channel starved and empty the run then ends with DRAINED (R43). -/
def Obligations.SpeedFlushEmptiesTheQueue : Prop :=
  ∀ (f : Nat) (s : State),
    let discards := decide (f = 1) && s.rot.active.isSome
    let body := le 1 s.rot.queue.length ++ [if discards then 1 else 0]
    let flushed : State := { s with rot := { s.rot with queue := [], active := if f = 1 then none else s.rot.active } }
    let empties := (discards || !s.rot.queue.isEmpty) && s.inRun && flushed.rot.active.isNone && !s.rot.drained
    let after := if empties then raise .speed { flushed with rot := { flushed.rot with drained := true } } else flushed
    let starved := ∀ n, (s.chan n).enable = true → (s.chan n).mode = .stream →
      (s.chan n).state = .starved ∧ (s.chan n).queue = []
    (2 ≤ f → exec (.speedFlush f) s = .next (answered 0x23 .badField [0, 0] s))
      ∧ (f < 2 → s.run.config.endOnDrain = false ∨ empties = false ∨ ¬ starved →
          exec (.speedFlush f) s = .next (answered 0x23 .ok body after))
      ∧ (f < 2 → s.run.config.endOnDrain = true → empties = true → starved →
          ∃ t, exec (.speedFlush f) s = .next t ∧ t.run.state = .ended ∧ t.run.endReason = .drained
            ∧ t.isPending .speed = true ∧ t.isPending .run = true)
      ∧ (f < 2 → ∃ t, exec (.speedFlush f) s = .next t ∧ t.rot.queue = [] ∧ (f = 1 → t.rot.active = none)
          ∧ t.trace = s.trace ∧ t.cap = s.cap ∧ t.link = (answered 0x23 .ok body s).link)

/-- SPEED_POINT_END (R6, R10, R43): a point that has played its length ends; with the queue empty in a run the profile becomes
drained and SPEED is raised, and with end on drain set and every enabled STREAM channel starved and empty the run
ends with DRAINED. The moments of
being drained are log entry 11. Before its length the point goes on (log entry 8). -/
def Obligations.SpeedPointEndsAtItsLength : Prop :=
  ∀ (a : ActivePoint) (s : State), s.rot.active = some a →
    let ended : State := { s with rot := { s.rot with active := none } }
    let starved := ∀ n, (s.chan n).enable = true → (s.chan n).mode = .stream →
      (s.chan n).state = .starved ∧ (s.chan n).queue = []
    (a.k < max 1 (a.point.ramp + a.point.hold) → exec .speedPointEnd s = .next s)
      ∧ (max 1 (a.point.ramp + a.point.hold) ≤ a.k →
          (s.rot.queue ≠ [] ∨ s.inRun = false ∨ s.rot.drained = true → exec .speedPointEnd s = .next ended)
          ∧ (s.rot.queue = [] → s.inRun = true → s.rot.drained = false →
              (s.run.config.endOnDrain = false ∨ ¬ starved → exec .speedPointEnd s =
                .next (raise .speed { ended with rot := { ended.rot with drained := true } }))
              ∧ (s.run.config.endOnDrain = true → starved →
                  ∃ t, exec .speedPointEnd s = .next t ∧ t.run.state = .ended ∧ t.run.endReason = .drained
                    ∧ t.isPending .speed = true ∧ t.isPending .run = true)))

/-- The speed of a point's k-th run microsecond (R7): S0 + trunc((S1 − S0) × k / N) through the ramp, exactly S1 at its end
and through the hold; truncation rounds each step toward S0; every step lies between S0 and S1 (R5). -/
def Obligations.SpeedRampIsExact : Prop :=
  ∀ (p : SpeedPoint) (s0 k : Nat), 1 ≤ k →
    (k ≤ p.ramp → (p.speedAt s0 k : Int) = s0 + Int.tdiv (((p.target : Int) - s0) * k) p.ramp)
      ∧ (k = p.ramp → p.speedAt s0 k = p.target) ∧ (p.ramp < k → p.speedAt s0 k = p.target)
      ∧ (p.target = s0 → p.speedAt s0 k = s0)
      ∧ min s0 p.target ≤ p.speedAt s0 k ∧ p.speedAt s0 k ≤ max s0 p.target
      ∧ (s0 ≤ p.target → k ≤ p.ramp → (p.speedAt s0 k - s0) * p.ramp ≤ (p.target - s0) * k)
      ∧ (p.target ≤ s0 → k ≤ p.ramp → (s0 - p.speedAt s0 k) * p.ramp ≤ (s0 - p.target) * k)
      ∧ (p.ramp = 0 → p.length = max p.hold 1)

/-- One run microsecond (R23, R24, R1, R3, R4, R21): with nothing due before it, nothing left of the one before and the run
RUNNING, uptime and the run clock advance by one, the speed is the profile's, the accumulator advances by 3 × S with the
wrap and the cycle count, θ moves by at most 8 centidegrees, and the lines of a run that goes on take the levels of the new
angle with the modifiers in force before, in whatever order the microsecond's items are taken and wherever it pauses (log
entry 3). RotationLaw is an invariant of its own (below). -/
def Obligations.RunMicrosecondAdvancesTheAngle : Prop :=
  ∀ (order : List WorkItem) (s : State), RotationLaw s → s.run.state = .running → s.run.work = [] →
    nextDue s = none →
    ∃ t, exec (.runMicrosecond order) s = .next t
      ∧ t.uptime = s.uptime + 1 ∧ t.run.clock = (s.run.clock + 1) % 2 ^ 40
      ∧ t.rot.acc = (s.rot.acc + 3 * nextSpeed s.rot) % 5760000000
      ∧ t.rot.cycle =
          (if s.rot.acc + 3 * nextSpeed s.rot < 5760000000 then s.rot.cycle else (s.rot.cycle + 1) % 65536)
      ∧ t.rot.prevTheta = s.theta ∧ (t.theta + 72000 - s.theta) % 72000 ≤ 8
      ∧ t.trace = s.trace ∧ t.run.config = s.run.config ∧ t.run.inMicro = true ∧ t.pins.routed = s.pins.map
      ∧ (t.run.state ≠ .ended →
          t.rot.speed = nextSpeed s.rot ∧ t.rot.crankLine = s.rot.wheel.level s.rot.crankMod t.theta
            ∧ ∀ c, getAt t.rot.camLines c = camLevel (getAt s.rot.cams c) (getAt s.rot.camMods c) t.theta)
      ∧ (t.run.state = .ended → t.rot.speed = 0 ∧ t.rot.crankLine = false)

/-- The crank line level (R13, R19): high exactly when the position within the tooth is below the duty, the tooth is in no gap
and no TOOTH_DROP names it; a gap covers its first tooth and the following count − 1, counted modulo T. -/
def Obligations.CrankLevelFollowsTheTeeth : Prop :=
  ∀ (w : Wheel) (m : Option CrankMod) (theta : Nat), WheelLaw w → theta < 72000 →
    let shift : Int := match m with | some (.shift d) => d | some (.toothDrop _) => 0 | none => 0
    let p := (((theta : Int) - w.offset - shift) % 36000).toNat
    let i := p / (36000 / w.teeth)
    (w.level m theta = true ↔
      w.teeth ≠ 0 ∧ p % (36000 / w.teeth) < w.duty
        ∧ (∀ g ∈ w.gaps, ∀ j < g.count, (g.first + j) % w.teeth ≠ i) ∧ m ≠ some (.toothDrop i))

/-- Edge integrity (R14): over an advance of at most 8 centidegrees, the most a sweep spans (R1), the crank line crosses at most
one boundary: where both ends read one level, so does every angle between. -/
def Obligations.NoToothPartIsPassedUnseen : Prop :=
  ∀ (w : Wheel) (m : Option CrankMod) (theta d j : Nat), WheelLaw w → d ≤ 8 → j ≤ d →
    w.level m (theta % 72000) = w.level m ((theta + d) % 72000) →
    w.level m ((theta + j) % 72000) = w.level m (theta % 72000)

/-- The cam line level (R16, R20): that of the last edge at or below the position, else of the list's last edge; low for an
empty list; a CAM_SHIFT moves the position and a CAM_HOLD gives its captured level. -/
def Obligations.CamLevelFollowsTheEdges : Prop :=
  ∀ (es : List CamEdge) (theta : Nat), CamLaw es → theta < 72000 →
    (es = [] → camLevel es none theta = false)
      ∧ (∀ a e b, es = a ++ e :: b → e.angle ≤ theta → (∀ f ∈ b, theta < f.angle) → camLevel es none theta = e.level)
      ∧ (∀ e ∈ es.getLast?, (∀ f ∈ es, theta < f.angle) → camLevel es none theta = e.level)
      ∧ (∀ l, camLevel es (some (.hold l)) theta = l)
      ∧ (∀ d : Int, camLevel es (some (.shift d)) theta = camLevel es none (((theta : Int) - d) % 72000).toNat)

/-! ### Chapter 2: Run Control -/

/-- RUN-CONFIG (R26) and CHANNEL-CONFIG (R74, R53, R75): stored whole in IDLE and ENDED when every check passes, a RUN-CONFIG with
the status CLAMPED when the start speed was above 192,000; else BAD_FIELD or WRONG_STATE with nothing stored. -/
def Obligations.RunAndChannelConfigStoreOrRefuse : Prop :=
  (∀ (c : RawRunConfig) (s : State),
    (between s → RunConfigLegal c →
        exec (.runConfig c) s = .next (answered 0x10 (if c.startSpeed ≤ 192000 then .ok else .clamped) []
          { s with run := { s.run with config := configStored c } }))
      ∧ (between s → ¬ RunConfigLegal c → exec (.runConfig c) s = .next (answered 0x10 .badField [] s))
      ∧ (¬ between s → exec (.runConfig c) s = .next (answered 0x10 .wrongState [] s)))
  ∧ ∀ (r : RawChannelConfig) (s : State),
    (between s → ChannelLegal r → ∀ n : Fin 16, n.val = r.channel →
        exec (.channelConfig r) s = .next (answered 0x32 .ok [] (s.setChan n (channelStored r (s.chan n)))))
      ∧ (between s → ¬ ChannelLegal r → exec (.channelConfig r) s = .next (answered 0x32 .badField [] s))
      ∧ (¬ between s → exec (.channelConfig r) s = .next (answered 0x32 .wrongState [] s))

/-- START (R28, R2, R30, R77): in IDLE and ENDED it clears the records of the run, sets the angle, cycle count and speed from the
configuration, empties the capture log and enters RUNNING or ARMED; a run that starts at once reaches the START_PULSE
routes. In any other state it is refused with WRONG_STATE. What a pause has left of the ended run's last microsecond is taken
first (log entry 3). -/
def Obligations.StartBeginsARun : Prop :=
  ∀ s : State,
    (¬ between s → exec .start s = .next (answered 0x11 .wrongState [s.run.state.code] s))
      ∧ (between s → exec .start s = exec .start (finishWork s) ∧ (finishWork s).run.work = [])
      ∧ (between s → s.run.work = [] → ∃ t, exec .start s = .next t
          ∧ t.run = { s.run with
              state := if s.run.config.startMode = .line then .armed else .running
              endReason := .none, clock := 0, flags := { resume := false, line := false, capture := false }
              last := { kind := .none, events := ⟨false, false, false, false⟩, clock := 0 }
              holdTimer := none, begun := false, wrapDue := false }
          ∧ t.rot = { s.rot with
              acc := s.run.config.startAngle * 80000, cycle := 0, speed := s.run.config.startSpeed, active := none
              drained := false, prevTheta := s.run.config.startAngle, cycleEvent := false }
          ∧ t.cap = { s.cap with log := [] } ∧ (∀ n, t.chan n = { s.chan n with clamped := false })
          ∧ (∀ l, getAt t.ntc.timers l =
              if s.run.config.startMode = .immediate ∧ getAt s.ntc.routes l = .startPulse then some (s.uptime + 9)
              else getAt s.ntc.timers l)
          ∧ { t.ntc with timers := s.ntc.timers } = s.ntc ∧ t.trace = s.trace ∧ t.faults = s.faults
          ∧ t.pins = s.pins ∧ t.sup = s.sup ∧ t.uptime = s.uptime
          ∧ t.link = (answered 0x11 .ok [t.run.state.code] s).link)

/-- HOLD (R31, R36, R37): in RUNNING with no release flag pending the run enters HELD, the hold timer starts when enabled and
RUN is raised; with a flag pending the hold is skipped, the flags cleared and recorded; in any other state it is
refused. RESUME (R34, R37) and HOLD_TIMEOUT (R36): in HELD the run goes on with the release recorded and RUN raised; a
RESUME in RUNNING sets its flag and in any other state is refused; a timeout before its microsecond, or outside HELD,
does nothing (log entry 8). CLEAR (R45): in IDLE, ARMED and ENDED the run is IDLE with no end reason and no flag pending,
and nothing else changes; in RUNNING and HELD it is refused. -/
def Obligations.HoldsReleasesAndClear : Prop :=
  (∀ s : State,
    (s.run.state = .running → s.run.flags.any = false →
        exec .hold s = .next (answered 0x12 .ok [3] (raiseRun .held .none
          { s with run := { s.run with
              state := .held
              holdTimer := if s.run.config.timeoutEnable then some (s.uptime + 1000 * s.run.config.timeout)
                else none } })))
      ∧ (s.run.state = .running → s.run.flags.any = true →
          exec .hold s = .next (answered 0x12 .holdSkipped [2]
            { s with run := { s.run with
                flags := { resume := false, line := false, capture := false }
                last := { kind := .skipped
                          events := ⟨s.run.flags.resume, s.run.flags.line, s.run.flags.capture, false⟩
                          clock := s.run.clock } } }))
      ∧ (s.run.state ≠ .running → exec .hold s = .next (answered 0x12 .wrongState [s.run.state.code] s)))
  ∧ (∀ s : State,
    (s.run.state = .held →
        exec .resume s = .next (answered 0x13 .ok [2] (raiseRun .running .none
          { s with run := { s.run with
              state := .running, holdTimer := none
              last := { kind := .released, events := ⟨true, false, false, false⟩, clock := s.run.clock } } })))
      ∧ (s.run.state = .running →
          exec .resume s = .next (answered 0x13 .ok [2]
            { s with run := { s.run with flags := { s.run.flags with resume := true } } }))
      ∧ (s.run.state ≠ .held → s.run.state ≠ .running →
          exec .resume s = .next (answered 0x13 .wrongState [s.run.state.code] s)))
  ∧ (∀ (s : State) (u : Nat), s.run.holdTimer = some u →
    (s.run.state = .held → u ≤ s.uptime →
        exec .holdTimeout s = .next (raiseRun .running .none
          { s with run := { s.run with
              state := .running, holdTimer := none
              last := { kind := .released, events := ⟨false, false, false, true⟩, clock := s.run.clock } } }))
      ∧ (s.run.state ≠ .held ∨ s.uptime < u → exec .holdTimeout s = .next s))
  ∧ ∀ s : State,
    (s.run.state ≠ .running → s.run.state ≠ .held →
        exec .clear s = .next (answered 0x15 .ok [0]
          { s with run := { s.run with
              state := .idle, endReason := .none
              flags := { resume := false, line := false, capture := false } } }))
      ∧ (s.run.state = .running ∨ s.run.state = .held →
          exec .clear s = .next (answered 0x15 .wrongState [s.run.state.code] s))

/-- END (R40, R44, R65, R133, R157): in ARMED, RUNNING and HELD the run enters ENDED with END_REQUEST. The clock, flags and last
release stay, RUN is raised, the rotation stops with its angle, count and queue kept, and every source stops with its queue
kept. Every slot answers by its state with the outcome RUN_ENDED: LOADED with nothing held from ARMED, WAITING, ALIGNING
and a waiting PENDING, whose APPLY is withdrawn; an instant action taken away at once, a relay release handed over; a
transition in flight or a release under way marked LOAD. A grant of this same microsecond is chosen anew after the run's
end, and its APPLY counts as waiting, unless that APPLY was handed over in this microsecond too: then it has started and
completes (R134, R152; the reading of log entry 17). A slot already marked LOAD keeps its outcome (log entry 15), and a slot
that becomes LOADED keeps its progress (log entry 21): both are the model's readings. In IDLE and ENDED END is refused.
HolderLaw is an invariant of its own (below). -/
def Obligations.EndRequestEndsTheRun : Prop :=
  ∀ s : State,
    (between s → exec .endRun s = .next (answered 0x14 .wrongState [s.run.state.code] s))
      ∧ (¬ between s → ∃ t, exec .endRun s = .next t
          ∧ t.run = { s.run with state := .ended, endReason := .endRequest, holdTimer := none }
          ∧ t.isPending .run = true ∧ t.ntc.runState = .ended ∧ t.ntc.runReason = .endRequest
          ∧ t.rot.speed = 0 ∧ t.rot.active = none ∧ t.rot.drained = false ∧ t.rot.crankLine = false
          ∧ (∀ c, getAt t.rot.camLines c = false)
          ∧ t.rot.acc = s.rot.acc ∧ t.rot.cycle = s.rot.cycle ∧ t.rot.queue = s.rot.queue
          ∧ t.rot.wheel = s.rot.wheel ∧ t.rot.cams = s.rot.cams
          ∧ (∀ n, t.chan n =
              { s.chan n with active := none, state := .stopped, held := none, modifier := (t.chan n).modifier })
          ∧ (∀ k, (t.slot k).state ≠ .armed ∧ (t.slot k).state ≠ .waiting ∧ (t.slot k).state ≠ .aligning
              ∧ (t.slot k).state ≠ .active)
          ∧ { t.sup with battDrop := s.sup.battDrop, ignDrop := s.sup.ignDrop, battAct := s.sup.battAct
                         ignAct := s.sup.ignAct, driver := s.sup.driver } = s.sup
          ∧ { t.ntc with pending := s.ntc.pending, runState := s.ntc.runState, runReason := s.ntc.runReason
                         channelMask := s.ntc.channelMask } = s.ntc
          ∧ t.trace = s.trace ∧ t.cap = s.cap ∧ t.pins.map = s.pins.map ∧ t.uptime = s.uptime
          ∧ t.link = (answered 0x14 .ok [4] s).link
          ∧ (HolderLaw s →
              let idle := fun g => ∀ k, s.holder g = some k → (s.slot k).state ≠ .active
              let reopened := ∃ e, s.pins.drive = .busy e s.uptime
                ∧ (e.kind = .release ∨ ((s.slot e.slot).releaseEnd = .rep ∧ e.since ≠ s.uptime))
              (∀ n, idle (chanTarget n) → (t.chan n).modifier = (s.chan n).modifier)
              ∧ (∀ n, ¬ idle (chanTarget n) → (t.chan n).modifier = none)
              ∧ (idle 40 → t.rot.crankMod = s.rot.crankMod)
              ∧ (∀ c, idle (camTarget c) → getAt t.rot.camMods c = getAt s.rot.camMods c)
              ∧ (∀ p, idle (pinTarget p) → t.path p = s.path p)
              ∧ (¬ reopened → t.pins.drive = s.pins.drive)
              ∧ (reopened → (t.pins.drive = .free ∧ t.pins.waitList = [])
                  ∨ ∃ f, t.pins.drive = .busy f s.uptime ∧ Chosen f (f :: t.pins.waitList))
              ∧ ∀ k,
                let x := s.slot k
                let y := t.slot k
                let flies := s.inFlight k
                let released := ∀ g, t.holder g ≠ some k
                let kept := ∀ g, t.holder g = some k ↔ s.holder g = some k
                let loaded := { x with
                  state := .loaded, outcome := .runEnded, record := x.staged.or x.record, staged := none }
                (x.state = .empty ∨ x.state = .loaded ∨ x.state = .done → y = x)
                ∧ (x.state = .armed ∨ x.state = .waiting → y = loaded)
                ∧ (x.state = .aligning → y = loaded ∧ released ∧ ∀ p, ∀ w ∈ t.wait p, w.slot ≠ k)
                ∧ (x.state = .pending → flies = false ∨ (x.releaseEnd = .rep ∧ reopened) →
                    y = loaded ∧ released ∧ ∀ e ∈ transitions t, e.slot ≠ k)
                ∧ (x.state = .pending → flies = true → x.releaseEnd = .rep → ¬ reopened →
                    kept ∧ y = { x with outcome := .runEnded, releaseEnd := .load })
                ∧ (x.state = .pending → flies = true → x.releaseEnd = .load → kept ∧ y = x)
                ∧ (x.state = .releasing → kept
                    ∧ (x.releaseEnd = .rep → y = { x with outcome := .runEnded, releaseEnd := .load })
                    ∧ (x.releaseEnd = .load → y = x))
                ∧ (x.state = .active → ∀ r, x.record = some r →
                    (r.action.relay = none → y = { loaded with releaseEnd := .load } ∧ released ∧ takenAway r.action t)
                    ∧ ∀ path, r.action.relay = some path →
                        let e : RelayEntry := { slot := k, kind := .release, path := path, since := s.uptime }
                        y = { x with state := .releasing, outcome := .runEnded, releaseEnd := .load } ∧ kept
                          ∧ (e ∈ t.pins.waitList ∨ t.pins.drive = .busy e s.uptime))))

/-- The run clock (R24): every command but RUN_MICROSECOND leaves it or, at a start or a reset, sets it to 0; while the run is
RUNNING or HELD only a reset may. -/
def Obligations.OnlyRunMicrosecondsMoveTheClock : Prop :=
  ∀ (c : Instr) (s t : State), (∀ o, c ≠ .runMicrosecond o) → exec c s = .next t →
    (t.run.clock = s.run.clock ∨ t.run.clock = 0)
      ∧ (s.run.state = .running ∨ s.run.state = .held → c ≠ .warmReset → (∀ b, c ≠ .coldReset b) →
          t.run.clock = s.run.clock)

/-! ### Chapter 3: trace memory and channel sources -/

/-- TRACE-WRITE (R48): legal fields store sample n at address + n and nothing else, in any run state; otherwise BAD_FIELD or
BAD_LENGTH and no sample is written. TraceLaw is an invariant of its own (below). -/
def Obligations.TraceWriteStoresItsSamples : Prop :=
  ∀ (a n : Nat) (xs : List Sample) (s : State), TraceLaw s →
    (xs.length ≠ n → exec (.traceWrite a n xs) s = .next (answered 0x30 .badLength [] s))
      ∧ (xs.length = n → 1048575 < a ∨ n = 0 ∨ 120 < n ∨ 1048576 < a + n →
          exec (.traceWrite a n xs) s = .next (answered 0x30 .badField [0, 0, 0, 0] s))
      ∧ (xs.length = n → a ≤ 1048575 → 1 ≤ n → n ≤ 120 → a + n ≤ 1048576 →
          ∃ m : Memory, exec (.traceWrite a n xs) s = .next (answered 0x30 .ok (le 3 a ++ le 1 n) { s with trace := m })
            ∧ ∀ b, m.read b = if a ≤ b ∧ b < a + n then xs.getD (b - a) 0 else s.trace.read b)

/-- TRACE-READ (R49): in every run state, legal fields answer the samples from address on in ascending order as they stand;
the same checks as TRACE-WRITE refuse it, and it changes no state. -/
def Obligations.TraceReadReturnsTheSamples : Prop :=
  ∀ (a n : Nat) (s : State),
    (1048575 < a ∨ n = 0 ∨ 120 < n ∨ 1048576 < a + n →
        exec (.traceRead a n) s = .next (answered 0x31 .badField (le 3 a ++ [0]) s))
      ∧ (a ≤ 1048575 → 1 ≤ n → n ≤ 120 → a + n ≤ 1048576 →
          exec (.traceRead a n) s = .next (answered 0x31 .ok
            (le 3 a ++ le 1 n ++ (List.range n).flatMap (fun i => le 2 (s.trace.read (a + i)).toNat)) s))

/-- WINDOW-SET (R68): one window written in IDLE and ENDED when every field is in range; else BAD_FIELD or WRONG_STATE.
CHANNEL-SET (R54): the code is stored on any channel in any run state when it lies in the range of the channel's kind; a
larger code or no such channel is BAD_FIELD. -/
def Obligations.WindowsAndCodesAreStoredOrRefused : Prop :=
  (∀ (w : RawWindow) (s : State),
    (between s → WindowLegal w → ∀ (n : Fin 16) (i : Fin 4), n.val = w.channel → i.val = w.window →
        exec (.windowSet w) s = .next (answered 0x33 .ok [] (s.setChan n { s.chan n with
          windows := setAt (s.chan n).windows i
            { enable := w.enable == 1, start := w.start, stop := w.stop, base := w.base, pitch := w.pitch } })))
      ∧ (between s → ¬ WindowLegal w → exec (.windowSet w) s = .next (answered 0x33 .badField [] s))
      ∧ (¬ between s → exec (.windowSet w) s = .next (answered 0x33 .wrongState [] s)))
  ∧ ∀ (ch code : Nat) (s : State),
    (∀ n : Fin 16, n.val = ch → code ≤ kindMax ch →
        exec (.channelSet ch code) s = .next (answered 0x37 .ok (le 2 code)
          (s.setChan n { s.chan n with constCode := code })))
      ∧ (16 ≤ ch ∨ kindMax ch < code → exec (.channelSet ch code) s = .next (answered 0x37 .badField [0, 0] s))

/-- Window coverage (R69): a window covers the angles counted upward from start through stop across the wrap, as many as the
span says, at the offset (θ − start) mod 72,000; one centidegree when start equals stop, every angle when stop is one below
start; a disabled window covers none. -/
def Obligations.WindowCoversItsSpan : Prop :=
  ∀ (w : Window) (theta : Nat), w.start < 72000 → w.stop < 72000 → theta < 72000 →
    (w.enable = false → w.covers theta = false)
      ∧ (w.offset theta : Int) = ((theta : Int) - w.start) % 72000
      ∧ (w.covers theta = true → w.offset theta ≤ (w.stop + 72000 - w.start) % 72000)
      ∧ (w.enable = true →
          (w.covers theta = true ↔
            ∃ i, i ≤ (w.stop + 72000 - w.start) % 72000 ∧ theta = (w.start + i) % 72000)
          ∧ (w.start = w.stop → (w.covers theta = true ↔ theta = w.start))
          ∧ (w.stop = (w.start + 71999) % 72000 → w.covers theta = true)
          ∧ (w.start ≤ w.stop → (w.covers theta = true ↔ w.start ≤ theta ∧ theta ≤ w.stop))
          ∧ (w.stop < w.start → (w.covers theta = true ↔ w.start ≤ theta ∨ theta ≤ w.stop)))

/-- SEGMENT-PUSH (R64): the segment joins the tail of a STREAM channel's queue; BAD_FIELD for a bad field, another mode or no
such channel; QUEUE_FULL at eight queued. -/
def Obligations.SegmentPushAppendsOrRefuses : Prop :=
  ∀ (g : RawSegment) (s : State),
    (∀ n : Fin 16, n.val = g.channel →
        let c := s.chan n
        (SegmentLegal g → c.mode = .stream → c.queue.length < 8 →
            exec (.segmentPush g) s = .next (answered 0x34 .ok (le 1 (c.queue.length + 1)) (s.setChan n { c with
              queue := c.queue ++ [{ base := g.base, length := g.length, period := g.period, rep := g.rep }] })))
          ∧ (SegmentLegal g → c.mode = .stream → 8 ≤ c.queue.length →
              exec (.segmentPush g) s = .next (answered 0x34 .queueFull (le 1 c.queue.length) s))
          ∧ (¬ SegmentLegal g ∨ c.mode ≠ .stream →
              exec (.segmentPush g) s = .next (answered 0x34 .badField (le 1 c.queue.length) s)))
      ∧ (15 < g.channel → ∃ b, exec (.segmentPush g) s = .next (answered 0x34 .badField [b] s))

/-- SEGMENT-FLUSH (R62, R61, R42, R43): the queue of a STREAM channel is emptied; with the abort flag an active segment is
discarded and, in a run, the channel is STARVED holding the sample in progress, with its STARVED cause raised. That entry
ends a RUNNING run with UNDERRUN when stop on underrun is set, whichever end the other option would give (log entry 16);
else the run ends with DRAINED when end on drain is set, the profile is drained and no STREAM channel is left to play. A
channel whose segment ends in this same microsecond still raises its cause (R61, log entry 23). Where the
channel's take of run microsecond 1 waits for the flush (R63, log entry 3), the channel is STARVED at its rest value, and its
STARVED cause and hand-over stand to be taken. Another mode removes nothing; a channel above 15 or a flag above 1 is
BAD_FIELD. -/
def Obligations.SegmentFlushEmptiesTheQueue : Prop :=
  (∀ (n f : Nat) (s : State), 15 < n ∨ 1 < f → exec (.segmentFlush n f) s = .next (answered 0x35 .badField [0, 0] s))
  ∧ ∀ (n : Fin 16) (f : Nat) (s : State), f < 2 →
    let c := s.chan n
    let cut := decide (f = 1) && c.active.isSome
    let body := le 1 c.queue.length ++ [if cut then 1 else 0]
    let emptied := s.setChan n { c with queue := [] }
    let starved := s.setChan n { c with queue := [], active := none, state := .starved, held := some c.source }
    let under := s.run.config.stopOnUnderrun = true ∧ s.run.state = .running
    let drains := s.run.config.endOnDrain = true ∧ s.inRun = true ∧ s.rot.drained = true ∧ OthersDry s n
      ∧ (cut = true ∨ (c.state = .starved ∧ c.queue ≠ []))
    let awaits := s.inRun = true ∧ s.run.begun = true ∧ c.enable = true ∧ c.state = .stopped ∧ c.active = none
    let rest := if n.val < 12 then c.restCode else 0
    let entered := (s.setChan n { c with queue := [], state := .starved, held := some rest }).setWork
      ((if c.cause = .starved then [.channelNotice n] else []) ++ .underrun n :: s.run.work)
    let ends := fun r => ∃ t, exec (.segmentFlush n.val f) s = .next t ∧ t.run.state = .ended ∧ t.run.endReason = r
      ∧ t.isPending .run = true ∧ (t.chan n).state = .stopped
      ∧ (cut = true → c.cause = .starved → t.isPending .channel = true ∧ t.ntc.channelMask.getLsbD n.val = true)
      ∧ ∀ m, m ≠ n → EndsDry (s.chan m) → (s.chan m).cause = .starved → t.ntc.channelMask.getLsbD m.val = true
    (c.mode ≠ .stream → exec (.segmentFlush n.val f) s = .next (answered 0x35 .ok [0, 0] s))
      ∧ (c.mode = .stream →
          (cut = false → ¬ drains → ¬ awaits → exec (.segmentFlush n.val f) s = .next (answered 0x35 .ok body emptied))
          ∧ (awaits → exec (.segmentFlush n.val f) s = .next (answered 0x35 .ok body entered))
          ∧ (cut = true → s.inRun = false → exec (.segmentFlush n.val f) s =
              .next (answered 0x35 .ok body (s.setChan n { c with queue := [], active := none })))
          ∧ (cut = true → s.inRun = true → ¬ under → ¬ drains → exec (.segmentFlush n.val f) s =
              .next (answered 0x35 .ok body (if c.cause = .starved then raiseChannel n starved else starved)))
          ∧ (cut = true → under → ends .underrun)
          ∧ (drains → cut = false ∨ ¬ under → ends .drained)
          ∧ ∃ t, exec (.segmentFlush n.val f) s = .next t ∧ (t.chan n).queue = []
              ∧ (f = 1 → (t.chan n).active = none) ∧ t.trace = s.trace ∧ t.cap = s.cap
              ∧ (∀ m, m ≠ n → (t.chan m).queue = (s.chan m).queue) ∧ t.link = (answered 0x35 .ok body s).link)

/-- SAMPLE_SLOT_END (R57 to R61, R42, R43): when the slot has played its period the next slot follows; at the end of a pass
another follows while passes remain or a LOOP has nothing queued; a segment that ends makes way for the head of the queue,
whose take raises TAKEN. With an empty queue the channel is STARVED: it holds its last sample and raises its STARVED cause.
With stop on underrun set a RUNNING run then ends with UNDERRUN; with end on drain set a drained run with no STREAM channel
left to play ends with DRAINED. With both set it is UNDERRUN (the model's reading of R41, log entry 16), and the other
channels whose segments end in this microsecond raise their causes as well (its reading of R61, log entry 23). Before its
period nothing happens (log entry 8). -/
def Obligations.SampleSlotEndGoesOn : Prop :=
  (∀ (n : Fin 16) (a : ActiveSeg) (s : State), (s.chan n).active = some a →
    let c := s.chan n
    (a.ahead ≠ .slot ∨ a.played < a.seg.period → exec (.sampleSlotEnd n) s = .next s)
      ∧ (a.ahead = .slot → a.seg.period ≤ a.played →
          (a.index + 1 < a.seg.length → exec (.sampleSlotEnd n) s =
            .next (s.setChan n { c with active := some { a with ahead := .nextSlot } }))
          ∧ (a.seg.length ≤ a.index + 1 → (a.seg.rep = 0 ∧ c.queue = []) ∨ (a.seg.rep ≠ 0 ∧ a.pass < a.seg.rep) →
              exec (.sampleSlotEnd n) s =
                .next (s.setChan n { c with active := some { a with ahead := .nextPass } }))
          ∧ (a.seg.length ≤ a.index + 1 → a.seg.rep = 0 ∨ a.seg.rep ≤ a.pass →
              ∀ g rest, c.queue = g :: rest → exec (.sampleSlotEnd n) s =
                .next ((if c.cause = .taken then raiseChannel n else id)
                  (s.setChan n { c with
                    queue := rest, state := .playing
                    active := some { seg := g, pass := 1, index := 0, played := 0, sample := 0, ahead := .slot } })))))
  ∧ ∀ (n : Fin 16) (a : ActiveSeg) (s : State), (s.chan n).active = some a → a.ahead = .slot →
    a.seg.period ≤ a.played →
    a.seg.length ≤ a.index + 1 → a.seg.rep ≠ 0 → a.seg.rep ≤ a.pass → (s.chan n).queue = [] →
    let starved := s.setChan n { s.chan n with active := none, state := .starved, held := some a.sample }
    let under := s.run.config.stopOnUnderrun = true ∧ s.run.state = .running
    let drains := s.run.config.endOnDrain = true ∧ s.inRun = true ∧ s.rot.drained = true ∧ OthersDry s n
    let ends := fun r => ∃ t, exec (.sampleSlotEnd n) s = .next t ∧ t.run.state = .ended ∧ t.run.endReason = r
      ∧ t.isPending .run = true ∧ (t.chan n).state = .stopped
      ∧ (∀ m, m = n ∨ EndsDry (s.chan m) → (s.chan m).cause = .starved →
          t.isPending .channel = true ∧ t.ntc.channelMask.getLsbD m.val = true)
    (¬ under → ¬ drains → exec (.sampleSlotEnd n) s =
        .next (if (s.chan n).cause = .starved then raiseChannel n starved else starved))
      ∧ (under → ends .underrun) ∧ (drains → ¬ under → ends .drained)

/-- The source value a run microsecond gives every enabled channel (R51, R54, R56 to R58, R61, R70): the const code; the trace
sample at (base + floor(o / pitch)) mod 1,048,576 of the lowest-numbered window that covers θ, or the rest value; on
STREAM the sample of the slot in progress, or trace[(base + j) mod 1,048,576] where a slot, a pass or a segment begins,
with p and j. A channel with nothing to take at run microsecond 1 is STARVED at its rest value, raises its STARVED cause
and hands on UNDERRUN. With nothing else ordered, that UNDERRUN ends the run where stop on underrun is set, also where a STRICT
GUARD cause or DRAINED is reached in the same run microsecond: the model's choice among the orders R41 allows (the
standing order of log entry 3, log entry 16). Where the order names a flush of a channel that has a take to make and that
SEGMENT-FLUSH waits in the queue of commands before any other RUN_MICROSECOND, the flush comes before the take: the channel
takes nothing, keeps its state for now and reads its held value, or its rest value at run microsecond 1 (R63, log entry 3). -/
def Obligations.RunMicrosecondFormsEverySource : Prop :=
  ∀ (order : List WorkItem) (s : State), RotationLaw s → s.run.state = .running → s.run.work = [] →
    nextDue s = none →
    ∃ t, exec (.runMicrosecond order) s = .next t ∧ ∀ n,
      let c := s.chan n
      let d := t.chan n
      let rest := if n.val < 12 then c.restCode else 0
      let read := fun i => (s.trace.read (i % 1048576)).toNat
      let covers := fun (w : Window) =>
        w.enable = true ∧ (t.theta + 72000 - w.start) % 72000 ≤ (w.stop + 72000 - w.start) % 72000
      let raised := t.isPending .channel = true ∧ t.ntc.channelMask.getLsbD n.val = true
      let flushWaits := fun (n : Fin 16) => ∃ f before behind, f < 2 ∧ s.pending = before ++ .segmentFlush n.val f :: behind
        ∧ ∀ o, .runMicrosecond o ∉ before
      let plays := fun (a : ActiveSeg) =>
        d.source = a.sample ∧ (t.run.state ≠ .ended → .sampleEnd n ∉ order → d.active = some a)
      c.enable = true →
        (c.mode = .const → d.source = c.constCode)
        ∧ (c.mode = .angleMap →
            (∀ i : Fin 4, covers (getAt c.windows i) → (∀ j < i, ¬ covers (getAt c.windows j)) →
              let w := getAt c.windows i
              d.source = read (w.base + (t.theta + 72000 - w.start) % 72000 / w.pitch))
            ∧ ((∀ i, ¬ covers (getAt c.windows i)) → d.source = rest))
        ∧ (c.mode = .stream →
            (∀ a, c.active = some a →
              (a.ahead = .slot → 0 < a.played → plays { a with played := a.played + 1 })
              ∧ (a.ahead = .slot → a.played = 0 →
                  plays { a with played := 1, sample := read (a.seg.base + a.index) })
              ∧ (a.ahead = .nextSlot → plays { a with
                  index := a.index + 1, played := 1, sample := read (a.seg.base + (a.index + 1)), ahead := .slot })
              ∧ (a.ahead = .nextPass → plays { a with
                  pass := if a.seg.rep = 0 then min (a.pass + 1) 65535 else a.pass + 1
                  index := 0, played := 1, sample := read a.seg.base, ahead := .slot }))
            ∧ (c.active = none → ∀ g behind, c.queue = g :: behind → .flush n ∈ order → flushWaits n →
                d.source = c.held.getD rest ∧ d.queue = c.queue ∧ d.active = none
                  ∧ (t.run.state ≠ .ended → d.state = c.state))
            ∧ (c.active = none → ∀ g behind, c.queue = g :: behind →
                (.flush n ∉ order ∨ ¬ flushWaits n) →
                plays { seg := g, pass := 1, index := 0, played := 1, sample := read g.base, ahead := .slot }
                ∧ (t.run.state ≠ .ended → .sampleEnd n ∉ order → d.queue = behind ∧ d.state = .playing)
                ∧ (c.cause = .taken → .pause ∉ order → raised))
            ∧ (c.active = none → c.queue = [] → c.state = .starved → d.source = c.held.getD rest)
            ∧ (c.active = none → c.queue = [] → c.state ≠ .starved → d.source = rest
                ∧ (t.run.state ≠ .ended → d.state = .starved ∧ d.held = some rest)
                ∧ (c.cause = .starved → .pause ∉ order → raised)
                ∧ (s.run.config.stopOnUnderrun = true → order = [] →
                    t.run.state = .ended ∧ t.run.endReason = .underrun)))

/-- What a run microsecond makes of every source value (R77 to R85, R87, R88, R42): the output after the modifier in force before
and the guard, the clamped flag with GUARD raised, and on a pulse channel the generator, which begins, goes on, turns
or rests. Every driven value lies within the guard. A STRICT channel outside its guard ends the RUNNING run with GUARD
when that cause is the first taken; the model's own order takes UNDERRUN and DRAINED before it (log entry 3). A disabled
channel reads its rest value. -/
def Obligations.RunMicrosecondFormsEveryOutput : Prop :=
  ∀ (order : List WorkItem) (s : State), RotationLaw s → GuardLaw s → s.run.state = .running →
    s.run.work = [] → nextDue s = none →
    ∃ t, exec (.runMicrosecond order) s = .next t ∧ ∀ n,
      let c := s.chan n
      let d := t.chan n
      let begins := d.half = some { period := d.output, since := s.uptime + 1 }
      let trips := t.run.state = .ended ∧ t.run.endReason = .guardTrip
      (c.enable = true →
          d.output = (min (max (afterModifier c.modifier d.source) c.gmin) c.gmax).toNat
            ∧ c.gmin ≤ d.output ∧ d.output ≤ c.gmax
            ∧ (d.clamped = true ↔
                afterModifier c.modifier d.source < c.gmin ∨ (c.gmax : Int) < afterModifier c.modifier d.source)
            ∧ (d.clamped = true → .pause ∉ order →
                t.isPending .guardTrip = true ∧ t.ntc.guardMask.getLsbD n.val = true)
            ∧ (d.clamped = true → c.guardMode = .strict →
                (∀ behind, order = .guardTrip n :: behind → trips)
                ∧ (order = [] → t.run.state = .ended)
                ∧ (order = [] → s.run.config.stopOnUnderrun = false → s.run.config.endOnDrain = false → trips))
            ∧ (12 ≤ n.val → .halfEnd n ∉ order →
                (d.output = 0 → d.half = none ∧ d.line = c.restLevel)
                ∧ (d.output ≠ 0 → s.run.begun = false ∨ c.half = none → begins ∧ d.line = c.restLevel)
                ∧ (d.output ≠ 0 → s.run.begun = true → ∀ h, c.half = some h → d.half = some h ∧ d.line = c.line))
            ∧ (12 ≤ n.val → order = [.halfEnd n] → d.output ≠ 0 → s.run.begun = true →
                ∀ h, c.half = some h → h.since + h.period ≤ s.uptime + 1 → begins ∧ d.line = !c.line))
        ∧ (c.enable = false → d.output = (if n.val < 12 then c.restCode else 0) ∧ d.clamped = false ∧ d.half = none
            ∧ d.line = c.restLevel)

/-! ### Chapter 4: channel outputs -/

/-- CHANNEL-READ (R91, R67, R200): the reply reports the channel field by field and nothing changes; no such channel is
BAD_FIELD. -/
def Obligations.ChannelReadReportsTheChannel : Prop :=
  ∀ (ch : Nat) (s : State),
    (∀ n : Fin 16, n.val = ch →
        let c := s.chan n
        exec (.channelRead ch) s = .next (answered 0x36 .ok
          ([if ch < 12 then 0 else 1, if c.enable then 1 else 0,
            if c.enable then (if s.sup.driver = .on then 1 else 0) else 2, c.mode.code, c.state.code]
            ++ le 1 c.queue.length
            ++ (match c.active with
              | some a => 1 :: (le 2 a.pass ++ le 2 a.index)
              | none => [0, 0, 0, 0, 0])
            ++ le 2 c.output ++ [if 12 ≤ ch ∧ c.line = true then 1 else 0, if c.clamped then 1 else 0]
            ++ (match c.modifier with
              | none => [0, 0, 0, 0, 0]
              | some (.freeze v) => 1 :: le 4 v
              | some (.force v) => 2 :: le 4 v
              | some (.offset d) => 3 :: leInt 4 d)) s))
      ∧ (15 < ch → ∃ body, exec (.channelRead ch) s = .next (answered 0x36 .badField body s) ∧ body.length = 20)

/-- HALF_PERIOD_END (R87 to R89, R146): when a pulse channel's half has lasted its half-period the next begins at the
opposite level with the output value as its half-period; at output 0 the line rests. Where the line has moved, a pin waiting
in RUNNING for that source since an earlier microsecond takes its path. Before its time nothing happens (log entry 8). -/
def Obligations.HalfPeriodEndTurnsTheLine : Prop :=
  ∀ (n : Fin 16) (h : Half) (s : State), 12 ≤ n.val → (s.chan n).half = some h →
    let c := s.chan n
    let turned := s.setChan n (if c.output = 0 then { c with half := none, line := c.restLevel }
      else { c with half := some { period := c.output, since := s.uptime }, line := !c.line })
    let moves := c.output ≠ 0 ∨ c.line ≠ c.restLevel
    (s.uptime < h.since + h.period → exec (.halfPeriodEnd n) s = .next s)
      ∧ (h.since + h.period ≤ s.uptime →
          (¬ moves ∨ (∀ p, s.wait p = none) ∨ s.run.state ≠ .running → exec (.halfPeriodEnd n) s = .next turned)
          ∧ (moves → s.run.state = .running → ∀ (p : Fin 24) (w : AlignWait),
              s.wait p = some w → (∀ q, q ≠ p → s.wait q = none) → w.source = .line (.channel n) → w.since < s.uptime →
              exec (.halfPeriodEnd n) s =
                .next (((turned.setPath p (if w.ground then .shortGnd else .openPath)).setWait p none).setSlot w.slot
                  { s.slot w.slot with
                    state := .active, progress := 0
                    outcome := if (s.slot w.slot).late then .late else .applied })))

/-! ### Chapter 5: Capture Unit -/

/-- CAPTURE-CONFIG and LINE-CONFIG (R94): stored in IDLE and ENDED with the filter restarted; else BAD_FIELD or WRONG_STATE.
A request that disables an input leaves its accepted level standing in its own microsecond, the level being NONE from the
next one on: the model's reading of R94 (log entry 19). That it then is NONE is said in AnEmptyQueueLetsTimeGoOn. -/
def Obligations.InputConfigStoresAndRestarts : Prop :=
  ∀ (c : RawInputConfig) (s : State),
    (¬ between s → exec (.captureConfig c) s = .next (answered 0x40 .wrongState [] s)
        ∧ exec (.lineConfig c) s = .next (answered 0x42 .wrongState [] s))
      ∧ (between s →
          (¬ (c.input < 8 ∧ InputLegal c) → exec (.captureConfig c) s = .next (answered 0x40 .badField [] s))
          ∧ (¬ (c.input < 2 ∧ InputLegal c) → exec (.lineConfig c) s = .next (answered 0x42 .badField [] s))
          ∧ (InputLegal c → ∀ k : Fin 10,
              (k.val < 8 → k.val = c.input → exec (.captureConfig c) s =
                .next (answered 0x40 .ok [] (s.setInput k (inputStored c s.uptime (s.input k)))))
              ∧ (k.val = c.input + 8 → exec (.lineConfig c) s =
                .next (answered 0x42 .ok [] (s.setInput k (inputStored c s.uptime (s.input k)))))))

/-- INPUT_SAMPLE with no edge to deliver (R95, R96, R98): an enabled input at its phase is sampled, whatever the run state; a
sample before its phase, or on a disabled input, does nothing (log entry 8). A trigger input is sampled at its line, a
capture input at its tap (R141, R143): LOW with no pin mapped to it, else the ECU side of the pin, where ground, a live
battery feed or a bridged line of the part prevails and the line's own level stands otherwise (log entry 6). -/
def Obligations.InputSampleMovesTheFilter : Prop :=
  (∀ (k : Fin 10) (line : Bool) (order : List WorkItem) (u : Nat) (s : State),
    let x := s.input k
    let sampled := fun (y : Input) => s.setInput k { y with phase := some (s.uptime + x.interval), wire := line }
    (x.enable = false → exec (.inputSample k line order) s = .next s)
      ∧ (x.phase = some u → s.uptime < u → exec (.inputSample k line order) s = .next s)
      ∧ ∀ lv : Bool, (8 ≤ k.val → lv = line) → (∀ i : Fin 8, i.val = k.val → lv = s.tapLevel i line) →
        (x.enable = true → x.phase = some u → u ≤ s.uptime →
          (x.acquire = true ∨ x.level = none → exec (.inputSample k line order) s =
            .next (sampled { x with level := some lv, agree := 0, acquire := false }))
          ∧ (x.acquire = false → x.level = some lv →
              exec (.inputSample k line order) s = .next (sampled { x with agree := 0 }))
          ∧ (x.acquire = false → x.level = some (!lv) → x.agree < 2 →
              exec (.inputSample k line order) s = .next (sampled { x with agree := x.agree + 1 }))
          ∧ (x.acquire = false → x.level = some (!lv) → 2 ≤ x.agree → ¬ names x.edge lv →
              exec (.inputSample k line order) s = .next (sampled { x with level := some lv, agree := 0 }))))
  ∧ ∀ (i : Fin 8) (line : Bool) (s : State),
    ((∀ p, getAt s.pins.routed p ≠ .tap i) → s.tapLevel i line = false)
      ∧ ∀ p : Fin 24, getAt s.pins.routed p = .tap i → (∀ q < p, getAt s.pins.routed q ≠ .tap i) →
        (s.moving p = true → s.tapLevel i line = line)
        ∧ (s.moving p = false →
            (s.path p = .normal ∨ s.path p = .openPath → s.tapLevel i line = line)
            ∧ (s.path p = .shortGnd → s.tapLevel i line = false)
            ∧ (s.path p = .shortSupply → s.tapLevel i line = if s.sup.battAct then true else line)
            ∧ ∀ (q : Fin 24) (k : Fin 32) (r : FaultRecord), s.path p = .bridge q →
                s.holder (pinTarget p) = some k → (s.slot k).record = some r →
                (r.action = .bridge p q → s.tapLevel i line = line)
                ∧ (r.action = .bridge q p → p ≠ q →
                    (s.sup.driver = .on → getAt s.pins.routed q = .line .crank → s.tapLevel i line = s.rot.crankLine)
                    ∧ (∀ c, s.sup.driver = .on → getAt s.pins.routed q = .line (.cam c) →
                        s.tapLevel i line = getAt s.rot.camLines c)
                    ∧ (∀ n : Fin 16, 12 ≤ n.val → s.sup.driver = .on → (s.chan n).pinEnable = true →
                        getAt s.pins.routed q = .line (.channel n) → s.tapLevel i line = (s.chan n).line)
                    ∧ (s.sup.driver ≠ .on → s.tapLevel i line = line)))

/-- An accepted edge of a capture input in a run is recorded (R99, R102 to R105), whatever else it does: appended with the
clock, θ and C standing and the HELD mark of the run state in which it is accepted, also where it releases the hold; with
CAPTURE_FILL at the threshold, or at a full log in place of the newest record with REPLACED and CAPTURE_OVERFLOW. Where no
other destination answers (QuietEdges) nothing else changes. -/
def Obligations.CaptureEdgeIsRecorded : Prop :=
  ∀ (i : Fin 8) (line : Bool) (order : List WorkItem) (u : Nat) (s : State), ∀ k : Fin 10, k.val = i.val →
    let x := s.input k
    let lv := s.tapLevel i line
    let r : CaptureRecord :=
      { input := i, edge := if lv then .rise else .fall, clock := s.run.clock, theta := s.theta, cycle := s.rot.cycle
        held := decide (s.run.state = .held), replaced := false }
    let sampled := s.setInput k
      { x with level := some lv, agree := 0, phase := some (s.uptime + x.interval), wire := line }
    let appended : State := { sampled with cap := { sampled.cap with log := s.cap.log ++ [r] } }
    let newest : State :=
      { sampled with cap := { sampled.cap with log := s.cap.log.dropLast ++ [{ r with replaced := true }] } }
    s.run.state = .running ∨ s.run.state = .held → x.enable = true → x.phase = some u → u ≤ s.uptime →
    x.acquire = false → x.level = some (!lv) → 2 ≤ x.agree → x.edge ≠ (if lv then .fall else .rise) →
    (s.cap.log.length < 512 →
        (∃ t, exec (.inputSample k line order) s = .next t ∧ t.cap = appended.cap ∧ t.uptime = s.uptime ∧ t.trace = s.trace
          ∧ t.isPending .captureOverflow = s.isPending .captureOverflow
          ∧ (t.isPending .captureFill = true ↔
              s.isPending .captureFill = true ∨ s.cap.log.length + 1 = s.ntc.threshold))
        ∧ (QuietEdges s → exec (.inputSample k line order) s =
            .next ((if s.cap.log.length + 1 = s.ntc.threshold then raise .captureFill else id) appended)))
      ∧ (s.cap.log.length = 512 →
        (∃ t, exec (.inputSample k line order) s = .next t ∧ t.cap = newest.cap ∧ t.uptime = s.uptime ∧ t.trace = s.trace
          ∧ t.isPending .captureOverflow = true ∧ t.isPending .captureFill = s.isPending .captureFill)
        ∧ (QuietEdges s → exec (.inputSample k line order) s = .next (raise .captureOverflow newest)))

/-- The start edge (R29, R99, R30): in ARMED the accepted edge of the configured trigger input enters RUNNING, raises RUN and
reaches the START_PULSE routes, and fires no slot. -/
def Obligations.StartEdgeBeginsTheRun : Prop :=
  ∀ (line : Bool) (order : List WorkItem) (u : Nat) (k : Fin 10) (s : State),
    let x := s.input k
    s.run.state = .armed → s.run.config.startMode = .line → s.run.config.startInput.val + 8 = k.val →
    s.run.config.startEdge ≠ (if line then .fall else .rise) → x.edge ≠ (if line then .fall else .rise) →
    x.enable = true → x.phase = some u → u ≤ s.uptime → x.acquire = false → x.level = some (!line) → 2 ≤ x.agree →
    ∃ t, exec (.inputSample k line order) s = .next t
      ∧ t.run = { s.run with state := .running } ∧ t.isPending .run = true ∧ t.ntc.runState = .running
      ∧ t.ntc.runReason = .none
      ∧ (∀ l, getAt t.ntc.timers l =
          if getAt s.ntc.routes l = .startPulse then some (s.uptime + 9) else getAt s.ntc.timers l)
      ∧ t.faults = s.faults ∧ t.cap.log = s.cap.log ∧ t.rot = s.rot ∧ t.chans = s.chans ∧ t.pins = s.pins
      ∧ t.sup = s.sup ∧ t.link = s.link

/-- What an accepted edge does at the Run Controller and the Fault Scheduler (R35, R37, R99, R100, R120). The edge an enabled
release names releases a hold, with the release recorded and RUN raised, and in RUNNING sets its flag. In RUNNING a
CAPTURE slot counts it, up to 255, and fires at the m-th; a LINE slot fires. The slot fires where the edge is taken in a
run microsecond (R119, R123); in the microsecond of a start or a release the edge is counted and the slot waits on (log entry
9). Its delay begins, or with delay 0 the action applies at once. In HELD no slot is offered the edge. -/
def Obligations.AcceptedEdgesFireAndRelease : Prop :=
  ∀ (j : Fin 10) (line lv : Bool) (order : List WorkItem) (s : State),
    (8 ≤ j.val → lv = line) → (∀ i : Fin 8, i.val = j.val → lv = s.tapLevel i line) → Accepts (s.input j) lv s.uptime →
    let cfg := s.run.config
    let byLine := cfg.line.enable = true ∧ cfg.line.input.val + 8 = j.val ∧ names cfg.line.edge lv
    let byCapture := cfg.capture.enable = true ∧ cfg.capture.input.val = j.val ∧ names cfg.capture.edge lv
    let same := fun t : State => t.trace = s.trace ∧ t.rot = s.rot ∧ t.chans = s.chans ∧ t.pins = s.pins ∧ t.sup = s.sup
      ∧ t.link = s.link ∧ t.uptime = s.uptime ∧ (8 ≤ j.val → t.cap.log = s.cap.log)
    let released := fun ev : EventSet => ∃ t, exec (.inputSample j line order) s = .next t ∧ same t
      ∧ t.faults = s.faults ∧ t.isPending .run = true ∧ t.ntc.runState = .running ∧ t.ntc.runReason = .none
      ∧ t.run = { s.run with
          state := .running, holdTimer := none, last := { kind := .released, events := ev, clock := s.run.clock } }
    let flagged := fun f : PendingFlags => ∃ t, exec (.inputSample j line order) s = .next t ∧ same t
      ∧ t.faults = s.faults ∧ t.run = { s.run with flags := f }
    (s.run.state = .held → byLine → released ⟨false, true, false, false⟩)
      ∧ (s.run.state = .held → byCapture → released ⟨false, false, true, false⟩)
      ∧ (s.run.state = .held → ¬ byLine → ¬ byCapture → flagged s.run.flags)
      ∧ (s.run.state = .running → (∀ k, (s.slot k).state ≠ .armed) →
          (byLine → flagged { s.run.flags with line := true })
          ∧ (byCapture → flagged { s.run.flags with capture := true })
          ∧ (¬ byLine → ¬ byCapture → flagged s.run.flags))
      ∧ (s.run.state = .running → ¬ byLine → ¬ byCapture → ∀ (k : Fin 32) (r : FaultRecord),
          (s.slot k).state = .armed → (s.slot k).since < s.uptime → (s.slot k).record = some r →
          (s.slot k).staged = none → (∀ i, i ≠ k → (s.slot i).state ≠ .armed) →
          let x := s.slot k
          let others := fun t : State => ∀ i, i ≠ k → t.slot i = s.slot i
          let becomes := fun y : Slot => ∃ t, exec (.inputSample j line order) s = .next t ∧ same t ∧ t.run = s.run
            ∧ others t ∧ t.slot k = y ∧ t.faults.holders = s.faults.holders
          let fires := fun y : Slot =>
            (r.delay ≠ 0 → becomes { y with state := .waiting, progress := 0 })
            ∧ (r.delay = 0 → (∀ g ∈ r.action.targets, s.holder g = none) → r.action.relay = none →
                r.action.targets ≠ [] → r.aligned = false → ∃ t, exec (.inputSample j line order) s = .next t
                  ∧ others t ∧ t.slot k = entered { y with progress := 0 } ∧ inForce r.action s t ∧ t.run = s.run
                  ∧ ∀ g, t.holder g = if g ∈ r.action.targets then some k else s.holder g)
          (∀ c e m, r.trigger = .capture c e m →
            let n := min (x.occurrences + 1) 255
            (c.val = j.val → names e lv → n < m ∨ s.run.inMicro = false → becomes { x with occurrences := n })
            ∧ (c.val = j.val → names e lv → m ≤ n → s.run.inMicro = true → fires { x with occurrences := n })
            ∧ (c.val ≠ j.val ∨ ¬ names e lv → becomes x))
          ∧ (∀ l e, r.trigger = .line l e →
              (l.val + 8 = j.val → names e lv → s.run.inMicro = true → fires x)
              ∧ (l.val + 8 ≠ j.val ∨ ¬ names e lv ∨ s.run.inMicro = false → becomes x)))

/-- CAPTURE-READ (R106): the oldest min(n, count) records leave the log and are returned in order with the count left and the
ten levels; a count outside 1..16 is BAD_FIELD and removes nothing. RUN_CLOCK_WRAP (R108): when the clock has wrapped, every
record stamped above 0 leaves the log, with CAPTURE_OVERFLOW when there was one; at any other time nothing happens
(log entry 8). -/
def Obligations.RecordsLeaveTheLog : Prop :=
  (∀ (n : Nat) (s : State),
    let levels := allInputs.map (fun k => levelCode (s.input k).level)
    (n = 0 ∨ 16 < n → exec (.captureRead n) s =
        .next (answered 0x41 .badField ([0] ++ le 2 s.cap.log.length ++ levels) s))
      ∧ (1 ≤ n → n ≤ 16 → exec (.captureRead n) s =
          .next (answered 0x41 .ok
            (le 1 (min n s.cap.log.length) ++ le 2 (s.cap.log.length - n) ++ levels
              ++ (s.cap.log.take n).flatMap CaptureRecord.bytes)
            { s with cap := { s.cap with log := s.cap.log.drop n } })))
  ∧ ∀ s : State,
    let kept : State := { s with
      cap := { s.cap with log := s.cap.log.filter (fun r => decide (r.clock = 0)) }
      run := { s.run with wrapDue := false } }
    (s.run.wrapDue = false → exec .runClockWrap s = .next s)
      ∧ (s.run.wrapDue = true → (∃ r ∈ s.cap.log, 0 < r.clock) →
          exec .runClockWrap s = .next (raise .captureOverflow kept))
      ∧ (s.run.wrapDue = true → (∀ r ∈ s.cap.log, r.clock = 0) → exec .runClockWrap s = .next kept)

/-! ### Chapter 6: fault slots -/

/-- FAULT-LOAD (R113, R114, R201): a record that passes every check becomes the record of an EMPTY, LOADED or DONE slot, which
is then LOADED, or the staged copy of a busy one; it reads back as the 23 bytes sent. Any other is BAD_FIELD and changes
nothing (a run action with a width among them: log entry 13). A run action's measure may be TIME or ANGLE: log entry 29. -/
def Obligations.FaultLoadStoresOrStages : Prop :=
  ∀ (slot : Nat) (r : RawRecord) (s : State),
    (RecordLegal s slot r → ∀ k : Fin 32, k.val = slot → ∃ rec : FaultRecord, rec.bytes = recordBytes r
        ∧ ((s.slot k).state = .empty ∨ (s.slot k).state = .loaded ∨ (s.slot k).state = .done →
            exec (.faultLoad slot r) s = .next (answered 0x51 .ok [0]
              (s.setSlot k { s.slot k with state := .loaded, record := some rec, staged := none })))
        ∧ ((s.slot k).state ≠ .empty → (s.slot k).state ≠ .loaded → (s.slot k).state ≠ .done →
            exec (.faultLoad slot r) s = .next (answered 0x51 .ok [1]
              (s.setSlot k { s.slot k with staged := some rec }))))
      ∧ (¬ RecordLegal s slot r → exec (.faultLoad slot r) s = .next (answered 0x51 .badField [0] s))

/-- FAULT-ARM (R118, R119): each LOADED or DONE slot of the mask is ARMED with its full repetitions, every other slot stays,
and the reply names the slots armed. -/
def Obligations.FaultArmArmsItsSlots : Prop :=
  ∀ (mask : SlotMask) (s : State),
    let named := fun k : Fin 32 => mask.getLsbD k.val = true ∧ ((s.slot k).state = .loaded ∨ (s.slot k).state = .done)
    ∃ (t : State) (armed : SlotMask), exec (.faultArm mask) s = .next t
      ∧ (∀ k, named k → t.slot k = { s.slot k with
            state := .armed
            remaining := match (s.slot k).record with
              | some r => if r.rep = 0 then .endless else .finite r.rep
              | none => .endless
            occurrences := 0, progress := 0, late := false, releaseEnd := .rep, since := s.uptime })
      ∧ (∀ k, ¬ named k → t.slot k = s.slot k)
      ∧ (∀ k : Fin 32, armed.getLsbD k.val = true ↔ named k)
      ∧ { t with faults := s.faults } = answered 0x52 .ok (le 4 armed.toNat) s ∧ t.faults.holders = s.faults.holders

/-- FAULT-CANCEL (R131, R155, R149): each slot of the mask goes toward LOADED as its state requires, an instant release done at
once and a relay release handed over. An APPLY that waits, or that was granted in this very microsecond, is withdrawn and
the drive chooses anew (R152, log entry 17); a transition in flight from before is left to complete. The reply names the
slots changed; a slot whose transition in flight or whose release is already marked LOAD stays as it is and is not named (log
entry 15). -/
def Obligations.FaultCancelReturnsItsSlots : Prop :=
  ∀ (mask : SlotMask) (s : State), ∃ (t : State) (changed : SlotMask), exec (.faultCancel mask) s = .next t
    ∧ t.link = (answered 0x53 .ok (le 4 changed.toNat) s).link ∧ t.run = s.run ∧ t.trace = s.trace ∧ t.cap = s.cap
    ∧ t.uptime = s.uptime ∧ t.pins.map = s.pins.map
    ∧ ((∀ e, s.pins.drive ≠ .busy e s.uptime) → t.pins.drive = s.pins.drive)
    ∧ t.ntc.faultMask = s.ntc.faultMask ∧ t.isPending .fault = s.isPending .fault
    ∧ ∀ k,
      let x := s.slot k
      let y := t.slot k
      let loaded := y.state = .loaded ∧ y.outcome = .cancelled ∧ y.record = x.staged.or x.record ∧ y.staged = none
        ∧ y.remaining = x.remaining
      let flies := s.inFlight k
      let now := ∃ e, s.pins.drive = .busy e s.uptime
      (mask.getLsbD k.val = false → y = x ∧ changed.getLsbD k.val = false)
      ∧ (mask.getLsbD k.val = true →
          (x.state = .empty ∨ x.state = .loaded ∨ x.state = .done → y = x ∧ changed.getLsbD k.val = false)
          ∧ (x.state = .armed ∨ x.state = .waiting → loaded ∧ changed.getLsbD k.val = true)
          ∧ (x.state = .aligning → loaded ∧ changed.getLsbD k.val = true ∧ (∀ g, t.holder g ≠ some k)
              ∧ ∀ p, ∀ w ∈ t.wait p, w.slot ≠ k)
          ∧ (x.state = .pending → x.releaseEnd = .rep → flies = false ∨ now → loaded ∧ changed.getLsbD k.val = true
              ∧ (∀ g, t.holder g ≠ some k) ∧ (∀ e ∈ t.pins.waitList, e.slot = k → e.kind = .release)
              ∧ ∀ e u, t.pins.drive = .busy e u → e.slot = k → e.kind = .release)
          ∧ (x.state = .pending → x.releaseEnd = .rep → flies = true → ¬ now →
              y = { x with outcome := .cancelled, releaseEnd := .load } ∧ changed.getLsbD k.val = true)
          ∧ (x.state = .releasing → x.releaseEnd = .rep →
              y = { x with outcome := .cancelled, releaseEnd := .load } ∧ changed.getLsbD k.val = true)
          ∧ (x.releaseEnd = .load →
              (x.state = .pending ∧ ∃ e u, s.pins.drive = .busy e u ∧ e.slot = k ∧ e.kind = .apply) ∨ x.state = .releasing →
              y = x ∧ changed.getLsbD k.val = false)
          ∧ (x.state = .active → changed.getLsbD k.val = true ∧ ∀ r, x.record = some r →
              (r.action.relay = none → loaded ∧ (∀ g, t.holder g ≠ some k) ∧ takenAway r.action t)
              ∧ ∀ path, r.action.relay = some path →
                  y = { x with state := .releasing, outcome := .cancelled, releaseEnd := .load }
                    ∧ let e : RelayEntry := { slot := k, kind := .release, path := path, since := s.uptime }
                      e ∈ t.pins.waitList ∨ t.pins.drive = .busy e s.uptime))

/-- The replies that report (R136, R138, R194, R195, R192): FAULT-QUERY, TARGET-QUERY and IDENTIFY change nothing, and STATUS only
clears the three error counts when its flag asks, after reporting them.
Nothing is said of the four bytes of Remaining where a count has passed its delay or width before the elapse is taken: R136
gives no value there (log entry 24). -/
def Obligations.ReportsShowTheState : Prop :=
  ∀ s : State,
    (∀ k : Fin 32,
        let x := s.slot k
        ∃ left : List Byte, left.length = 4
          ∧ ((∀ r, x.record = some r → (x.state = .waiting → x.progress ≤ r.delay)
                ∧ (x.state = .active → r.width = 0 ∨ x.progress ≤ r.width)) →
              left = le 4 (match x.state, x.record with
                | .waiting, some r => r.delay - x.progress
                | .active, some r => if r.width = 0 then 0xFFFFFFFF else r.width - x.progress
                | _, _ => 0))
          ∧ exec (.faultQuery k.val) s = .next (answered 0x54 .ok
            (([x.state.code, if x.state = .pending then (if s.inFlight k then 2 else 1) else 0, x.releaseEnd.code,
                x.outcome.code] : List Byte)
              ++ le 2 (match x.remaining with | .finite n => n | .endless => 65535) ++ le 1 x.occurrences
              ++ ([if x.staged.isSome then 1 else 0] : List Byte) ++ left
              ++ (match x.record with | some r => (1 : Byte) :: r.bytes | none => List.replicate 24 (0 : Byte))) s))
      ∧ (∀ k, 31 < k → ∃ body, exec (.faultQuery k) s = .next (answered 0x54 .badField body s) ∧ body.length = 36)
      ∧ exec .targetQuery s = .next (answered 0x55 .ok
          (allTargets.map (fun t => match s.holder t with | some k => BitVec.ofNat 8 k.val | none => 0xFF)
            ++ allPins.flatMap (fun p => match s.path p with
              | .normal => [0, 0xFF]
              | .openPath => [1, 0xFF]
              | .shortGnd => [2, 0xFF]
              | .shortSupply => [3, 0xFF]
              | .bridge q => [4, BitVec.ofNat 8 q.val])) s)
      ∧ exec .identify s = .next (answered 0x01 .ok
          ([0x0A, 0x16, 0x24, 1, s.link.address.zeroExtend 8, 0, 0, 0x10, 0, 16, 12, 4, 4, 8, 16, 24, 32, 45, 32, 0, 2, 8,
            2, 4, 250]) s)
      ∧ (let report : List Byte := [s.run.state.code, s.run.endReason.code] ++ le 5 s.run.clock
          ++ [(if s.run.flags.resume then 1 else 0) + (if s.run.flags.line then 2 else 0)
                + (if s.run.flags.capture then 4 else 0), s.run.last.kind.code,
              (if s.run.last.events.resume then 1 else 0) + (if s.run.last.events.line then 2 else 0)
                + (if s.run.last.events.capture then 4 else 0) + (if s.run.last.events.timeout then 8 else 0)]
          ++ le 5 s.run.last.clock ++ le 3 s.theta ++ le 2 s.rot.cycle ++ le 3 s.rot.speed ++ le 1 s.rot.queue.length
          ++ [s.rot.active.isSome, s.sup.battCmd, s.sup.battAct, s.sup.ignCmd, s.sup.ignAct, s.sup.drvReq].map
              (fun b => if b then (1 : Byte) else 0)
          ++ [s.sup.driver.code, s.sup.conn.code, s.sup.mode.code, s.sup.shutdown.code] ++ le 2 s.link.framing
          ++ le 2 s.link.crc ++ le 2 s.link.overrun
        report.length = 40 ∧ exec (.status 0) s = .next (answered 0x02 .ok report s)
          ∧ exec (.status 1) s = .next (answered 0x02 .ok report
              { s with link := { s.link with framing := 0, crc := 0, overrun := 0 } })
          ∧ ∀ f, 1 < f → exec (.status f) s = .next (answered 0x02 .badField report s))

/-- AT_START, ANGLE and TIME triggers (R115, R119 to R121): at a run microsecond a slot that entered ARMED earlier fires exactly
when its trigger's moment has come, taking its staged copy with its repetitions; the late mark is set when the clock has
passed a TIME value. With a delay it is WAITING with progress 0; with delay 0, taken first, it applies in this same
microsecond or meets CONFLICT. A slot whose moment has not come stays as it was. A delay and a width count each run
microsecond by 1 for TIME and by the size of its sweep for ANGLE, a latched width not at all (R122, R128). HolderLaw is an
invariant of its own (below): an alignment wait belongs to a slot in ALIGNING, so no level change reaches slot k. -/
def Obligations.TriggersFireAtTheirMoment : Prop :=
  ∀ (order : List WorkItem) (k : Fin 32) (r : FaultRecord) (s : State), HolderLaw s → s.run.state = .running →
    s.run.work = [] → nextDue s = none → (s.slot k).record = some r →
    let x := s.slot k
    ∃ t, exec (.runMicrosecond order) s = .next t ∧ (t.run.state ≠ .ended →
      let swept := (t.theta + 72000 - s.theta) % 72000
      let counts := { x with progress := x.progress + if r.measure = .time then 1 else swept }
      let meets := match r.trigger with
        | .atStart => True
        | .angle a n =>
          (∃ i, 1 ≤ i ∧ i ≤ swept ∧ a = (s.theta + i) % 72000) ∧ (n = none ∨ n = some t.rot.cycle)
        | .time v => v ≤ t.run.clock
        | .capture _ _ _ | .line _ _ | .afterSlot _ => False
      let q := x.staged.getD r
      let fired := { x with
        record := some q, staged := none, progress := 0
        remaining := match x.staged with
          | some _ => if q.rep = 0 then .endless else .finite q.rep
          | none => x.remaining
        late := match r.trigger with
          | .time v => decide (v < t.run.clock)
          | _ => x.late }
      let free := ∀ g ∈ q.action.targets, s.holder g = none
      (x.state = .armed → x.since ≤ s.uptime → s.rot.acc < 5760000000 → (∀ a n, r.trigger = .angle a n → a < 72000) →
          (¬ meets → (∀ i, r.trigger ≠ .afterSlot i) → t.slot k = x)
          ∧ (meets → .pause ∉ order → q.delay ≠ 0 → t.slot k = { fired with state := .waiting })
          ∧ (meets → q.delay = 0 → ∀ behind, order = .slot k :: behind →
              (free → q.action.relay = none → q.action.targets ≠ [] → q.aligned = false →
                  t.slot k = entered fired ∧ ∀ g ∈ q.action.targets, t.holder g = some k)
              ∧ (free → ∀ p, q.action = .openPin p ∨ q.action = .shortGnd p → q.aligned = true →
                  t.slot k = { fired with state := .aligning } ∧ t.holder (pinTarget p) = some k)
              ∧ (free → ∀ path, q.action.relay = some path →
                  t.slot k = { fired with state := .pending } ∧ ∀ g ∈ q.action.targets, t.holder g = some k)
              ∧ (¬ free → t.slot k = counted (s.uptime + 1) { fired with outcome := .conflict }
                  ∧ t.isPending .fault = true ∧ t.ntc.faultMask.getLsbD k.val = true)))
      ∧ (x.state = .waiting → .delayEnd k ∉ order → t.slot k = counts)
      ∧ (x.state = .active → r.width ≠ 0 → .widthEnd k ∉ order → t.slot k = counts)
      ∧ (x.state = .active → r.width = 0 → t.slot k = x))

/-- DELAY_ELAPSE (R122 to R127, R135, R137, R145, R151): a slot whose delay has been counted applies. With a target held it meets
CONFLICT, counts a repetition and raises FAULT. With its targets free it holds them and its action is in force, or it
waits for its edge, or its relay entry is handed over (where the drive has granted in this same microsecond, the entry
competes in that grant: WidthElapseReleases). A run action counts its repetition and goes to the Run
Controller. A slot that reaches DONE shows progress 0 (log entry 21). Before its delay nothing happens (log entry 8). -/
def Obligations.DelayElapseApplies : Prop :=
  ∀ (k : Fin 32) (r : FaultRecord) (s : State), (s.slot k).state = .waiting → (s.slot k).record = some r →
    let x := s.slot k
    let ts := r.action.targets
    let free := ∀ g ∈ ts, s.holder g = none
    let others := fun t : State => ∀ j, j ≠ k → t.slot j = s.slot j
    let shown : SlotOutcome := if x.late then .late else .applied
    (x.progress < r.delay → exec (.delayElapse k) s = .next s)
      ∧ (r.delay ≤ x.progress →
          (¬ free → ∃ t, exec (.delayElapse k) s = .next t ∧ t.slot k = counted s.uptime { x with outcome := .conflict }
              ∧ others t ∧ t.faults.holders = s.faults.holders ∧ t.ntc = (raiseFault k s).ntc
              ∧ { t with faults := s.faults, ntc := s.ntc } = s)
          ∧ (free → r.action.relay = none → ts ≠ [] → r.aligned = false → ∃ t, exec (.delayElapse k) s = .next t
              ∧ t.slot k = entered x ∧ others t ∧ (∀ g, t.holder g = if g ∈ ts then some k else s.holder g)
              ∧ inForce r.action s t ∧ sameBut ts s t)
          ∧ (free → r.aligned = true → ∀ (p : Fin 24) (g : Bool),
              r.action = (if g then .shortGnd p else .openPin p) →
              exec (.delayElapse k) s = .next (((s.setHolder (pinTarget p) (some k)).setWait p
                (some { slot := k, ground := g, source := getAt s.pins.map p, since := s.uptime })).setSlot k
                  { x with state := .aligning }))
          ∧ (free → ∀ path, r.action.relay = some path → ∃ t, exec (.delayElapse k) s = .next t
              ∧ t.slot k = { x with state := .pending } ∧ others t
              ∧ (∀ g, t.holder g = if g ∈ ts then some k else s.holder g)
              ∧ ((∀ e, s.pins.drive ≠ .busy e s.uptime) → t.pins = { s.pins with
                  waitList := s.pins.waitList ++ [{ slot := k, kind := .apply, path := path, since := s.uptime }] })
              ∧ { t.pins with drive := s.pins.drive, waitList := s.pins.waitList } = s.pins
              ∧ { t with faults := s.faults, pins := s.pins } = s)
          ∧ (r.action = .holdRun → ∃ t, exec (.delayElapse k) s = .next t
              ∧ t.slot k = counted s.uptime { x with outcome := shown } ∧ others t ∧ t.faults.holders = s.faults.holders
              ∧ (s.run.state = .running → s.run.flags.any = false →
                  t.run.state = .held ∧ t.isPending .run = true ∧ t.run.clock = s.run.clock)
              ∧ (s.run.state = .running → s.run.flags.any = true →
                  t.run.state = .running ∧ t.run.flags.any = false ∧ t.run.last.kind = .skipped)
              ∧ (s.run.state ≠ .running → t.run = s.run)
              ∧ { t with run := s.run, faults := s.faults, ntc := s.ntc } = s)
          ∧ (r.action = .endRun →
              (s.inRun = true → ∃ t, exec (.delayElapse k) s = .next t ∧ t.run.state = .ended
                ∧ t.run.endReason = .faultEnd ∧ (t.slot k).remaining = (counted s.uptime x).remaining
                ∧ (x.remaining = .finite 1 → x.staged = none → (t.slot k).state = .done ∧ (t.slot k).outcome = shown)
                ∧ (x.remaining = .endless → (t.slot k).state = .loaded ∧ (t.slot k).outcome = .runEnded))
              ∧ (s.inRun = false → ∃ t, exec (.delayElapse k) s = .next t ∧ t.run = s.run
                ∧ t.slot k = counted s.uptime { x with outcome := shown } ∧ others t)))

/-- WIDTH_ELAPSE (R128, R129, R126, R120): a slot whose width has been counted leaves ACTIVE with release end REPEAT. An
instant release is done at once: the action is taken away, the holders are cleared and a repetition is counted. A relay
release is handed over; where the drive has granted in this same microsecond it chooses anew among all (R152, log entry 17).
Its AFTER_SLOT followers fire. A latched or unfinished width does not elapse (log entries 8 and 21). -/
def Obligations.WidthElapseReleases : Prop :=
  ∀ (k : Fin 32) (order : List WorkItem) (r : FaultRecord) (s : State), (s.slot k).state = .active →
    (s.slot k).record = some r →
    let x := s.slot k
    let quiet := ∀ j, (s.slot j).state ≠ .armed
    (r.width = 0 ∨ x.progress < r.width → exec (.widthElapse k order) s = .next s)
      ∧ (r.width ≠ 0 → r.width ≤ x.progress →
          (quiet → r.action.relay = none → ∃ t, exec (.widthElapse k order) s = .next t
              ∧ t.slot k = counted s.uptime { x with releaseEnd := .rep } ∧ (∀ j, j ≠ k → t.slot j = s.slot j)
              ∧ (∀ g, t.holder g = if s.holder g = some k then none else s.holder g)
              ∧ takenAway r.action t ∧ sameBut r.action.targets s t
              ∧ ((t.slot k).state ≠ .armed → t.isPending .fault = true ∧ t.ntc.faultMask.getLsbD k.val = true))
          ∧ (quiet → ∀ path, r.action.relay = some path →
              let releasing := s.setSlot k { x with state := .releasing, releaseEnd := .rep }
              let own : RelayEntry := { slot := k, kind := .release, path := path, since := s.uptime }
              ((∀ e, s.pins.drive ≠ .busy e s.uptime) →
                exec (.widthElapse k order) s = .next (releasing.setWaitList (s.pins.waitList ++ [own])))
              ∧ ∀ e, s.pins.drive = .busy e s.uptime → e.kind = .release ∨ (s.slot e.slot).releaseEnd = .rep →
                let all := e :: s.pins.waitList ++ [own]
                ∃ f, Chosen f all ∧ exec (.widthElapse k order) s =
                  .next ((releasing.setWaitList (all.erase f)).setDrive (.busy f s.uptime)))
          ∧ ∃ t, exec (.widthElapse k order) s = .next t ∧ (t.run.state = s.run.state →
              ∀ (j : Fin 32) (q : FaultRecord), j ≠ k → (s.slot j).state = .armed → (s.slot j).since < s.uptime →
                (s.slot j).record = some q → q.trigger = .afterSlot k → (s.slot j).staged = none → q.delay ≠ 0 →
                t.slot j = { s.slot j with state := .waiting, progress := 0 }))

/-! ### Chapter 7: Pin Matrix and relay sequencer -/

/-- PIN-MAP (R140): the whole map is written in IDLE and ENDED while no pin has a holder; else BAD_LENGTH, WRONG_STATE, BAD_FIELD
for a code of no source, or DUPLICATE for a source on two pins, with the map as it was. -/
def Obligations.PinMapStoresOrRefuses : Prop :=
  ∀ (codes : List Nat) (s : State),
    let allowed := between s ∧ ∀ p, s.holder (pinTarget p) = none
    let legal := ∀ c ∈ codes, c ≤ 0x12 ∨ (0x20 ≤ c ∧ c ≤ 0x27) ∨ c = 0xFF
    let distinct := (codes.filter (fun c => decide (c ≠ 0xFF))).Nodup
    (codes.length ≠ 24 → exec (.pinMap codes) s = .next (answered 0x50 .badLength [] s))
      ∧ (codes.length = 24 → ¬ allowed → exec (.pinMap codes) s = .next (answered 0x50 .wrongState [] s))
      ∧ (codes.length = 24 → allowed → ¬ legal → exec (.pinMap codes) s = .next (answered 0x50 .badField [] s))
      ∧ (codes.length = 24 → allowed → legal → ¬ distinct →
          exec (.pinMap codes) s = .next (answered 0x50 .duplicate [] s))
      ∧ (codes.length = 24 → allowed → legal → distinct → ∃ m : Vector PinSource 24,
          (∀ p : Fin 24, some (sourceCode (getAt m p)) = codes[p.val]?)
            ∧ exec (.pinMap codes) s = .next (answered 0x50 .ok [] { s with pins := { s.pins with map := m } }))

/-- The microseconds of the Pin Matrix. RELAY_GRANT (R152): a FREE drive with entries waiting takes one in flight, releases
before applies and then the lowest slot (a hand-over later in the same microsecond reopens that choice: log entry 17).
RELAY_RECOVERY_END (R150, R160): the drive is FREE when its RECOVERING interval has passed. ALIGNMENT_TIMEOUT (R147): a wait
that reaches its timeout sets its path with outcome ALIGN_TIMEOUT. Each does nothing at any other time (log entry 8). -/
def Obligations.PinMatrixGrantsAndTimesOut : Prop :=
  ∀ s : State,
    (s.pins.drive = .free → s.pins.waitList ≠ [] → ∃ e, Chosen e s.pins.waitList
          ∧ exec .relayGrant s = .next
              { s with pins := { s.pins with drive := .busy e s.uptime, waitList := s.pins.waitList.erase e } })
      ∧ (s.pins.drive ≠ .free ∨ s.pins.waitList = [] → exec .relayGrant s = .next s)
      ∧ (∀ u, s.pins.drive = .recovering u →
          (u ≤ s.uptime → exec .relayRecoveryEnd s = .next { s with pins := { s.pins with drive := .free } })
          ∧ (s.uptime < u → exec .relayRecoveryEnd s = .next s))
      ∧ ((∀ u, s.pins.drive ≠ .recovering u) → exec .relayRecoveryEnd s = .next s)
      ∧ (∀ (p : Fin 24) (w : AlignWait), s.wait p = some w →
          (s.uptime < w.since + 20000 → exec (.alignmentTimeout p) s = .next s)
          ∧ (w.since + 20000 ≤ s.uptime → exec (.alignmentTimeout p) s =
              .next (((s.setPath p (if w.ground then .shortGnd else .openPath)).setWait p none).setSlot w.slot
                { s.slot w.slot with state := .active, progress := 0, outcome := .alignTimeout })))
      ∧ ∀ p : Fin 24, s.wait p = none → exec (.alignmentTimeout p) s = .next s

/-- RELAY_APPLY_COMPLETE and RELAY_RELEASE_COMPLETE (R150, R153, R154, R158, R168): 5,000 µs after its grant a transition of the
kind completes and the drive is FREE. An APPLY sets its path and its slot is ACTIVE, or RELEASING with a RELEASE entry when its
release end is LOAD. A RELEASE clears path and holder together and the slot goes where its release end says. A driver stage
that waits for the transition is made. A slot that reaches DONE shows progress 0, and one that goes LOADED keeps its
progress (the model's reading, log entry 21). Before that, or for the other kind, nothing happens (log entry 8). -/
def Obligations.RelayTransitionsComplete : Prop :=
  ∀ (e : RelayEntry) (u : Nat) (s : State), s.pins.drive = .busy e u →
    let k := e.slot
    let x := s.slot k
    let pins := match e.path with | .supply p => [p] | .bridge p q => [p, q]
    let others := fun t : State => ∀ j, j ≠ k → t.slot j = s.slot j
    let stage := fun t : State =>
      (s.sup.shutdown = .driver → t.sup.drvReq = false ∧ t.sup.driver = .off
          ∧ t.sup.shutdown = .feed (s.uptime + 1000))
        ∧ (s.sup.shutdown ≠ .driver → t.sup = s.sup)
    let frame := fun t : State => t.run = s.run ∧ t.rot = s.rot ∧ t.trace = s.trace ∧ t.chans = s.chans ∧ t.cap = s.cap
      ∧ t.uptime = s.uptime ∧ t.link = s.link ∧ t.pins.map = s.pins.map ∧ t.pins.waits = s.pins.waits
      ∧ t.pins.drive = .free ∧ t.pins.completed = some s.uptime ∧ ∀ p, p ∉ pins → t.path p = s.path p
    (s.uptime < u + 5000 ∨ e.kind = .release → exec .relayApplyComplete s = .next s)
      ∧ (s.uptime < u + 5000 ∨ e.kind = .apply → exec .relayReleaseComplete s = .next s)
      ∧ (u + 5000 ≤ s.uptime → e.kind = .apply → ∃ t, exec .relayApplyComplete s = .next t ∧ frame t ∧ stage t ∧ others t
          ∧ t.faults.holders = s.faults.holders
          ∧ (∀ p, e.path = .supply p → t.path p = .shortSupply)
          ∧ (∀ p q, e.path = .bridge p q → p ≠ q → t.path p = .bridge q ∧ t.path q = .bridge p)
          ∧ (x.releaseEnd = .rep → t.slot k = entered x ∧ t.pins.waitList = s.pins.waitList)
          ∧ (x.releaseEnd = .load → t.slot k = { x with state := .releasing }
              ∧ t.pins.waitList = s.pins.waitList ++ [{ slot := k, kind := .release, path := e.path, since := s.uptime }]))
      ∧ (u + 5000 ≤ s.uptime → e.kind = .release →
          ∃ t, exec .relayReleaseComplete s = .next t ∧ frame t ∧ stage t ∧ others t
            ∧ t.pins.waitList = s.pins.waitList ∧ (∀ p ∈ pins, t.path p = .normal)
            ∧ (∀ g, t.holder g = if s.holder g = some k then none else s.holder g)
            ∧ (x.releaseEnd = .rep → t.slot k = counted s.uptime x)
            ∧ (x.releaseEnd = .load →
                t.slot k = { x with state := .loaded, record := x.staged.or x.record, staged := none }))

/-- Each harness pin's switches and what its ECU contact sees (R141, R143, R156). With no transition at the pin they follow its
path: NORMAL joins it to the source of the map, driven while the drivers are ON (R21, R85, R90, R163); a BRIDGE joins both
pins to the target's source. From the grant of a transition to its completion the series switches of its pins stand open and the
contacts see no source of the part; at the completion they stand as the path reached sets them. That relays a reset released
show their settled contacts at once, while the drive is RECOVERING, is the model's choice (R160, log entry 25), and so is that the relays of a
transition in flight show the old path until its completion (R150, log entry 26). -/
def Obligations.HarnessPinsFollowTheirPaths : Prop :=
  (∀ (s : State) (p : Fin 24),
    let still := s.moving p = false
    let unused := getAt s.pins.routed p = .unused
    let on := s.sup.driver = .on
    let z := PinDrive.highImpedance
    (unused → s.rigSide p = .nothing)
      ∧ (∀ k, getAt s.pins.routed p = .tap k → s.rigSide p = .load k)
      ∧ (getAt s.pins.routed p = .line .crank → (on → s.rigSide p = .source (.level s.rot.crankLine))
          ∧ (¬ on → s.rigSide p = .source z))
      ∧ (∀ c, getAt s.pins.routed p = .line (.cam c) → (on → s.rigSide p = .source (.level (getAt s.rot.camLines c)))
          ∧ (¬ on → s.rigSide p = .source z))
      ∧ (∀ n, getAt s.pins.routed p = .line (.channel n) →
          let c := s.chan n
          (on → c.pinEnable = true → s.rigSide p =
            .source (if n.val < 12 then .code c.pinRef c.output else .level c.line))
          ∧ (¬ on ∨ c.pinEnable = false → s.rigSide p = .source z))
      ∧ (still → s.path p = .normal → s.contact p = s.rigSide p ∧ s.switches p =
          { series := decide (¬ unused), ground := false, supplyRelay := false, bridgeRelay := false })
      ∧ (still → s.path p = .openPath → s.contact p = .nothing ∧ s.switches p =
          { series := false, ground := false, supplyRelay := false, bridgeRelay := false })
      ∧ (still → s.path p = .shortGnd → s.contact p = .ground ∧ s.switches p =
          { series := false, ground := true, supplyRelay := false, bridgeRelay := false })
      ∧ (still → s.path p = .shortSupply → s.contact p = .battery s.sup.battAct ∧ s.switches p =
          { series := false, ground := false, supplyRelay := true, bridgeRelay := false })
      ∧ ∀ (q : Fin 24) (k : Fin 32) (r : FaultRecord), still → s.path p = .bridge q →
          s.holder (pinTarget p) = some k → (s.slot k).record = some r →
          (r.action = .bridge p q → s.contact p = s.rigSide p ∧ s.switches p =
            { series := true, ground := false, supplyRelay := false, bridgeRelay := true })
          ∧ (r.action = .bridge q p → p ≠ q → s.contact p = s.rigSide q ∧ s.switches p =
            { series := false, ground := false, supplyRelay := false, bridgeRelay := true }))
  ∧ (∀ s : State, s.pins.drive = .free → s.pins.waitList ≠ [] → ∃ t e, exec .relayGrant s = .next t
      ∧ t.pins.drive = .busy e s.uptime ∧ ∀ p : Fin 24,
        let moved := e.path = .supply p ∨ ∃ q, e.path = .bridge p q ∨ e.path = .bridge q p
        t.path p = s.path p ∧ (moved → t.contact p = .moving ∧ t.switches p = { s.switches p with series := false })
          ∧ (¬ moved → t.contact p = s.contact p ∧ t.switches p = s.switches p))
  ∧ ∀ (e : RelayEntry) (u : Nat) (p : Fin 24) (s : State), s.pins.drive = .busy e u → u + 5000 ≤ s.uptime →
      e.path = .supply p →
      (e.kind = .apply → ∃ t, exec .relayApplyComplete s = .next t ∧ t.contact p = .battery t.sup.battAct
        ∧ t.switches p = { series := false, ground := false, supplyRelay := true, bridgeRelay := false })
      ∧ (e.kind = .release → ∃ t, exec .relayReleaseComplete s = .next t ∧ t.contact p = t.rigSide p
        ∧ ((t.switches p).series = true ↔ getAt s.pins.routed p ≠ .unused) ∧ (t.switches p).supplyRelay = false)

/-! ### Chapter 8: Supply Sequencer -/

/-- SUPPLY-CONFIG (R165) sets the mode and commands nothing. SUPPLY-SET (R164, R161 to R163, R168) writes both commands and the
driver request and cancels a pending shutdown; the feeds, the battery-first wait and the drivers follow at once, with SUPPLY
raised at each change of an actual state or of the drivers to OFF. A bad field is BAD_FIELD, its six
fields those of the state as it stands (R199), and nothing changes. -/
def Obligations.SupplyRequestsCommandTheFeeds : Prop :=
  ∀ (m b i d : Nat) (s : State),
    (∀ mode : SupplyMode, (m = 0 ∧ mode = .manual) ∨ (m = 1 ∧ mode = .auto) →
        exec (.supplyConfig m) s = .next (answered 0x60 .ok [] { s with sup := { s.sup with mode := mode } }))
      ∧ (1 < m → exec (.supplyConfig m) s = .next (answered 0x60 .badField [] s))
      ∧ (1 < b ∨ 1 < i ∨ 1 < d → exec (.supplySet b i d) s = .next (answered 0x61 .badField
          ([s.sup.battCmd, s.sup.ignCmd, s.sup.battAct, s.sup.ignAct, s.sup.drvReq].map
            (fun v => if v then (1 : Byte) else 0) ++ [s.sup.driver.code]) s))
      ∧ (b ≤ 1 → i ≤ 1 → d ≤ 1 → SupplyLaw s →
          let both := b = 1 ∧ i = 1
          let stood := s.sup.battCmd = true ∧ s.sup.ignCmd = true
          let batt := decide (b = 1) && !s.sup.battDrop
          let waited := decide (both ∧ stood) && s.sup.waitDone
          let ign := batt && waited && !s.sup.ignDrop
          let driver : DriverState := if batt = true ∧ d = 1 then
            (if s.sup.driver = .off then .wakeWait s.uptime else s.sup.driver) else .off
          let changes := batt ≠ s.sup.battAct ∨ ign ≠ s.sup.ignAct ∨ (s.sup.driver ≠ .off ∧ driver = .off)
          ∃ t, exec (.supplySet b i d) s = .next t
            ∧ t.sup = { s.sup with
                battCmd := decide (b = 1), ignCmd := decide (i = 1), drvReq := decide (d = 1), shutdown := .none
                waitStart := if both then (if stood then s.sup.waitStart else some s.uptime) else none
                waitDone := waited, battAct := batt, ignAct := ign, driver := driver }
            ∧ t.link = (answered 0x61 .ok ([decide (b = 1), decide (i = 1), batt, ign, decide (d = 1)].map
                (fun v => if v then (1 : Byte) else 0) ++ [driver.code]) s).link
            ∧ (changes → t.ntc = (raise .supply s).ntc) ∧ (¬ changes → t.ntc = s.ntc)
            ∧ { t with sup := s.sup, ntc := s.ntc, link := s.link } = s)

/-- IGNITION_WAIT_END (R162), WAKE_WAIT_END (R163) and FEED_STAGE (R168), each at its microsecond and at no other time (log
entry 8): the ignition comes ON 50,000 µs after both commands stood, if its other conditions hold; the drivers reach ON
100,000 µs after their wake; both feeds are commanded OFF when the feed stage is due. Each change raises SUPPLY. -/
def Obligations.SupplyTimersRunOut : Prop :=
  ∀ s : State, SupplyLaw s →
    (∀ u, s.sup.waitStart = some u → s.sup.waitDone = false →
        (s.uptime < u + 50000 → exec .ignitionWaitEnd s = .next s)
        ∧ (u + 50000 ≤ s.uptime →
            let on := s.sup.battAct && !s.sup.ignDrop
            let t : State := { s with sup := { s.sup with waitDone := true, ignAct := on } }
            exec .ignitionWaitEnd s = .next (if on then raise .supply t else t)))
      ∧ (s.sup.waitStart = none ∨ s.sup.waitDone = true → exec .ignitionWaitEnd s = .next s)
      ∧ (∀ u, s.sup.driver = .wakeWait u →
          (s.uptime < u + 100000 → exec .wakeWaitEnd s = .next s)
          ∧ (u + 100000 ≤ s.uptime →
              exec .wakeWaitEnd s = .next (raise .supply { s with sup := { s.sup with driver := .on } })))
      ∧ (s.sup.driver = .off ∨ s.sup.driver = .on → exec .wakeWaitEnd s = .next s)
      ∧ (∀ u, s.sup.shutdown = .feed u →
          (s.uptime < u → exec .feedStage s = .next s)
          ∧ (u ≤ s.uptime →
              let t : State := { s with sup := { s.sup with
                battCmd := false, ignCmd := false, battAct := false, ignAct := false, waitStart := none
                waitDone := false, driver := .off, shutdown := .none } }
              exec .feedStage s = .next (if s.sup.battAct then raise .supply t else t)))
      ∧ (s.sup.shutdown = .none ∨ s.sup.shutdown = .driver → exec .feedStage s = .next s)

/-- CONN_SENSE_CHANGE (R166, R168, R42) and CONNECTION_ACCEPTED (R166, R167). The pin is read once in a microsecond: a change
after the reading is read in the next one, and in the microsecond of a cold reset there is none (R174). A closed loop starts a
debounce, an open one ends it; a connection is accepted after 40,000 µs where this microsecond's reading finds the loop
closed (not before, and not without one: log entry 8), and in AUTO mode commands everything ON. An open loop while CONNECTED
raises SUPPLY, ends a run in progress with DISCONNECT and in AUTO mode starts the shutdown, whose driver stage waits for a
relay transition in flight, and is made at once when none is, or when one has completed in this microsecond, whatever the
drive has granted since (R158, R169). A grant of this microsecond itself is in flight when it is of an APPLY handed over in
it too, in a run the disconnection ends or that has ended in it (R134), and of no other entry (the reading of log entry
17); HolderLaw is an invariant of its own (below). -/
def Obligations.ConnectSenseIsDebounced : Prop :=
  ∀ s : State,
    let set := fun (pin : Bool) => ({ s with sup := { s.sup with connPin := pin } } : State)
    let wired := fun (pin : Bool) (c : ConnState) =>
      ({ s with sup := { s.sup with connPin := pin, conn := c, sensed := true } } : State)
    (s.sup.sensed = true → ∀ pin, exec (.connSenseChange pin) s = .next (set pin))
      ∧ (s.sup.conn = .disconnected → exec .connectionAccepted s = .next s)
      ∧ (s.sup.conn = .disconnected → s.sup.sensed = false →
        exec (.connSenseChange false) s = .next (wired false (.debouncing s.uptime))
          ∧ exec (.connSenseChange true) s = .next (wired true .disconnected))
      ∧ (∀ w, s.sup.conn = .debouncing w →
          (s.sup.sensed = false → exec (.connSenseChange true) s = .next (wired true .disconnected)
            ∧ exec (.connSenseChange false) s = .next (wired false (.debouncing w)))
          ∧ (s.uptime < w + 40000 ∨ (s.sup.sensed = false ∧ s.sup.connPin = true) →
              exec .connectionAccepted s = .next s)
          ∧ (w + 40000 ≤ s.uptime → s.sup.sensed = true ∨ s.sup.connPin = false →
              (s.sup.mode = .manual →
                exec .connectionAccepted s = .next (raise .supply (wired s.sup.connPin .connected)))
              ∧ (s.sup.mode = .auto → SupplyLaw s → ∃ t, exec .connectionAccepted s = .next t
                  ∧ t.sup.conn = .connected ∧ t.sup.sensed = true ∧ t.sup.connPin = s.sup.connPin
                  ∧ t.sup.battCmd = true ∧ t.sup.ignCmd = true ∧ t.sup.drvReq = true
                  ∧ t.sup.battAct = !s.sup.battDrop
                  ∧ (s.sup.battCmd = true → s.sup.ignCmd = true →
                      t.sup.waitStart = s.sup.waitStart ∧ t.sup.waitDone = s.sup.waitDone)
                  ∧ (s.sup.battCmd = false ∨ s.sup.ignCmd = false →
                      t.sup.waitStart = some s.uptime ∧ t.sup.waitDone = false ∧ t.sup.ignAct = false)
                  ∧ (s.sup.driver = .off → s.sup.battDrop = false → t.sup.driver = .wakeWait s.uptime)
                  ∧ (s.sup.driver ≠ .off → t.sup.driver = s.sup.driver)
                  ∧ t.ntc = (raise .supply s).ntc ∧ { t with sup := s.sup, ntc := s.ntc } = s)))
      ∧ (s.sup.conn = .connected → exec .connectionAccepted s = .next s)
      ∧ (s.sup.conn = .connected → s.sup.sensed = false →
          exec (.connSenseChange false) s = .next (wired false .connected)
          ∧ ∃ t, exec (.connSenseChange true) s = .next t ∧ t.sup.connPin = true ∧ t.sup.conn = .disconnected
              ∧ t.sup.sensed = true ∧ t.isPending .supply = true ∧ t.trace = s.trace ∧ t.cap = s.cap ∧ t.link = s.link
              ∧ t.sup.battCmd = s.sup.battCmd ∧ t.sup.ignCmd = s.sup.ignCmd
              ∧ (between s → t.run = s.run ∧ t.rot = s.rot ∧ t.faults = s.faults)
              ∧ (¬ between s → t.run.state = .ended ∧ t.run.endReason = .disconnect ∧ t.isPending .run = true)
              ∧ (s.sup.mode = .manual → t.sup.drvReq = s.sup.drvReq ∧ t.sup.shutdown = s.sup.shutdown)
              ∧ (let waits := t.sup.drvReq = s.sup.drvReq ∧ t.sup.shutdown = .driver
                 let made := t.sup.drvReq = false ∧ t.sup.driver = .off ∧ t.sup.shutdown = .feed (s.uptime + 1000)
                 s.sup.mode = .auto →
                  ((∀ e u, s.pins.drive ≠ .busy e u) → made)
                  ∧ ∀ e u, s.pins.drive = .busy e u →
                    let ends := (s.slot e.slot).releaseEnd
                    (u ≠ s.uptime → waits)
                    ∧ (u = s.uptime → s.pins.completed = some s.uptime → made)
                    ∧ (u = s.uptime → s.pins.completed ≠ some s.uptime →
                        (e.kind = .release → HolderLaw s → made)
                        ∧ (e.kind = .apply → between s → if ends = .load then waits else made)
                        ∧ (e.kind = .apply → ¬ between s → e.since = s.uptime → (s.slot e.slot).state = .pending → waits)
                        ∧ (e.kind = .apply → ¬ between s → e.since ≠ s.uptime → ends = .rep → HolderLaw s → made))))

/-! ### Chapter 9: notices and trigger outputs -/

/-- NOTICE-CONFIG (R178, R197) writes the eight enables and the threshold or refuses, with BAD_LENGTH for any other number
of enables; NOTICE-READ (R179) returns every pending kind with its data and clears them all; TRIGGER-ROUTE (R183) writes a
route and ends its pulse, or refuses; PULSE_TIMER_END (R182) comes after the pulse's last microsecond and not before (log
entry 8). -/
def Obligations.NoticesAndRoutesAreKept : Prop :=
  ∀ s : State,
    (∀ (es : List Nat) (th : Nat), es.length ≠ 8 →
        exec (.noticeConfig es th) s = .next (answered 0x70 .badLength [] s))
      ∧ (∀ (es : List Nat) (th : Nat), es.length = 8 →
        ((∀ e ∈ es, e ≤ 1) → 1 ≤ th → th ≤ 512 → ∃ en : BitVec 8,
            (∀ i < 8, en.getLsbD i = decide (es[i]? = some 1))
              ∧ exec (.noticeConfig es th) s = .next (answered 0x70 .ok []
                  { s with ntc := { s.ntc with enables := en, threshold := th } }))
        ∧ (¬ ((∀ e ∈ es, e ≤ 1) ∧ 1 ≤ th ∧ th ≤ 512) →
            exec (.noticeConfig es th) s = .next (answered 0x70 .badField [] s)))
      ∧ exec .noticeRead s = .next (answered 0x71 .ok
          ([s.ntc.pending] ++ (if s.isPending .run then [s.ntc.runState.code, s.ntc.runReason.code] else [0, 0])
            ++ (if s.isPending .channel then le 2 s.ntc.channelMask.toNat else [0, 0])
            ++ (if s.isPending .guardTrip then le 2 s.ntc.guardMask.toNat else [0, 0])
            ++ (if s.isPending .fault then le 4 s.ntc.faultMask.toNat else [0, 0, 0, 0]))
          { s with ntc := { s.ntc with
              pending := 0, runState := .idle, runReason := .none, channelMask := 0, guardMask := 0, faultMask := 0 } })
      ∧ (∀ line source param,
          let legal := line < 4 ∧ source ≤ 7 ∧ (source = 4 → param < 72000) ∧ (source = 6 → param < 32)
            ∧ (source = 7 → param < 10)
          (¬ legal → exec (.triggerRoute line source param) s = .next (answered 0x72 .badField [] s))
          ∧ (legal → ∀ (l : Fin 4) (r : Route), l.val = line →
              (source = 0 ∧ r = .off) ∨ (source = 1 ∧ r = .runLevel) ∨ (source = 2 ∧ r = .holdLevel)
                ∨ (source = 3 ∧ r = .startPulse) ∨ (source = 4 ∧ r = .angleMark param) ∨ (source = 5 ∧ r = .cyclePulse)
                ∨ (source = 6 ∧ ∃ k : Fin 32, k.val = param ∧ r = .slotActive k)
                ∨ (source = 7 ∧ ∃ k : Fin 10, k.val = param ∧ r = .captureMirror k) →
              exec (.triggerRoute line source param) s = .next (answered 0x72 .ok []
                { s with ntc := { s.ntc with
                    routes := setAt s.ntc.routes l r, timers := setAt s.ntc.timers l none } })))
      ∧ ∀ l : Fin 4,
          (∀ e, getAt s.ntc.timers l = some e →
            (s.uptime ≤ e → exec (.pulseTimerEnd l) s = .next s)
            ∧ (e < s.uptime → exec (.pulseTimerEnd l) s =
                .next { s with ntc := { s.ntc with timers := setAt s.ntc.timers l none } }))
          ∧ (getAt s.ntc.timers l = none → exec (.pulseTimerEnd l) s = .next s)

/-- The outputs of the Notice Unit. A run microsecond sets the pulse timer of each line routed to an ANGLE_MARK in its
sweep, or to CYCLE_PULSE when C is incremented, to its own microsecond + 9, and of no other line (R182). Each trigger output
stands at the value its source has in the state: off, the run state, the slot's state, the accepted level, or high until the
last microsecond of its pulse (R181, R182), and low in the microsecond of a reset (R184). ATTN is low exactly while some
kind is both pending and enabled (R177). -/
def Obligations.TriggerOutputsAndAttention : Prop :=
  (∀ (order : List WorkItem) (s : State), RotationLaw s → s.run.state = .running → s.run.work = [] →
    nextDue s = none → .pause ∉ order →
    ∃ t, exec (.runMicrosecond order) s = .next t ∧ ∀ l,
      let swept := (t.theta + 72000 - s.theta) % 72000
      let wraps := 5760000000 ≤ s.rot.acc + 3 * nextSpeed s.rot
      let pulsed := getAt t.ntc.timers l = some (s.uptime + 10)
      let kept := getAt t.ntc.timers l = getAt s.ntc.timers l
      match getAt s.ntc.routes l with
      | .angleMark a => a < 72000 →
        ((∃ i, 1 ≤ i ∧ i ≤ swept ∧ a = (s.theta + i) % 72000) → pulsed)
          ∧ ((∀ i, 1 ≤ i → i ≤ swept → a ≠ (s.theta + i) % 72000) → kept)
      | .cyclePulse => (wraps → pulsed) ∧ (¬ wraps → kept)
      | .off | .runLevel | .holdLevel | .startPulse | .slotActive _ | .captureMirror _ => kept)
  ∧ (∀ (s : State) (l : Fin 4),
    (s.link.resetAt = s.uptime → s.trigOut l = false)
      ∧ (s.link.resetAt ≠ s.uptime → (s.trigOut l = true ↔
          match getAt s.ntc.routes l with
          | .off => False
          | .runLevel => s.run.state = .running
          | .holdLevel => s.run.state = .held
          | .slotActive k => (s.slot k).state = .active
          | .captureMirror k => (s.input k).level = some true
          | .startPulse | .angleMark _ | .cyclePulse => ∃ e, getAt s.ntc.timers l = some e ∧ s.uptime ≤ e)))
  ∧ ∀ s : State, s.attnLow = true ↔ ∃ k : NoticeKind, s.isPending k = true ∧ s.ntc.enables.getLsbD k.bit = true

/-! ### Chapter 10: rig link -/

/-- The receiver (R187, R188, R192): in HUNTING an address character of a request to this unit or to all begins a frame, and
any other leaves it HUNTING; an address character, a broken character or a gap above 20 µs abandons a frame with one
framing error; a length of 0 or above 250 drops it with one CRC error; in the initialization interval nothing is taken
(R193). The gap passes 20 µs in the microsecond 20 after the character, and not before; after a character whose next one
begins in time, no gap is found until that one, 2.2 µs long, should have ended, 23 after: the model's reading of R187 in
whole microseconds (log entry 7). A length character elsewhere, or a broken one or a gap outside a frame, changes nothing
(log entry 8). -/
def Obligations.ReceiverFindsItsFrames : Prop :=
  ∀ (c : RxChar) (s : State),
    let b := c.data
    let tuned := fun (r : Receiver) (s : State) => ({ s with link := { s.link with receiver := r } } : State)
    let mine := b.toNat < 128 ∧ (b.toNat % 16 = s.link.address.toNat ∨ b.toNat % 16 = 15)
    let passes := s.uptime + if c.follows then 23 else 20
    let begun := Receiver.receiving (decide (b.toNat % 16 = 15)) [] passes
    let lost := { s with link := { s.link with receiver := .hunting, framing := min (s.link.framing + 1) 65535 } }
    (s.link.receiver = .hunting →
        (mine → exec (.addressCharacterReceived c) s = .next (tuned begun s))
        ∧ (¬ mine → exec (.addressCharacterReceived c) s = .next s))
      ∧ (∀ u, s.link.receiver = .initializing u → exec (.addressCharacterReceived c) s = .next s)
      ∧ (∀ bc data gap, s.link.receiver = .receiving bc data gap →
          (mine → exec (.addressCharacterReceived c) s = .next (tuned begun lost))
          ∧ (¬ mine → exec (.addressCharacterReceived c) s = .next lost)
          ∧ exec .brokenCharacter s = .next lost
          ∧ (gap ≤ s.uptime → exec .characterGapTimeout s = .next lost)
          ∧ (s.uptime < gap → exec .characterGapTimeout s = .next s)
          ∧ (data = [] → 1 ≤ b.toNat → b.toNat ≤ 250 →
              exec (.lengthCharacterReceived c) s = .next (tuned (.receiving bc [b] passes) s))
          ∧ (data = [] → b.toNat = 0 ∨ 250 < b.toNat → exec (.lengthCharacterReceived c) s = .next
              { s with link := { s.link with receiver := .hunting, crc := min (s.link.crc + 1) 65535 } })
          ∧ (data ≠ [] → exec (.lengthCharacterReceived c) s = .next s))
      ∧ ((∀ bc data gap, s.link.receiver ≠ .receiving bc data gap) → exec .brokenCharacter s = .next s
          ∧ exec .characterGapTimeout s = .next s ∧ exec (.lengthCharacterReceived c) s = .next s)

/-- FRAME_RECEIVED (R186, R188 to R192): the data characters of a frame to this unit, with the CRC of its length, kind and
payload, run its request at once when no request is in work, as the command itself would; the frame waits behind one in
work, and is discarded with an overrun behind one waiting. A broadcast of the six kinds has its command's effect and no
reply, and any other is ignored. Any other CRC drops the frame with one CRC error. -/
def Obligations.GoodFramesReachTheirBlock : Prop :=
  ∀ (kind : Byte) (payload : List Byte) (chars : List RxChar) (bc : Bool) (gap : Nat) (s : State), payload.length ≤ 249 →
    s.link.receiver = .receiving bc [] gap →
    let body := BitVec.ofNat 8 (payload.length + 1) :: kind :: payload
    let carried := chars.map (·.data)
    let frame := Instr.frameReceived chars
    let heard : State := { s with link := { s.link with receiver := .hunting } }
    let asked := parseRequest kind payload
    let reply := fun (k st : Byte) => ({ heard with link := { heard.link with
      inWork := some { replyKind := k, reply := [st], resets := false, taken := s.uptime, phase := .formed } } } : State)
    (carried = body ++ crcBytes body →
      (bc = false → s.link.inWork = none →
          (∀ c, asked = .request c → exec frame s = exec c heard)
          ∧ (asked = .unknownKind → exec frame s = .next (reply 0xFF 0x10))
          ∧ (asked = .badLength → exec frame s = .next (reply (kind + 0x80) 0x11)))
        ∧ (bc = false → s.link.inWork.isSome = true → s.link.waiting = none →
            exec frame s = .next
              { heard with link := { heard.link with waiting := some { kind := kind, payload := payload } } })
        ∧ (bc = false → s.link.inWork.isSome = true → s.link.waiting.isSome = true →
            exec frame s = .next { heard with link := { heard.link with overrun := min (s.link.overrun + 1) 65535 } })
        ∧ (bc = true →
            (∀ c, asked = .request c → c = .start ∨ c = .hold ∨ c = .resume ∨ c = .endRun ∨ c = .clear
                ∨ (∃ m, c = .faultArm m) → ∀ t, exec c heard = .next t →
                exec frame s = .next { t with link := heard.link })
            ∧ ((∀ c, asked = .request c → c ≠ .start ∧ c ≠ .hold ∧ c ≠ .resume ∧ c ≠ .endRun ∧ c ≠ .clear
                ∧ ∀ m, c ≠ .faultArm m) → exec frame s = .next heard)))
      ∧ ∀ hi lo : Byte, [hi, lo] ≠ crcBytes body → carried = body ++ [hi, lo] → exec frame s =
          .next { heard with link := { heard.link with crc := min (s.link.crc + 1) 65535 } }

/-- UNIT-RESET is answered OK (R196). REPLY_START and REPLY_END (R189, R190, R185): a formed reply begins once; when its
characters have been sent, 2.2 µs each, the waiting frame is handed on (or answered UNKNOWN_KIND or BAD_LENGTH, R189), or
after a UNIT-RESET the warm reset is due in the next microsecond. INIT_INTERVAL_END (R193): the receiver is HUNTING when its
interval has passed. Each does nothing at any other time (log entry 8); the whole microseconds of a reply are log entry 7.
-/
def Obligations.RepliesAndTheirEnds : Prop :=
  ∀ s : State,
    exec .unitReset s = .next (answered 0x03 .ok [] s)
      ∧ (s.link.inWork = none → exec .replyStart s = .next s ∧ exec .replyEnd s = .next s)
      ∧ (∀ w, s.link.inWork = some w →
          let sent := 22 * (w.reply.length + 5) / 10
          (w.phase = .formed → exec .replyEnd s = .next s ∧ exec .replyStart s =
              .next { s with link := { s.link with inWork := some { w with phase := .sending s.uptime } } })
          ∧ (w.phase ≠ .formed → exec .replyStart s = .next s)
          ∧ (w.phase = .sent → exec .replyEnd s = .next s)
          ∧ (∀ b, w.phase = .sending b →
              (s.uptime < b + sent → exec .replyEnd s = .next s)
              ∧ (b + sent ≤ s.uptime →
                  (w.resets = true → exec .replyEnd s = .next { s with link := { s.link with
                      inWork := some { w with phase := .sent }, resetDue := some (s.uptime + 1) } })
                  ∧ (w.resets = false → s.link.waiting = none →
                      exec .replyEnd s = .next { s with link := { s.link with inWork := none } })
                  ∧ (w.resets = false → ∀ f c, s.link.waiting = some f → parseRequest f.kind f.payload = .request c →
                      exec .replyEnd s = exec c { s with link := { s.link with inWork := none, waiting := none } })
                  ∧ (w.resets = false → ∀ f, s.link.waiting = some f →
                      let formed := fun (k st : Byte) => ({ s with link := { s.link with
                        waiting := none
                        inWork := some { replyKind := k, reply := [st], resets := false, taken := s.uptime
                                         phase := .formed } } } : State)
                      (parseRequest f.kind f.payload = .unknownKind → exec .replyEnd s = .next (formed 0xFF 0x10))
                      ∧ (parseRequest f.kind f.payload = .badLength →
                          exec .replyEnd s = .next (formed (f.kind + 0x80) 0x11))))))
      ∧ (∀ u, s.link.receiver = .initializing u →
          (u ≤ s.uptime → exec .initIntervalEnd s = .next { s with link := { s.link with receiver := .hunting } })
          ∧ (s.uptime < u → exec .initIntervalEnd s = .next s))
      ∧ ((∀ u, s.link.receiver ≠ .initializing u) → exec .initIntervalEnd s = .next s)

/-! ### Resets -/

/-- COLD_RESET and WARM_RESET (R22, R47, R72, R92, R110, R139, R160, R174, R184, R193, R196): each block takes the value its
reset table gives; a warm reset keeps trace memory, the configurations, the records, the map, the supply commands and the
error counts, and is taken only when a UNIT-RESET's reply has made it due (log entry 8). The free-running uptime goes on
(log entry 1), and the levels at the pins stand (log entry 6); both intervals end at reset + N (log entry 14). The fields
that no reset table names (the channel source, prevTheta, cycleEvent, since, begun, inMicro, wrapDue, work, completed,
resetAt) take the model's own values (log entry 20); that a channel's pin shows its rest value in the reset's own microsecond
already is log entry 27. -/
def Obligations.ResetsTakeTheirValues : Prop :=
  ∀ s : State,
    (∀ straps : BitVec 3, ∃ t, exec (.coldReset straps) s = .next t
      ∧ t.uptime = s.uptime ∧ t.pending = s.pending
      ∧ t.run = State.reset.run ∧ t.rot = State.reset.rot ∧ t.trace = [] ∧ t.chans = State.reset.chans
      ∧ t.cap.log = [] ∧ (∀ k, t.input k = { State.reset.input k with wire := (s.input k).wire })
      ∧ t.faults = State.reset.faults ∧ t.pins = { State.reset.pins with drive := .recovering (s.uptime + 5000) }
      ∧ t.sup = { State.reset.sup with connPin := s.sup.connPin } ∧ t.ntc = State.reset.ntc
      ∧ t.link = { State.reset.link with
          receiver := .initializing (s.uptime + 20000), address := straps, resetAt := s.uptime })
    ∧ (s.link.resetDue = none ∨ (∃ u, s.link.resetDue = some u ∧ s.uptime < u) → exec .warmReset s = .next s)
    ∧ (∀ u, s.link.resetDue = some u → u ≤ s.uptime → ∃ t, exec .warmReset s = .next t
      ∧ t.uptime = s.uptime ∧ t.pending = s.pending ∧ t.trace = s.trace
      ∧ t.run = { State.reset.run with config := s.run.config }
      ∧ t.rot = { State.reset.rot with wheel := s.rot.wheel, cams := s.rot.cams }
      ∧ (∀ n, t.chan n =
          let c := s.chan n
          { c with
            queue := [], active := none, state := .stopped, held := none, source := 0, clamped := false
            output := if n.val < 12 then c.restCode else 0, modifier := none, line := c.restLevel, half := none
            pinEnable := c.enable, pinRef := c.reference })
      ∧ t.cap.log = []
      ∧ (∀ k, t.input k = { s.input k with
            agree := 0, acquire := true, phase := if (s.input k).enable then some (s.uptime + 1) else none })
      ∧ (∀ g, t.holder g = none)
      ∧ (∀ k, (s.slot k).state = .empty → t.slot k = State.reset.slot k)
      ∧ (∀ k, (s.slot k).state ≠ .empty →
          t.slot k = { State.reset.slot k with state := .loaded, record := (s.slot k).record })
      ∧ t.pins = { State.reset.pins with
          map := s.pins.map, routed := s.pins.map, drive := .recovering (s.uptime + 5000) }
      ∧ t.ntc = { State.reset.ntc with
          enables := s.ntc.enables, threshold := s.ntc.threshold, routes := s.ntc.routes }
      ∧ t.link = { s.link with
          receiver := .initializing (s.uptime + 2000), inWork := none, waiting := none, resetDue := none
          resetAt := s.uptime }
      ∧ t.sup.battDrop = false ∧ t.sup.ignDrop = false ∧ t.sup.battCmd = s.sup.battCmd ∧ t.sup.ignCmd = s.sup.ignCmd
      ∧ t.sup.mode = s.sup.mode ∧ t.sup.waitStart = s.sup.waitStart ∧ t.sup.waitDone = s.sup.waitDone
      ∧ t.sup.conn = s.sup.conn ∧ t.sup.connPin = s.sup.connPin ∧ t.sup.sensed = s.sup.sensed
      ∧ t.sup.battAct = s.sup.battCmd
      ∧ t.sup.ignAct = (s.sup.ignCmd && s.sup.battCmd && s.sup.waitDone)
      ∧ (s.sup.shutdown = .driver → t.sup.drvReq = false ∧ t.sup.driver = .off
          ∧ t.sup.shutdown = .feed (s.uptime + 1000))
      ∧ (s.sup.shutdown ≠ .driver → t.sup.drvReq = s.sup.drvReq ∧ t.sup.shutdown = s.sup.shutdown
          ∧ (SupplyLaw s → s.sup.driver ≠ .off → t.sup.driver = s.sup.driver)
          ∧ (s.sup.driver = .off → s.sup.battCmd = true → s.sup.drvReq = true →
              t.sup.driver = .wakeWait s.uptime)))

/-- Right after reset the device obeys all its laws, with the values the reset tables give (R22, R47, R72, R92, R110, R139, R160,
R174, R184, R193); the uptime of reset is 0 by log entry 1, and the two ends of intervals are log entry 14. -/
def Obligations.ResetStateObeysTheLaws : Prop :=
  DeviceLaw State.reset ∧ State.reset.pending = []
    ∧ State.reset.run.state = .idle ∧ State.reset.run.endReason = .none ∧ State.reset.run.clock = 0
    ∧ State.reset.run.config.startMode = .immediate ∧ State.reset.run.config.startSpeed = 0
    ∧ State.reset.rot.acc = 0 ∧ State.reset.rot.speed = 0 ∧ State.reset.rot.wheel.teeth = 0
    ∧ (∀ n : Fin 16, (State.reset.chan n).enable = false ∧ (State.reset.chan n).state = .stopped
        ∧ (State.reset.chan n).gmin = 0 ∧ (State.reset.chan n).gmax = if n.val < 12 then 4095 else 65535)
    ∧ (∀ k, (State.reset.input k).enable = false ∧ (State.reset.input k).level = none)
    ∧ (∀ k, (State.reset.slot k).state = .empty) ∧ (∀ g, State.reset.holder g = none)
    ∧ (∀ p, getAt State.reset.pins.map p = .unused ∧ State.reset.path p = .normal)
    ∧ State.reset.pins.drive = .recovering 5000 ∧ State.reset.sup.mode = .manual ∧ State.reset.sup.battAct = false
    ∧ State.reset.sup.driver = .off ∧ State.reset.sup.conn = .disconnected ∧ State.reset.ntc.threshold = 512
    ∧ State.reset.ntc.enables = 0 ∧ State.reset.link.receiver = .initializing 20000

/-! ### Invariants: every step keeps the laws of the device -/

/-- Trace memory keeps its canonical form, the angle, the speed and the profile their ranges, and the patterns the laws of R12
and R15, over every step (R1, R5, R12, R15, R26, R48). -/
def Obligations.StepKeepsMemoryRotationAndPatterns : Prop :=
  ∀ s t : State, step s = .next t →
    (TraceLaw s → TraceLaw t) ∧ (RotationLaw s → RotationLaw t) ∧ (PatternLaw s → PatternLaw t)

/-- Over every step the end reason names an ended run alone, no release flag is pending in a hold, the hold timer runs only in
HELD (R25, R33), and, in a state that keeps these, the capture log stays in order and within its capacity (R103, R108). -/
def Obligations.StepKeepsTheRunAndItsLog : Prop :=
  ∀ s t : State, step s = .next t → (RunLaw s → RunLaw t) ∧ (RunLaw s → LogLaw s → LogLaw t)

/-- Over every step the ignition is ON only with the battery, and the drivers only with the battery and their request (R161,
R162, R163, R166). -/
def Obligations.StepKeepsTheFeedOrder : Prop := ∀ s t : State, SupplyLaw s → step s = .next t → SupplyLaw t

/-- Over every step each segment queue stays within its capacity and empty outside STREAM mode (R53, R55), each guard within its
channel's kind with the rest code inside (R74); the notices keep their masks and threshold, and the link its counts and
its one frame waiting (R178, R179, R187, R188, R189, R192). -/
def Obligations.StepKeepsQueuesGuardsNoticesAndLink : Prop :=
  ∀ s t : State, step s = .next t →
    (QueueLaw s → QueueLaw t) ∧ (GuardLaw s → GuardLaw t) ∧ (NoticeLaw s → NoticeLaw t) ∧ (LinkLaw s → LinkLaw t)

/-- Over every step a slot holds a target exactly while it stands in ALIGNING, PENDING, ACTIVE or RELEASING with it, a pin's path
is other than NORMAL only while some slot holds the pin, and each relay transition belongs to its own slot (R116, R138,
R142, R145, R151). -/
def Obligations.StepKeepsTheHolderTable : Prop := ∀ s t : State, HolderLaw s → step s = .next t → HolderLaw t
end

