-- ==== Sys2Proof/Laws/Tables.lean ====
section
/-! SUPPORT. Tables, lists of table places, and forEach: reading after writing, and what a loop keeps. -/

namespace Sys2Proof.Machine

/-! ### One entry of a table -/

@[simp] theorem getAt_setAt_same {α : Type} {n : Nat} (v : Vector α n) (k : Fin n) (x : α) :
    getAt (setAt v k x) k = x := by simp [getAt, setAt]

theorem getAt_setAt_other {α : Type} {n : Nat} (v : Vector α n) (k : Fin n) (x : α) (j : Fin n) (h : j ≠ k) :
    getAt (setAt v k x) j = getAt v j := by
  have h' : k.val ≠ j.val := fun e => h (Fin.ext e.symm)
  simp [getAt, setAt, h']

theorem getAt_setAt {α : Type} {n : Nat} (v : Vector α n) (k : Fin n) (x : α) (j : Fin n) :
    getAt (setAt v k x) j = if j = k then x else getAt v j := by
  by_cases h : j = k
  · simp [h]
  · simp [h, getAt_setAt_other]

@[simp] theorem setAt_setAt_same {α : Type} {n : Nat} (v : Vector α n) (k : Fin n) (x y : α) :
    setAt (setAt v k x) k y = setAt v k y := by
  simp [setAt]

@[simp] theorem setAt_getAt {α : Type} {n : Nat} (v : Vector α n) (k : Fin n) : setAt v k (getAt v k) = v := by
  simp [setAt, getAt]

@[simp] theorem getAt_replicate {α : Type} {n : Nat} (x : α) (k : Fin n) : getAt (Vector.replicate n x) k = x := by
  simp [getAt]

/-- Two tables that read alike everywhere are one table. -/
theorem table_ext {α : Type} {n : Nat} (v w : Vector α n) (h : ∀ k, getAt v k = getAt w k) : v = w :=
  Vector.ext (fun i hi => h ⟨i, hi⟩)

/-! ### Every place is listed once -/

theorem mem_allSlots (k : Fin 32) : k ∈ allSlots := by revert k; decide
theorem mem_allChannels (n : Fin 16) : n ∈ allChannels := by revert n; decide
theorem mem_allPins (p : Fin 24) : p ∈ allPins := by revert p; decide
theorem mem_allTargets (t : Fin 45) : t ∈ allTargets := by revert t; decide
theorem mem_allInputs (i : Fin 10) : i ∈ allInputs := by revert i; decide
theorem mem_allOutputs (l : Fin 4) : l ∈ allOutputs := by revert l; decide
theorem mem_pulseChannels (n : Fin 16) : n ∈ pulseChannels ↔ 12 ≤ n.val := by revert n; decide
theorem nodup_allSlots : allSlots.Nodup := by decide
theorem nodup_allChannels : allChannels.Nodup := by decide
theorem nodup_allPins : allPins.Nodup := by decide
theorem nodup_allTargets : allTargets.Nodup := by decide
theorem nodup_allInputs : allInputs.Nodup := by decide
theorem nodup_allOutputs : allOutputs.Nodup := by decide

/-! ### forEach -/

@[simp] theorem forEach_nil {α : Type} (f : α → State → State) (s : State) : forEach [] f s = s := rfl

@[simp] theorem forEach_cons {α : Type} (x : α) (xs : List α) (f : α → State → State) (s : State) :
    forEach (x :: xs) f s = forEach xs f (f x s) := rfl

theorem forEach_append {α : Type} (xs ys : List α) (f : α → State → State) (s : State) :
    forEach (xs ++ ys) f s = forEach ys f (forEach xs f s) := by
  induction xs generalizing s with
  | nil => rfl
  | cons x xs ih => simp [ih]

/-- What every pass keeps, the loop keeps. -/
theorem forEach_keeps {α : Type} (P : State → Prop) (xs : List α) (f : α → State → State)
    (h : ∀ x ∈ xs, ∀ s, P s → P (f x s)) (s : State) (hs : P s) : P (forEach xs f s) := by
  induction xs generalizing s with
  | nil => exact hs
  | cons x xs ih => exact ih (fun y hy => h y (by simp [hy])) _ (h x (by simp) s hs)

/-- A view that no pass changes, the loop does not change. -/
theorem forEach_view {α β : Type} (g : State → β) (xs : List α) (f : α → State → State)
    (h : ∀ x ∈ xs, ∀ s, g (f x s) = g s) (s : State) : g (forEach xs f s) = g s :=
  forEach_keeps (fun t => g t = g s) xs f (fun x hx t ht => (h x hx t).trans ht) s rfl

/-- A loop whose passes change nothing changes nothing. -/
theorem forEach_id {α : Type} (xs : List α) (f : α → State → State) (s : State) (h : ∀ x ∈ xs, f x s = s) :
    forEach xs f s = s := by
  induction xs with
  | nil => rfl
  | cons x xs ih => rw [forEach_cons, h x (by simp)]; exact ih (fun y hy => h y (by simp [hy]))

/-- A loop over distinct places in which only the pass of one place touches a view leaves it as that one pass does, if the
pass depends on the state through nothing that the others change. -/
theorem forEach_at {α β : Type} (g : State → β) (F : β → β) (k : α) (xs : List α) (f : α → State → State)
    (hk : k ∈ xs) (hn : xs.Nodup) (other : ∀ x ∈ xs, x ≠ k → ∀ s, g (f x s) = g s) (own : ∀ s, g (f k s) = F (g s))
    (s : State) : g (forEach xs f s) = F (g s) := by
  induction xs generalizing s with
  | nil => cases hk
  | cons x xs ih =>
    rw [forEach_cons]
    by_cases hx : x = k
    · subst hx
      have hx' : x ∉ xs := (List.nodup_cons.mp hn).1
      rw [forEach_view g xs f (fun y hy t => other y (by simp [hy]) (fun e => hx' (e ▸ hy)) t), own]
    · rw [ih (by rcases List.mem_cons.mp hk with h | h <;> [exact absurd h.symm hx; exact h])
        (List.nodup_cons.mp hn).2 (fun y hy => other y (by simp [hy])), other x (by simp) hx]

/-! ### Orders -/

/-- The items a step takes are its own or events, whatever order a command names. -/
theorem mem_orderItems (given own : List WorkItem) (w : WorkItem) (h : w ∈ orderItems given own) :
    w ∈ own ∨ isEvent w = true := by
  simp only [orderItems, List.mem_append, List.mem_filter, Bool.or_eq_true, List.contains_iff_mem] at h
  rcases h with ⟨-, h⟩ | ⟨h, -⟩
  · exact h
  · exact .inl h

/-- Every item of the step's own is taken, whatever order a command names. -/
theorem own_mem_orderItems (given own : List WorkItem) (w : WorkItem) (h : w ∈ own) : w ∈ orderItems given own := by
  simp only [orderItems, List.mem_append, List.mem_filter, Bool.or_eq_true, List.contains_iff_mem]
  by_cases hg : w ∈ given
  · exact .inl ⟨List.mem_eraseDups.mpr hg, .inl h⟩
  · exact .inr ⟨h, by simpa using hg⟩

@[simp] theorem orderItems_nil (own : List WorkItem) : orderItems [] own = own := by
  simp only [orderItems, List.eraseDups_nil, List.filter_nil, List.nil_append]
  exact List.filter_eq_self.mpr (by simp)

end Sys2Proof.Machine
end

