-- ==== Sys2Proof/Laws/State.lean ====
section
/-! SUPPORT. One lemma per field per update of State, true by rfl: what each setter and each raise leaves alone, and what it
writes. -/

namespace Sys2Proof.Machine

/-! ### setChan -/

@[simp] theorem State.setChan_uptime (s : State) (n : Fin 16) (c : Channel) : (s.setChan n c).uptime = s.uptime := rfl
@[simp] theorem State.setChan_run (s : State) (n : Fin 16) (c : Channel) : (s.setChan n c).run = s.run := rfl
@[simp] theorem State.setChan_rot (s : State) (n : Fin 16) (c : Channel) : (s.setChan n c).rot = s.rot := rfl
@[simp] theorem State.setChan_trace (s : State) (n : Fin 16) (c : Channel) : (s.setChan n c).trace = s.trace := rfl
@[simp] theorem State.setChan_cap (s : State) (n : Fin 16) (c : Channel) : (s.setChan n c).cap = s.cap := rfl
@[simp] theorem State.setChan_faults (s : State) (n : Fin 16) (c : Channel) : (s.setChan n c).faults = s.faults := rfl
@[simp] theorem State.setChan_pins (s : State) (n : Fin 16) (c : Channel) : (s.setChan n c).pins = s.pins := rfl
@[simp] theorem State.setChan_sup (s : State) (n : Fin 16) (c : Channel) : (s.setChan n c).sup = s.sup := rfl
@[simp] theorem State.setChan_ntc (s : State) (n : Fin 16) (c : Channel) : (s.setChan n c).ntc = s.ntc := rfl
@[simp] theorem State.setChan_link (s : State) (n : Fin 16) (c : Channel) : (s.setChan n c).link = s.link := rfl
@[simp] theorem State.setChan_pending (s : State) (n : Fin 16) (c : Channel) : (s.setChan n c).pending = s.pending := rfl
@[simp] theorem State.setChan_slot (s : State) (n : Fin 16) (c : Channel) (j : Fin 32) : (s.setChan n c).slot j = s.slot j := rfl
@[simp] theorem State.setChan_holder (s : State) (n : Fin 16) (c : Channel) (g : Fin 45) : (s.setChan n c).holder g = s.holder g := rfl
@[simp] theorem State.setChan_input (s : State) (n : Fin 16) (c : Channel) (i : Fin 10) : (s.setChan n c).input i = s.input i := rfl
@[simp] theorem State.setChan_path (s : State) (n : Fin 16) (c : Channel) (q : Fin 24) : (s.setChan n c).path q = s.path q := rfl
@[simp] theorem State.setChan_wait (s : State) (n : Fin 16) (c : Channel) (q : Fin 24) : (s.setChan n c).wait q = s.wait q := rfl

/-! ### setSlot -/

@[simp] theorem State.setSlot_uptime (s : State) (k : Fin 32) (x : Slot) : (s.setSlot k x).uptime = s.uptime := rfl
@[simp] theorem State.setSlot_run (s : State) (k : Fin 32) (x : Slot) : (s.setSlot k x).run = s.run := rfl
@[simp] theorem State.setSlot_rot (s : State) (k : Fin 32) (x : Slot) : (s.setSlot k x).rot = s.rot := rfl
@[simp] theorem State.setSlot_trace (s : State) (k : Fin 32) (x : Slot) : (s.setSlot k x).trace = s.trace := rfl
@[simp] theorem State.setSlot_chans (s : State) (k : Fin 32) (x : Slot) : (s.setSlot k x).chans = s.chans := rfl
@[simp] theorem State.setSlot_cap (s : State) (k : Fin 32) (x : Slot) : (s.setSlot k x).cap = s.cap := rfl
@[simp] theorem State.setSlot_pins (s : State) (k : Fin 32) (x : Slot) : (s.setSlot k x).pins = s.pins := rfl
@[simp] theorem State.setSlot_sup (s : State) (k : Fin 32) (x : Slot) : (s.setSlot k x).sup = s.sup := rfl
@[simp] theorem State.setSlot_ntc (s : State) (k : Fin 32) (x : Slot) : (s.setSlot k x).ntc = s.ntc := rfl
@[simp] theorem State.setSlot_link (s : State) (k : Fin 32) (x : Slot) : (s.setSlot k x).link = s.link := rfl
@[simp] theorem State.setSlot_pending (s : State) (k : Fin 32) (x : Slot) : (s.setSlot k x).pending = s.pending := rfl
@[simp] theorem State.setSlot_chan (s : State) (k : Fin 32) (x : Slot) (m : Fin 16) : (s.setSlot k x).chan m = s.chan m := rfl
@[simp] theorem State.setSlot_holder (s : State) (k : Fin 32) (x : Slot) (g : Fin 45) : (s.setSlot k x).holder g = s.holder g := rfl
@[simp] theorem State.setSlot_input (s : State) (k : Fin 32) (x : Slot) (i : Fin 10) : (s.setSlot k x).input i = s.input i := rfl
@[simp] theorem State.setSlot_path (s : State) (k : Fin 32) (x : Slot) (q : Fin 24) : (s.setSlot k x).path q = s.path q := rfl
@[simp] theorem State.setSlot_wait (s : State) (k : Fin 32) (x : Slot) (q : Fin 24) : (s.setSlot k x).wait q = s.wait q := rfl

/-! ### setHolder -/

@[simp] theorem State.setHolder_uptime (s : State) (t : Fin 45) (h : Option (Fin 32)) : (s.setHolder t h).uptime = s.uptime := rfl
@[simp] theorem State.setHolder_run (s : State) (t : Fin 45) (h : Option (Fin 32)) : (s.setHolder t h).run = s.run := rfl
@[simp] theorem State.setHolder_rot (s : State) (t : Fin 45) (h : Option (Fin 32)) : (s.setHolder t h).rot = s.rot := rfl
@[simp] theorem State.setHolder_trace (s : State) (t : Fin 45) (h : Option (Fin 32)) : (s.setHolder t h).trace = s.trace := rfl
@[simp] theorem State.setHolder_chans (s : State) (t : Fin 45) (h : Option (Fin 32)) : (s.setHolder t h).chans = s.chans := rfl
@[simp] theorem State.setHolder_cap (s : State) (t : Fin 45) (h : Option (Fin 32)) : (s.setHolder t h).cap = s.cap := rfl
@[simp] theorem State.setHolder_pins (s : State) (t : Fin 45) (h : Option (Fin 32)) : (s.setHolder t h).pins = s.pins := rfl
@[simp] theorem State.setHolder_sup (s : State) (t : Fin 45) (h : Option (Fin 32)) : (s.setHolder t h).sup = s.sup := rfl
@[simp] theorem State.setHolder_ntc (s : State) (t : Fin 45) (h : Option (Fin 32)) : (s.setHolder t h).ntc = s.ntc := rfl
@[simp] theorem State.setHolder_link (s : State) (t : Fin 45) (h : Option (Fin 32)) : (s.setHolder t h).link = s.link := rfl
@[simp] theorem State.setHolder_pending (s : State) (t : Fin 45) (h : Option (Fin 32)) : (s.setHolder t h).pending = s.pending := rfl
@[simp] theorem State.setHolder_chan (s : State) (t : Fin 45) (h : Option (Fin 32)) (m : Fin 16) : (s.setHolder t h).chan m = s.chan m := rfl
@[simp] theorem State.setHolder_slot (s : State) (t : Fin 45) (h : Option (Fin 32)) (j : Fin 32) : (s.setHolder t h).slot j = s.slot j := rfl
@[simp] theorem State.setHolder_input (s : State) (t : Fin 45) (h : Option (Fin 32)) (i : Fin 10) : (s.setHolder t h).input i = s.input i := rfl
@[simp] theorem State.setHolder_path (s : State) (t : Fin 45) (h : Option (Fin 32)) (q : Fin 24) : (s.setHolder t h).path q = s.path q := rfl
@[simp] theorem State.setHolder_wait (s : State) (t : Fin 45) (h : Option (Fin 32)) (q : Fin 24) : (s.setHolder t h).wait q = s.wait q := rfl

/-! ### setInput -/

@[simp] theorem State.setInput_uptime (s : State) (k : Fin 10) (x : Input) : (s.setInput k x).uptime = s.uptime := rfl
@[simp] theorem State.setInput_run (s : State) (k : Fin 10) (x : Input) : (s.setInput k x).run = s.run := rfl
@[simp] theorem State.setInput_rot (s : State) (k : Fin 10) (x : Input) : (s.setInput k x).rot = s.rot := rfl
@[simp] theorem State.setInput_trace (s : State) (k : Fin 10) (x : Input) : (s.setInput k x).trace = s.trace := rfl
@[simp] theorem State.setInput_chans (s : State) (k : Fin 10) (x : Input) : (s.setInput k x).chans = s.chans := rfl
@[simp] theorem State.setInput_faults (s : State) (k : Fin 10) (x : Input) : (s.setInput k x).faults = s.faults := rfl
@[simp] theorem State.setInput_pins (s : State) (k : Fin 10) (x : Input) : (s.setInput k x).pins = s.pins := rfl
@[simp] theorem State.setInput_sup (s : State) (k : Fin 10) (x : Input) : (s.setInput k x).sup = s.sup := rfl
@[simp] theorem State.setInput_ntc (s : State) (k : Fin 10) (x : Input) : (s.setInput k x).ntc = s.ntc := rfl
@[simp] theorem State.setInput_link (s : State) (k : Fin 10) (x : Input) : (s.setInput k x).link = s.link := rfl
@[simp] theorem State.setInput_pending (s : State) (k : Fin 10) (x : Input) : (s.setInput k x).pending = s.pending := rfl
@[simp] theorem State.setInput_chan (s : State) (k : Fin 10) (x : Input) (m : Fin 16) : (s.setInput k x).chan m = s.chan m := rfl
@[simp] theorem State.setInput_slot (s : State) (k : Fin 10) (x : Input) (j : Fin 32) : (s.setInput k x).slot j = s.slot j := rfl
@[simp] theorem State.setInput_holder (s : State) (k : Fin 10) (x : Input) (g : Fin 45) : (s.setInput k x).holder g = s.holder g := rfl
@[simp] theorem State.setInput_path (s : State) (k : Fin 10) (x : Input) (q : Fin 24) : (s.setInput k x).path q = s.path q := rfl
@[simp] theorem State.setInput_wait (s : State) (k : Fin 10) (x : Input) (q : Fin 24) : (s.setInput k x).wait q = s.wait q := rfl

/-! ### setPath -/

@[simp] theorem State.setPath_uptime (s : State) (p : Fin 24) (x : Path) : (s.setPath p x).uptime = s.uptime := rfl
@[simp] theorem State.setPath_run (s : State) (p : Fin 24) (x : Path) : (s.setPath p x).run = s.run := rfl
@[simp] theorem State.setPath_rot (s : State) (p : Fin 24) (x : Path) : (s.setPath p x).rot = s.rot := rfl
@[simp] theorem State.setPath_trace (s : State) (p : Fin 24) (x : Path) : (s.setPath p x).trace = s.trace := rfl
@[simp] theorem State.setPath_chans (s : State) (p : Fin 24) (x : Path) : (s.setPath p x).chans = s.chans := rfl
@[simp] theorem State.setPath_cap (s : State) (p : Fin 24) (x : Path) : (s.setPath p x).cap = s.cap := rfl
@[simp] theorem State.setPath_faults (s : State) (p : Fin 24) (x : Path) : (s.setPath p x).faults = s.faults := rfl
@[simp] theorem State.setPath_sup (s : State) (p : Fin 24) (x : Path) : (s.setPath p x).sup = s.sup := rfl
@[simp] theorem State.setPath_ntc (s : State) (p : Fin 24) (x : Path) : (s.setPath p x).ntc = s.ntc := rfl
@[simp] theorem State.setPath_link (s : State) (p : Fin 24) (x : Path) : (s.setPath p x).link = s.link := rfl
@[simp] theorem State.setPath_pending (s : State) (p : Fin 24) (x : Path) : (s.setPath p x).pending = s.pending := rfl
@[simp] theorem State.setPath_chan (s : State) (p : Fin 24) (x : Path) (m : Fin 16) : (s.setPath p x).chan m = s.chan m := rfl
@[simp] theorem State.setPath_slot (s : State) (p : Fin 24) (x : Path) (j : Fin 32) : (s.setPath p x).slot j = s.slot j := rfl
@[simp] theorem State.setPath_holder (s : State) (p : Fin 24) (x : Path) (g : Fin 45) : (s.setPath p x).holder g = s.holder g := rfl
@[simp] theorem State.setPath_input (s : State) (p : Fin 24) (x : Path) (i : Fin 10) : (s.setPath p x).input i = s.input i := rfl
@[simp] theorem State.setPath_wait (s : State) (p : Fin 24) (x : Path) (q : Fin 24) : (s.setPath p x).wait q = s.wait q := rfl

/-! ### setWait -/

@[simp] theorem State.setWait_uptime (s : State) (p : Fin 24) (w : Option AlignWait) : (s.setWait p w).uptime = s.uptime := rfl
@[simp] theorem State.setWait_run (s : State) (p : Fin 24) (w : Option AlignWait) : (s.setWait p w).run = s.run := rfl
@[simp] theorem State.setWait_rot (s : State) (p : Fin 24) (w : Option AlignWait) : (s.setWait p w).rot = s.rot := rfl
@[simp] theorem State.setWait_trace (s : State) (p : Fin 24) (w : Option AlignWait) : (s.setWait p w).trace = s.trace := rfl
@[simp] theorem State.setWait_chans (s : State) (p : Fin 24) (w : Option AlignWait) : (s.setWait p w).chans = s.chans := rfl
@[simp] theorem State.setWait_cap (s : State) (p : Fin 24) (w : Option AlignWait) : (s.setWait p w).cap = s.cap := rfl
@[simp] theorem State.setWait_faults (s : State) (p : Fin 24) (w : Option AlignWait) : (s.setWait p w).faults = s.faults := rfl
@[simp] theorem State.setWait_sup (s : State) (p : Fin 24) (w : Option AlignWait) : (s.setWait p w).sup = s.sup := rfl
@[simp] theorem State.setWait_ntc (s : State) (p : Fin 24) (w : Option AlignWait) : (s.setWait p w).ntc = s.ntc := rfl
@[simp] theorem State.setWait_link (s : State) (p : Fin 24) (w : Option AlignWait) : (s.setWait p w).link = s.link := rfl
@[simp] theorem State.setWait_pending (s : State) (p : Fin 24) (w : Option AlignWait) : (s.setWait p w).pending = s.pending := rfl
@[simp] theorem State.setWait_chan (s : State) (p : Fin 24) (w : Option AlignWait) (m : Fin 16) : (s.setWait p w).chan m = s.chan m := rfl
@[simp] theorem State.setWait_slot (s : State) (p : Fin 24) (w : Option AlignWait) (j : Fin 32) : (s.setWait p w).slot j = s.slot j := rfl
@[simp] theorem State.setWait_holder (s : State) (p : Fin 24) (w : Option AlignWait) (g : Fin 45) : (s.setWait p w).holder g = s.holder g := rfl
@[simp] theorem State.setWait_input (s : State) (p : Fin 24) (w : Option AlignWait) (i : Fin 10) : (s.setWait p w).input i = s.input i := rfl
@[simp] theorem State.setWait_path (s : State) (p : Fin 24) (w : Option AlignWait) (q : Fin 24) : (s.setWait p w).path q = s.path q := rfl

/-! ### setWaitList -/

@[simp] theorem State.setWaitList_uptime (s : State) (l : List RelayEntry) : (s.setWaitList l).uptime = s.uptime := rfl
@[simp] theorem State.setWaitList_run (s : State) (l : List RelayEntry) : (s.setWaitList l).run = s.run := rfl
@[simp] theorem State.setWaitList_rot (s : State) (l : List RelayEntry) : (s.setWaitList l).rot = s.rot := rfl
@[simp] theorem State.setWaitList_trace (s : State) (l : List RelayEntry) : (s.setWaitList l).trace = s.trace := rfl
@[simp] theorem State.setWaitList_chans (s : State) (l : List RelayEntry) : (s.setWaitList l).chans = s.chans := rfl
@[simp] theorem State.setWaitList_cap (s : State) (l : List RelayEntry) : (s.setWaitList l).cap = s.cap := rfl
@[simp] theorem State.setWaitList_faults (s : State) (l : List RelayEntry) : (s.setWaitList l).faults = s.faults := rfl
@[simp] theorem State.setWaitList_sup (s : State) (l : List RelayEntry) : (s.setWaitList l).sup = s.sup := rfl
@[simp] theorem State.setWaitList_ntc (s : State) (l : List RelayEntry) : (s.setWaitList l).ntc = s.ntc := rfl
@[simp] theorem State.setWaitList_link (s : State) (l : List RelayEntry) : (s.setWaitList l).link = s.link := rfl
@[simp] theorem State.setWaitList_pending (s : State) (l : List RelayEntry) : (s.setWaitList l).pending = s.pending := rfl
@[simp] theorem State.setWaitList_chan (s : State) (l : List RelayEntry) (m : Fin 16) : (s.setWaitList l).chan m = s.chan m := rfl
@[simp] theorem State.setWaitList_slot (s : State) (l : List RelayEntry) (j : Fin 32) : (s.setWaitList l).slot j = s.slot j := rfl
@[simp] theorem State.setWaitList_holder (s : State) (l : List RelayEntry) (g : Fin 45) : (s.setWaitList l).holder g = s.holder g := rfl
@[simp] theorem State.setWaitList_input (s : State) (l : List RelayEntry) (i : Fin 10) : (s.setWaitList l).input i = s.input i := rfl
@[simp] theorem State.setWaitList_path (s : State) (l : List RelayEntry) (q : Fin 24) : (s.setWaitList l).path q = s.path q := rfl
@[simp] theorem State.setWaitList_wait (s : State) (l : List RelayEntry) (q : Fin 24) : (s.setWaitList l).wait q = s.wait q := rfl

/-! ### setDrive -/

@[simp] theorem State.setDrive_uptime (s : State) (d : Drive) : (s.setDrive d).uptime = s.uptime := rfl
@[simp] theorem State.setDrive_run (s : State) (d : Drive) : (s.setDrive d).run = s.run := rfl
@[simp] theorem State.setDrive_rot (s : State) (d : Drive) : (s.setDrive d).rot = s.rot := rfl
@[simp] theorem State.setDrive_trace (s : State) (d : Drive) : (s.setDrive d).trace = s.trace := rfl
@[simp] theorem State.setDrive_chans (s : State) (d : Drive) : (s.setDrive d).chans = s.chans := rfl
@[simp] theorem State.setDrive_cap (s : State) (d : Drive) : (s.setDrive d).cap = s.cap := rfl
@[simp] theorem State.setDrive_faults (s : State) (d : Drive) : (s.setDrive d).faults = s.faults := rfl
@[simp] theorem State.setDrive_sup (s : State) (d : Drive) : (s.setDrive d).sup = s.sup := rfl
@[simp] theorem State.setDrive_ntc (s : State) (d : Drive) : (s.setDrive d).ntc = s.ntc := rfl
@[simp] theorem State.setDrive_link (s : State) (d : Drive) : (s.setDrive d).link = s.link := rfl
@[simp] theorem State.setDrive_pending (s : State) (d : Drive) : (s.setDrive d).pending = s.pending := rfl
@[simp] theorem State.setDrive_chan (s : State) (d : Drive) (m : Fin 16) : (s.setDrive d).chan m = s.chan m := rfl
@[simp] theorem State.setDrive_slot (s : State) (d : Drive) (j : Fin 32) : (s.setDrive d).slot j = s.slot j := rfl
@[simp] theorem State.setDrive_holder (s : State) (d : Drive) (g : Fin 45) : (s.setDrive d).holder g = s.holder g := rfl
@[simp] theorem State.setDrive_input (s : State) (d : Drive) (i : Fin 10) : (s.setDrive d).input i = s.input i := rfl
@[simp] theorem State.setDrive_path (s : State) (d : Drive) (q : Fin 24) : (s.setDrive d).path q = s.path q := rfl
@[simp] theorem State.setDrive_wait (s : State) (d : Drive) (q : Fin 24) : (s.setDrive d).wait q = s.wait q := rfl

/-! ### setWork -/

@[simp] theorem State.setWork_uptime (s : State) (l : List WorkItem) : (s.setWork l).uptime = s.uptime := rfl
@[simp] theorem State.setWork_rot (s : State) (l : List WorkItem) : (s.setWork l).rot = s.rot := rfl
@[simp] theorem State.setWork_trace (s : State) (l : List WorkItem) : (s.setWork l).trace = s.trace := rfl
@[simp] theorem State.setWork_chans (s : State) (l : List WorkItem) : (s.setWork l).chans = s.chans := rfl
@[simp] theorem State.setWork_cap (s : State) (l : List WorkItem) : (s.setWork l).cap = s.cap := rfl
@[simp] theorem State.setWork_faults (s : State) (l : List WorkItem) : (s.setWork l).faults = s.faults := rfl
@[simp] theorem State.setWork_pins (s : State) (l : List WorkItem) : (s.setWork l).pins = s.pins := rfl
@[simp] theorem State.setWork_sup (s : State) (l : List WorkItem) : (s.setWork l).sup = s.sup := rfl
@[simp] theorem State.setWork_ntc (s : State) (l : List WorkItem) : (s.setWork l).ntc = s.ntc := rfl
@[simp] theorem State.setWork_link (s : State) (l : List WorkItem) : (s.setWork l).link = s.link := rfl
@[simp] theorem State.setWork_pending (s : State) (l : List WorkItem) : (s.setWork l).pending = s.pending := rfl
@[simp] theorem State.setWork_chan (s : State) (l : List WorkItem) (m : Fin 16) : (s.setWork l).chan m = s.chan m := rfl
@[simp] theorem State.setWork_slot (s : State) (l : List WorkItem) (j : Fin 32) : (s.setWork l).slot j = s.slot j := rfl
@[simp] theorem State.setWork_holder (s : State) (l : List WorkItem) (g : Fin 45) : (s.setWork l).holder g = s.holder g := rfl
@[simp] theorem State.setWork_input (s : State) (l : List WorkItem) (i : Fin 10) : (s.setWork l).input i = s.input i := rfl
@[simp] theorem State.setWork_path (s : State) (l : List WorkItem) (q : Fin 24) : (s.setWork l).path q = s.path q := rfl
@[simp] theorem State.setWork_wait (s : State) (l : List WorkItem) (q : Fin 24) : (s.setWork l).wait q = s.wait q := rfl

/-! ### setTimer -/

@[simp] theorem State.setTimer_uptime (s : State) (l : Fin 4) (t : Option Nat) : (s.setTimer l t).uptime = s.uptime := rfl
@[simp] theorem State.setTimer_run (s : State) (l : Fin 4) (t : Option Nat) : (s.setTimer l t).run = s.run := rfl
@[simp] theorem State.setTimer_rot (s : State) (l : Fin 4) (t : Option Nat) : (s.setTimer l t).rot = s.rot := rfl
@[simp] theorem State.setTimer_trace (s : State) (l : Fin 4) (t : Option Nat) : (s.setTimer l t).trace = s.trace := rfl
@[simp] theorem State.setTimer_chans (s : State) (l : Fin 4) (t : Option Nat) : (s.setTimer l t).chans = s.chans := rfl
@[simp] theorem State.setTimer_cap (s : State) (l : Fin 4) (t : Option Nat) : (s.setTimer l t).cap = s.cap := rfl
@[simp] theorem State.setTimer_faults (s : State) (l : Fin 4) (t : Option Nat) : (s.setTimer l t).faults = s.faults := rfl
@[simp] theorem State.setTimer_pins (s : State) (l : Fin 4) (t : Option Nat) : (s.setTimer l t).pins = s.pins := rfl
@[simp] theorem State.setTimer_sup (s : State) (l : Fin 4) (t : Option Nat) : (s.setTimer l t).sup = s.sup := rfl
@[simp] theorem State.setTimer_link (s : State) (l : Fin 4) (t : Option Nat) : (s.setTimer l t).link = s.link := rfl
@[simp] theorem State.setTimer_pending (s : State) (l : Fin 4) (t : Option Nat) : (s.setTimer l t).pending = s.pending := rfl
@[simp] theorem State.setTimer_chan (s : State) (l : Fin 4) (t : Option Nat) (m : Fin 16) : (s.setTimer l t).chan m = s.chan m := rfl
@[simp] theorem State.setTimer_slot (s : State) (l : Fin 4) (t : Option Nat) (j : Fin 32) : (s.setTimer l t).slot j = s.slot j := rfl
@[simp] theorem State.setTimer_holder (s : State) (l : Fin 4) (t : Option Nat) (g : Fin 45) : (s.setTimer l t).holder g = s.holder g := rfl
@[simp] theorem State.setTimer_input (s : State) (l : Fin 4) (t : Option Nat) (i : Fin 10) : (s.setTimer l t).input i = s.input i := rfl
@[simp] theorem State.setTimer_path (s : State) (l : Fin 4) (t : Option Nat) (q : Fin 24) : (s.setTimer l t).path q = s.path q := rfl
@[simp] theorem State.setTimer_wait (s : State) (l : Fin 4) (t : Option Nat) (q : Fin 24) : (s.setTimer l t).wait q = s.wait q := rfl

/-! ### Fields kept inside the group that a setter writes -/

@[simp] theorem State.setSlot_faults_holders (s : State) (k : Fin 32) (x : Slot) : (s.setSlot k x).faults.holders = s.faults.holders := rfl
@[simp] theorem State.setHolder_faults_slots (s : State) (t : Fin 45) (h : Option (Fin 32)) : (s.setHolder t h).faults.slots = s.faults.slots := rfl
@[simp] theorem State.setInput_cap_log (s : State) (k : Fin 10) (x : Input) : (s.setInput k x).cap.log = s.cap.log := rfl
@[simp] theorem State.setPath_pins_map (s : State) (p : Fin 24) (x : Path) : (s.setPath p x).pins.map = s.pins.map := rfl
@[simp] theorem State.setPath_pins_completed (s : State) (p : Fin 24) (x : Path) : (s.setPath p x).pins.completed = s.pins.completed := rfl
@[simp] theorem State.setPath_pins_routed (s : State) (p : Fin 24) (x : Path) : (s.setPath p x).pins.routed = s.pins.routed := rfl
@[simp] theorem State.setPath_pins_waits (s : State) (p : Fin 24) (x : Path) : (s.setPath p x).pins.waits = s.pins.waits := rfl
@[simp] theorem State.setPath_pins_drive (s : State) (p : Fin 24) (x : Path) : (s.setPath p x).pins.drive = s.pins.drive := rfl
@[simp] theorem State.setPath_pins_waitList (s : State) (p : Fin 24) (x : Path) : (s.setPath p x).pins.waitList = s.pins.waitList := rfl
@[simp] theorem State.setWait_pins_map (s : State) (p : Fin 24) (w : Option AlignWait) : (s.setWait p w).pins.map = s.pins.map := rfl
@[simp] theorem State.setWait_pins_completed (s : State) (p : Fin 24) (w : Option AlignWait) : (s.setWait p w).pins.completed = s.pins.completed := rfl
@[simp] theorem State.setWait_pins_routed (s : State) (p : Fin 24) (w : Option AlignWait) : (s.setWait p w).pins.routed = s.pins.routed := rfl
@[simp] theorem State.setWait_pins_paths (s : State) (p : Fin 24) (w : Option AlignWait) : (s.setWait p w).pins.paths = s.pins.paths := rfl
@[simp] theorem State.setWait_pins_drive (s : State) (p : Fin 24) (w : Option AlignWait) : (s.setWait p w).pins.drive = s.pins.drive := rfl
@[simp] theorem State.setWait_pins_waitList (s : State) (p : Fin 24) (w : Option AlignWait) : (s.setWait p w).pins.waitList = s.pins.waitList := rfl
@[simp] theorem State.setWaitList_pins_map (s : State) (l : List RelayEntry) : (s.setWaitList l).pins.map = s.pins.map := rfl
@[simp] theorem State.setWaitList_pins_completed (s : State) (l : List RelayEntry) : (s.setWaitList l).pins.completed = s.pins.completed := rfl
@[simp] theorem State.setWaitList_pins_routed (s : State) (l : List RelayEntry) : (s.setWaitList l).pins.routed = s.pins.routed := rfl
@[simp] theorem State.setWaitList_pins_paths (s : State) (l : List RelayEntry) : (s.setWaitList l).pins.paths = s.pins.paths := rfl
@[simp] theorem State.setWaitList_pins_waits (s : State) (l : List RelayEntry) : (s.setWaitList l).pins.waits = s.pins.waits := rfl
@[simp] theorem State.setWaitList_pins_drive (s : State) (l : List RelayEntry) : (s.setWaitList l).pins.drive = s.pins.drive := rfl
@[simp] theorem State.setDrive_pins_map (s : State) (d : Drive) : (s.setDrive d).pins.map = s.pins.map := rfl
@[simp] theorem State.setDrive_pins_completed (s : State) (d : Drive) : (s.setDrive d).pins.completed = s.pins.completed := rfl
@[simp] theorem State.setDrive_pins_routed (s : State) (d : Drive) : (s.setDrive d).pins.routed = s.pins.routed := rfl
@[simp] theorem State.setDrive_pins_paths (s : State) (d : Drive) : (s.setDrive d).pins.paths = s.pins.paths := rfl
@[simp] theorem State.setDrive_pins_waits (s : State) (d : Drive) : (s.setDrive d).pins.waits = s.pins.waits := rfl
@[simp] theorem State.setDrive_pins_waitList (s : State) (d : Drive) : (s.setDrive d).pins.waitList = s.pins.waitList := rfl
@[simp] theorem State.setWork_run_state (s : State) (l : List WorkItem) : (s.setWork l).run.state = s.run.state := rfl
@[simp] theorem State.setWork_run_endReason (s : State) (l : List WorkItem) : (s.setWork l).run.endReason = s.run.endReason := rfl
@[simp] theorem State.setWork_run_clock (s : State) (l : List WorkItem) : (s.setWork l).run.clock = s.run.clock := rfl
@[simp] theorem State.setWork_run_config (s : State) (l : List WorkItem) : (s.setWork l).run.config = s.run.config := rfl
@[simp] theorem State.setWork_run_flags (s : State) (l : List WorkItem) : (s.setWork l).run.flags = s.run.flags := rfl
@[simp] theorem State.setWork_run_last (s : State) (l : List WorkItem) : (s.setWork l).run.last = s.run.last := rfl
@[simp] theorem State.setWork_run_holdTimer (s : State) (l : List WorkItem) : (s.setWork l).run.holdTimer = s.run.holdTimer := rfl
@[simp] theorem State.setWork_run_begun (s : State) (l : List WorkItem) : (s.setWork l).run.begun = s.run.begun := rfl
@[simp] theorem State.setWork_run_inMicro (s : State) (l : List WorkItem) : (s.setWork l).run.inMicro = s.run.inMicro := rfl
@[simp] theorem State.setWork_run_wrapDue (s : State) (l : List WorkItem) : (s.setWork l).run.wrapDue = s.run.wrapDue := rfl
@[simp] theorem State.setTimer_ntc_pending (s : State) (l : Fin 4) (t : Option Nat) : (s.setTimer l t).ntc.pending = s.ntc.pending := rfl
@[simp] theorem State.setTimer_ntc_enables (s : State) (l : Fin 4) (t : Option Nat) : (s.setTimer l t).ntc.enables = s.ntc.enables := rfl
@[simp] theorem State.setTimer_ntc_runState (s : State) (l : Fin 4) (t : Option Nat) : (s.setTimer l t).ntc.runState = s.ntc.runState := rfl
@[simp] theorem State.setTimer_ntc_runReason (s : State) (l : Fin 4) (t : Option Nat) : (s.setTimer l t).ntc.runReason = s.ntc.runReason := rfl
@[simp] theorem State.setTimer_ntc_channelMask (s : State) (l : Fin 4) (t : Option Nat) : (s.setTimer l t).ntc.channelMask = s.ntc.channelMask := rfl
@[simp] theorem State.setTimer_ntc_guardMask (s : State) (l : Fin 4) (t : Option Nat) : (s.setTimer l t).ntc.guardMask = s.ntc.guardMask := rfl
@[simp] theorem State.setTimer_ntc_faultMask (s : State) (l : Fin 4) (t : Option Nat) : (s.setTimer l t).ntc.faultMask = s.ntc.faultMask := rfl
@[simp] theorem State.setTimer_ntc_threshold (s : State) (l : Fin 4) (t : Option Nat) : (s.setTimer l t).ntc.threshold = s.ntc.threshold := rfl
@[simp] theorem State.setTimer_ntc_routes (s : State) (l : Fin 4) (t : Option Nat) : (s.setTimer l t).ntc.routes = s.ntc.routes := rfl
@[simp] theorem State.setWaitList_pins_waitList (s : State) (l : List RelayEntry) : (s.setWaitList l).pins.waitList = l := rfl
@[simp] theorem State.setWork_run_work (s : State) (l : List WorkItem) : (s.setWork l).run.work = l := rfl
@[simp] theorem State.setDrive_pins_drive (s : State) (d : Drive) : (s.setDrive d).pins.drive = d := rfl

/-! ### What a setter writes is read back -/

@[simp] theorem State.chan_setChan_same (s : State) (n : Fin 16) (c : Channel) : (s.setChan n c).chan n = c := getAt_setAt_same ..
@[simp] theorem State.chan_setChan_other (s : State) (n : Fin 16) (c : Channel) (m : Fin 16) (h' : m ≠ n) : (s.setChan n c).chan m = s.chan m :=
  getAt_setAt_other _ _ _ _ h'
theorem State.chan_setChan (s : State) (n : Fin 16) (c : Channel) (m : Fin 16) : (s.setChan n c).chan m = if m = n then c else s.chan m :=
  getAt_setAt ..
@[simp] theorem State.setChan_setChan_same (s : State) (n : Fin 16) (c : Channel) (y : Channel) :
    (s.setChan n c).setChan n y = s.setChan n y := by simp [State.setChan]
@[simp] theorem State.slot_setSlot_same (s : State) (k : Fin 32) (x : Slot) : (s.setSlot k x).slot k = x := getAt_setAt_same ..
@[simp] theorem State.slot_setSlot_other (s : State) (k : Fin 32) (x : Slot) (j : Fin 32) (h' : j ≠ k) : (s.setSlot k x).slot j = s.slot j :=
  getAt_setAt_other _ _ _ _ h'
theorem State.slot_setSlot (s : State) (k : Fin 32) (x : Slot) (j : Fin 32) : (s.setSlot k x).slot j = if j = k then x else s.slot j :=
  getAt_setAt ..
@[simp] theorem State.setSlot_setSlot_same (s : State) (k : Fin 32) (x : Slot) (y : Slot) :
    (s.setSlot k x).setSlot k y = s.setSlot k y := by simp [State.setSlot]
@[simp] theorem State.holder_setHolder_same (s : State) (t : Fin 45) (h : Option (Fin 32)) : (s.setHolder t h).holder t = h := getAt_setAt_same ..
@[simp] theorem State.holder_setHolder_other (s : State) (t : Fin 45) (h : Option (Fin 32)) (g : Fin 45) (h' : g ≠ t) : (s.setHolder t h).holder g = s.holder g :=
  getAt_setAt_other _ _ _ _ h'
theorem State.holder_setHolder (s : State) (t : Fin 45) (h : Option (Fin 32)) (g : Fin 45) : (s.setHolder t h).holder g = if g = t then h else s.holder g :=
  getAt_setAt ..
@[simp] theorem State.setHolder_setHolder_same (s : State) (t : Fin 45) (h : Option (Fin 32)) (y : Option (Fin 32)) :
    (s.setHolder t h).setHolder t y = s.setHolder t y := by simp [State.setHolder]
@[simp] theorem State.input_setInput_same (s : State) (k : Fin 10) (x : Input) : (s.setInput k x).input k = x := getAt_setAt_same ..
@[simp] theorem State.input_setInput_other (s : State) (k : Fin 10) (x : Input) (i : Fin 10) (h' : i ≠ k) : (s.setInput k x).input i = s.input i :=
  getAt_setAt_other _ _ _ _ h'
theorem State.input_setInput (s : State) (k : Fin 10) (x : Input) (i : Fin 10) : (s.setInput k x).input i = if i = k then x else s.input i :=
  getAt_setAt ..
@[simp] theorem State.setInput_setInput_same (s : State) (k : Fin 10) (x : Input) (y : Input) :
    (s.setInput k x).setInput k y = s.setInput k y := by simp [State.setInput]
@[simp] theorem State.path_setPath_same (s : State) (p : Fin 24) (x : Path) : (s.setPath p x).path p = x := getAt_setAt_same ..
@[simp] theorem State.path_setPath_other (s : State) (p : Fin 24) (x : Path) (q : Fin 24) (h' : q ≠ p) : (s.setPath p x).path q = s.path q :=
  getAt_setAt_other _ _ _ _ h'
theorem State.path_setPath (s : State) (p : Fin 24) (x : Path) (q : Fin 24) : (s.setPath p x).path q = if q = p then x else s.path q :=
  getAt_setAt ..
@[simp] theorem State.setPath_setPath_same (s : State) (p : Fin 24) (x : Path) (y : Path) :
    (s.setPath p x).setPath p y = s.setPath p y := by simp [State.setPath]
@[simp] theorem State.wait_setWait_same (s : State) (p : Fin 24) (w : Option AlignWait) : (s.setWait p w).wait p = w := getAt_setAt_same ..
@[simp] theorem State.wait_setWait_other (s : State) (p : Fin 24) (w : Option AlignWait) (q : Fin 24) (h' : q ≠ p) : (s.setWait p w).wait q = s.wait q :=
  getAt_setAt_other _ _ _ _ h'
theorem State.wait_setWait (s : State) (p : Fin 24) (w : Option AlignWait) (q : Fin 24) : (s.setWait p w).wait q = if q = p then w else s.wait q :=
  getAt_setAt ..
@[simp] theorem State.setWait_setWait_same (s : State) (p : Fin 24) (w : Option AlignWait) (y : Option AlignWait) :
    (s.setWait p w).setWait p y = s.setWait p y := by simp [State.setWait]

/-! ### Raising a notice -/

@[simp] theorem raise_uptime (s : State) (k : NoticeKind) : (raise k s).uptime = s.uptime := rfl
@[simp] theorem raise_run (s : State) (k : NoticeKind) : (raise k s).run = s.run := rfl
@[simp] theorem raise_rot (s : State) (k : NoticeKind) : (raise k s).rot = s.rot := rfl
@[simp] theorem raise_trace (s : State) (k : NoticeKind) : (raise k s).trace = s.trace := rfl
@[simp] theorem raise_chans (s : State) (k : NoticeKind) : (raise k s).chans = s.chans := rfl
@[simp] theorem raise_cap (s : State) (k : NoticeKind) : (raise k s).cap = s.cap := rfl
@[simp] theorem raise_faults (s : State) (k : NoticeKind) : (raise k s).faults = s.faults := rfl
@[simp] theorem raise_pins (s : State) (k : NoticeKind) : (raise k s).pins = s.pins := rfl
@[simp] theorem raise_sup (s : State) (k : NoticeKind) : (raise k s).sup = s.sup := rfl
@[simp] theorem raise_link (s : State) (k : NoticeKind) : (raise k s).link = s.link := rfl
@[simp] theorem raise_pending (s : State) (k : NoticeKind) : (raise k s).pending = s.pending := rfl
@[simp] theorem raise_chan (s : State) (k : NoticeKind) (m : Fin 16) : (raise k s).chan m = s.chan m := rfl
@[simp] theorem raise_slot (s : State) (k : NoticeKind) (j : Fin 32) : (raise k s).slot j = s.slot j := rfl
@[simp] theorem raise_holder (s : State) (k : NoticeKind) (g : Fin 45) : (raise k s).holder g = s.holder g := rfl
@[simp] theorem raise_input (s : State) (k : NoticeKind) (i : Fin 10) : (raise k s).input i = s.input i := rfl
@[simp] theorem raise_path (s : State) (k : NoticeKind) (q : Fin 24) : (raise k s).path q = s.path q := rfl
@[simp] theorem raise_wait (s : State) (k : NoticeKind) (q : Fin 24) : (raise k s).wait q = s.wait q := rfl
@[simp] theorem raise_ntc_enables (s : State) (k : NoticeKind) : (raise k s).ntc.enables = s.ntc.enables := rfl
@[simp] theorem raise_ntc_threshold (s : State) (k : NoticeKind) : (raise k s).ntc.threshold = s.ntc.threshold := rfl
@[simp] theorem raise_ntc_routes (s : State) (k : NoticeKind) : (raise k s).ntc.routes = s.ntc.routes := rfl
@[simp] theorem raise_ntc_timers (s : State) (k : NoticeKind) : (raise k s).ntc.timers = s.ntc.timers := rfl
@[simp] theorem raise_ntc_runState (s : State) (k : NoticeKind) : (raise k s).ntc.runState = s.ntc.runState := rfl
@[simp] theorem raise_ntc_runReason (s : State) (k : NoticeKind) : (raise k s).ntc.runReason = s.ntc.runReason := rfl
@[simp] theorem raise_ntc_channelMask (s : State) (k : NoticeKind) : (raise k s).ntc.channelMask = s.ntc.channelMask := rfl
@[simp] theorem raise_ntc_guardMask (s : State) (k : NoticeKind) : (raise k s).ntc.guardMask = s.ntc.guardMask := rfl
@[simp] theorem raise_ntc_faultMask (s : State) (k : NoticeKind) : (raise k s).ntc.faultMask = s.ntc.faultMask := rfl
@[simp] theorem raiseRun_uptime (s : State) (r : RunState) (e : EndReason) : (raiseRun r e s).uptime = s.uptime := rfl
@[simp] theorem raiseRun_run (s : State) (r : RunState) (e : EndReason) : (raiseRun r e s).run = s.run := rfl
@[simp] theorem raiseRun_rot (s : State) (r : RunState) (e : EndReason) : (raiseRun r e s).rot = s.rot := rfl
@[simp] theorem raiseRun_trace (s : State) (r : RunState) (e : EndReason) : (raiseRun r e s).trace = s.trace := rfl
@[simp] theorem raiseRun_chans (s : State) (r : RunState) (e : EndReason) : (raiseRun r e s).chans = s.chans := rfl
@[simp] theorem raiseRun_cap (s : State) (r : RunState) (e : EndReason) : (raiseRun r e s).cap = s.cap := rfl
@[simp] theorem raiseRun_faults (s : State) (r : RunState) (e : EndReason) : (raiseRun r e s).faults = s.faults := rfl
@[simp] theorem raiseRun_pins (s : State) (r : RunState) (e : EndReason) : (raiseRun r e s).pins = s.pins := rfl
@[simp] theorem raiseRun_sup (s : State) (r : RunState) (e : EndReason) : (raiseRun r e s).sup = s.sup := rfl
@[simp] theorem raiseRun_link (s : State) (r : RunState) (e : EndReason) : (raiseRun r e s).link = s.link := rfl
@[simp] theorem raiseRun_pending (s : State) (r : RunState) (e : EndReason) : (raiseRun r e s).pending = s.pending := rfl
@[simp] theorem raiseRun_chan (s : State) (r : RunState) (e : EndReason) (m : Fin 16) : (raiseRun r e s).chan m = s.chan m := rfl
@[simp] theorem raiseRun_slot (s : State) (r : RunState) (e : EndReason) (j : Fin 32) : (raiseRun r e s).slot j = s.slot j := rfl
@[simp] theorem raiseRun_holder (s : State) (r : RunState) (e : EndReason) (g : Fin 45) : (raiseRun r e s).holder g = s.holder g := rfl
@[simp] theorem raiseRun_input (s : State) (r : RunState) (e : EndReason) (i : Fin 10) : (raiseRun r e s).input i = s.input i := rfl
@[simp] theorem raiseRun_path (s : State) (r : RunState) (e : EndReason) (q : Fin 24) : (raiseRun r e s).path q = s.path q := rfl
@[simp] theorem raiseRun_wait (s : State) (r : RunState) (e : EndReason) (q : Fin 24) : (raiseRun r e s).wait q = s.wait q := rfl
@[simp] theorem raiseRun_ntc_enables (s : State) (r : RunState) (e : EndReason) : (raiseRun r e s).ntc.enables = s.ntc.enables := rfl
@[simp] theorem raiseRun_ntc_threshold (s : State) (r : RunState) (e : EndReason) : (raiseRun r e s).ntc.threshold = s.ntc.threshold := rfl
@[simp] theorem raiseRun_ntc_routes (s : State) (r : RunState) (e : EndReason) : (raiseRun r e s).ntc.routes = s.ntc.routes := rfl
@[simp] theorem raiseRun_ntc_timers (s : State) (r : RunState) (e : EndReason) : (raiseRun r e s).ntc.timers = s.ntc.timers := rfl
@[simp] theorem raiseRun_ntc_channelMask (s : State) (r : RunState) (e : EndReason) : (raiseRun r e s).ntc.channelMask = s.ntc.channelMask := rfl
@[simp] theorem raiseRun_ntc_guardMask (s : State) (r : RunState) (e : EndReason) : (raiseRun r e s).ntc.guardMask = s.ntc.guardMask := rfl
@[simp] theorem raiseRun_ntc_faultMask (s : State) (r : RunState) (e : EndReason) : (raiseRun r e s).ntc.faultMask = s.ntc.faultMask := rfl
@[simp] theorem raiseChannel_uptime (s : State) (n : Fin 16) : (raiseChannel n s).uptime = s.uptime := rfl
@[simp] theorem raiseChannel_run (s : State) (n : Fin 16) : (raiseChannel n s).run = s.run := rfl
@[simp] theorem raiseChannel_rot (s : State) (n : Fin 16) : (raiseChannel n s).rot = s.rot := rfl
@[simp] theorem raiseChannel_trace (s : State) (n : Fin 16) : (raiseChannel n s).trace = s.trace := rfl
@[simp] theorem raiseChannel_chans (s : State) (n : Fin 16) : (raiseChannel n s).chans = s.chans := rfl
@[simp] theorem raiseChannel_cap (s : State) (n : Fin 16) : (raiseChannel n s).cap = s.cap := rfl
@[simp] theorem raiseChannel_faults (s : State) (n : Fin 16) : (raiseChannel n s).faults = s.faults := rfl
@[simp] theorem raiseChannel_pins (s : State) (n : Fin 16) : (raiseChannel n s).pins = s.pins := rfl
@[simp] theorem raiseChannel_sup (s : State) (n : Fin 16) : (raiseChannel n s).sup = s.sup := rfl
@[simp] theorem raiseChannel_link (s : State) (n : Fin 16) : (raiseChannel n s).link = s.link := rfl
@[simp] theorem raiseChannel_pending (s : State) (n : Fin 16) : (raiseChannel n s).pending = s.pending := rfl
@[simp] theorem raiseChannel_chan (s : State) (n : Fin 16) (m : Fin 16) : (raiseChannel n s).chan m = s.chan m := rfl
@[simp] theorem raiseChannel_slot (s : State) (n : Fin 16) (j : Fin 32) : (raiseChannel n s).slot j = s.slot j := rfl
@[simp] theorem raiseChannel_holder (s : State) (n : Fin 16) (g : Fin 45) : (raiseChannel n s).holder g = s.holder g := rfl
@[simp] theorem raiseChannel_input (s : State) (n : Fin 16) (i : Fin 10) : (raiseChannel n s).input i = s.input i := rfl
@[simp] theorem raiseChannel_path (s : State) (n : Fin 16) (q : Fin 24) : (raiseChannel n s).path q = s.path q := rfl
@[simp] theorem raiseChannel_wait (s : State) (n : Fin 16) (q : Fin 24) : (raiseChannel n s).wait q = s.wait q := rfl
@[simp] theorem raiseChannel_ntc_enables (s : State) (n : Fin 16) : (raiseChannel n s).ntc.enables = s.ntc.enables := rfl
@[simp] theorem raiseChannel_ntc_threshold (s : State) (n : Fin 16) : (raiseChannel n s).ntc.threshold = s.ntc.threshold := rfl
@[simp] theorem raiseChannel_ntc_routes (s : State) (n : Fin 16) : (raiseChannel n s).ntc.routes = s.ntc.routes := rfl
@[simp] theorem raiseChannel_ntc_timers (s : State) (n : Fin 16) : (raiseChannel n s).ntc.timers = s.ntc.timers := rfl
@[simp] theorem raiseChannel_ntc_runState (s : State) (n : Fin 16) : (raiseChannel n s).ntc.runState = s.ntc.runState := rfl
@[simp] theorem raiseChannel_ntc_runReason (s : State) (n : Fin 16) : (raiseChannel n s).ntc.runReason = s.ntc.runReason := rfl
@[simp] theorem raiseChannel_ntc_guardMask (s : State) (n : Fin 16) : (raiseChannel n s).ntc.guardMask = s.ntc.guardMask := rfl
@[simp] theorem raiseChannel_ntc_faultMask (s : State) (n : Fin 16) : (raiseChannel n s).ntc.faultMask = s.ntc.faultMask := rfl
@[simp] theorem raiseGuard_uptime (s : State) (n : Fin 16) : (raiseGuard n s).uptime = s.uptime := rfl
@[simp] theorem raiseGuard_run (s : State) (n : Fin 16) : (raiseGuard n s).run = s.run := rfl
@[simp] theorem raiseGuard_rot (s : State) (n : Fin 16) : (raiseGuard n s).rot = s.rot := rfl
@[simp] theorem raiseGuard_trace (s : State) (n : Fin 16) : (raiseGuard n s).trace = s.trace := rfl
@[simp] theorem raiseGuard_chans (s : State) (n : Fin 16) : (raiseGuard n s).chans = s.chans := rfl
@[simp] theorem raiseGuard_cap (s : State) (n : Fin 16) : (raiseGuard n s).cap = s.cap := rfl
@[simp] theorem raiseGuard_faults (s : State) (n : Fin 16) : (raiseGuard n s).faults = s.faults := rfl
@[simp] theorem raiseGuard_pins (s : State) (n : Fin 16) : (raiseGuard n s).pins = s.pins := rfl
@[simp] theorem raiseGuard_sup (s : State) (n : Fin 16) : (raiseGuard n s).sup = s.sup := rfl
@[simp] theorem raiseGuard_link (s : State) (n : Fin 16) : (raiseGuard n s).link = s.link := rfl
@[simp] theorem raiseGuard_pending (s : State) (n : Fin 16) : (raiseGuard n s).pending = s.pending := rfl
@[simp] theorem raiseGuard_chan (s : State) (n : Fin 16) (m : Fin 16) : (raiseGuard n s).chan m = s.chan m := rfl
@[simp] theorem raiseGuard_slot (s : State) (n : Fin 16) (j : Fin 32) : (raiseGuard n s).slot j = s.slot j := rfl
@[simp] theorem raiseGuard_holder (s : State) (n : Fin 16) (g : Fin 45) : (raiseGuard n s).holder g = s.holder g := rfl
@[simp] theorem raiseGuard_input (s : State) (n : Fin 16) (i : Fin 10) : (raiseGuard n s).input i = s.input i := rfl
@[simp] theorem raiseGuard_path (s : State) (n : Fin 16) (q : Fin 24) : (raiseGuard n s).path q = s.path q := rfl
@[simp] theorem raiseGuard_wait (s : State) (n : Fin 16) (q : Fin 24) : (raiseGuard n s).wait q = s.wait q := rfl
@[simp] theorem raiseGuard_ntc_enables (s : State) (n : Fin 16) : (raiseGuard n s).ntc.enables = s.ntc.enables := rfl
@[simp] theorem raiseGuard_ntc_threshold (s : State) (n : Fin 16) : (raiseGuard n s).ntc.threshold = s.ntc.threshold := rfl
@[simp] theorem raiseGuard_ntc_routes (s : State) (n : Fin 16) : (raiseGuard n s).ntc.routes = s.ntc.routes := rfl
@[simp] theorem raiseGuard_ntc_timers (s : State) (n : Fin 16) : (raiseGuard n s).ntc.timers = s.ntc.timers := rfl
@[simp] theorem raiseGuard_ntc_runState (s : State) (n : Fin 16) : (raiseGuard n s).ntc.runState = s.ntc.runState := rfl
@[simp] theorem raiseGuard_ntc_runReason (s : State) (n : Fin 16) : (raiseGuard n s).ntc.runReason = s.ntc.runReason := rfl
@[simp] theorem raiseGuard_ntc_channelMask (s : State) (n : Fin 16) : (raiseGuard n s).ntc.channelMask = s.ntc.channelMask := rfl
@[simp] theorem raiseGuard_ntc_faultMask (s : State) (n : Fin 16) : (raiseGuard n s).ntc.faultMask = s.ntc.faultMask := rfl
@[simp] theorem raiseFault_uptime (s : State) (k : Fin 32) : (raiseFault k s).uptime = s.uptime := rfl
@[simp] theorem raiseFault_run (s : State) (k : Fin 32) : (raiseFault k s).run = s.run := rfl
@[simp] theorem raiseFault_rot (s : State) (k : Fin 32) : (raiseFault k s).rot = s.rot := rfl
@[simp] theorem raiseFault_trace (s : State) (k : Fin 32) : (raiseFault k s).trace = s.trace := rfl
@[simp] theorem raiseFault_chans (s : State) (k : Fin 32) : (raiseFault k s).chans = s.chans := rfl
@[simp] theorem raiseFault_cap (s : State) (k : Fin 32) : (raiseFault k s).cap = s.cap := rfl
@[simp] theorem raiseFault_faults (s : State) (k : Fin 32) : (raiseFault k s).faults = s.faults := rfl
@[simp] theorem raiseFault_pins (s : State) (k : Fin 32) : (raiseFault k s).pins = s.pins := rfl
@[simp] theorem raiseFault_sup (s : State) (k : Fin 32) : (raiseFault k s).sup = s.sup := rfl
@[simp] theorem raiseFault_link (s : State) (k : Fin 32) : (raiseFault k s).link = s.link := rfl
@[simp] theorem raiseFault_pending (s : State) (k : Fin 32) : (raiseFault k s).pending = s.pending := rfl
@[simp] theorem raiseFault_chan (s : State) (k : Fin 32) (m : Fin 16) : (raiseFault k s).chan m = s.chan m := rfl
@[simp] theorem raiseFault_slot (s : State) (k : Fin 32) (j : Fin 32) : (raiseFault k s).slot j = s.slot j := rfl
@[simp] theorem raiseFault_holder (s : State) (k : Fin 32) (g : Fin 45) : (raiseFault k s).holder g = s.holder g := rfl
@[simp] theorem raiseFault_input (s : State) (k : Fin 32) (i : Fin 10) : (raiseFault k s).input i = s.input i := rfl
@[simp] theorem raiseFault_path (s : State) (k : Fin 32) (q : Fin 24) : (raiseFault k s).path q = s.path q := rfl
@[simp] theorem raiseFault_wait (s : State) (k : Fin 32) (q : Fin 24) : (raiseFault k s).wait q = s.wait q := rfl
@[simp] theorem raiseFault_ntc_enables (s : State) (k : Fin 32) : (raiseFault k s).ntc.enables = s.ntc.enables := rfl
@[simp] theorem raiseFault_ntc_threshold (s : State) (k : Fin 32) : (raiseFault k s).ntc.threshold = s.ntc.threshold := rfl
@[simp] theorem raiseFault_ntc_routes (s : State) (k : Fin 32) : (raiseFault k s).ntc.routes = s.ntc.routes := rfl
@[simp] theorem raiseFault_ntc_timers (s : State) (k : Fin 32) : (raiseFault k s).ntc.timers = s.ntc.timers := rfl
@[simp] theorem raiseFault_ntc_runState (s : State) (k : Fin 32) : (raiseFault k s).ntc.runState = s.ntc.runState := rfl
@[simp] theorem raiseFault_ntc_runReason (s : State) (k : Fin 32) : (raiseFault k s).ntc.runReason = s.ntc.runReason := rfl
@[simp] theorem raiseFault_ntc_channelMask (s : State) (k : Fin 32) : (raiseFault k s).ntc.channelMask = s.ntc.channelMask := rfl
@[simp] theorem raiseFault_ntc_guardMask (s : State) (k : Fin 32) : (raiseFault k s).ntc.guardMask = s.ntc.guardMask := rfl

/-! ### The request in work -/

@[simp] theorem respond_uptime (kind : Byte) (r : State × Answer) : (respond kind r).uptime = r.1.uptime := rfl
@[simp] theorem respond_run (kind : Byte) (r : State × Answer) : (respond kind r).run = r.1.run := rfl
@[simp] theorem respond_rot (kind : Byte) (r : State × Answer) : (respond kind r).rot = r.1.rot := rfl
@[simp] theorem respond_trace (kind : Byte) (r : State × Answer) : (respond kind r).trace = r.1.trace := rfl
@[simp] theorem respond_chans (kind : Byte) (r : State × Answer) : (respond kind r).chans = r.1.chans := rfl
@[simp] theorem respond_cap (kind : Byte) (r : State × Answer) : (respond kind r).cap = r.1.cap := rfl
@[simp] theorem respond_faults (kind : Byte) (r : State × Answer) : (respond kind r).faults = r.1.faults := rfl
@[simp] theorem respond_pins (kind : Byte) (r : State × Answer) : (respond kind r).pins = r.1.pins := rfl
@[simp] theorem respond_sup (kind : Byte) (r : State × Answer) : (respond kind r).sup = r.1.sup := rfl
@[simp] theorem respond_ntc (kind : Byte) (r : State × Answer) : (respond kind r).ntc = r.1.ntc := rfl
@[simp] theorem respond_pending (kind : Byte) (r : State × Answer) : (respond kind r).pending = r.1.pending := rfl
@[simp] theorem respond_link_receiver (kind : Byte) (r : State × Answer) : (respond kind r).link.receiver = r.1.link.receiver := rfl
@[simp] theorem respond_link_waiting (kind : Byte) (r : State × Answer) : (respond kind r).link.waiting = r.1.link.waiting := rfl
@[simp] theorem respond_link_address (kind : Byte) (r : State × Answer) : (respond kind r).link.address = r.1.link.address := rfl
@[simp] theorem respond_link_framing (kind : Byte) (r : State × Answer) : (respond kind r).link.framing = r.1.link.framing := rfl
@[simp] theorem respond_link_crc (kind : Byte) (r : State × Answer) : (respond kind r).link.crc = r.1.link.crc := rfl
@[simp] theorem respond_link_overrun (kind : Byte) (r : State × Answer) : (respond kind r).link.overrun = r.1.link.overrun := rfl
@[simp] theorem respond_link_resetDue (kind : Byte) (r : State × Answer) : (respond kind r).link.resetDue = r.1.link.resetDue := rfl
@[simp] theorem respond_link_resetAt (kind : Byte) (r : State × Answer) : (respond kind r).link.resetAt = r.1.link.resetAt := rfl

/-- A plain answer of a request, as the statements write it: the status, the fields, and nothing else changed. -/
theorem respond_answered (kind : Byte) (st : Status) (body : List Byte) (s : State) (h1 : st ≠ .badLength)
    (h2 : st ≠ .unknownKind) :
    respond kind (s, { status := st, body := body }) = Safety.answered kind st body s := by
  cases st <;> first | rfl | contradiction

/-- A request of the wrong length is answered with the status alone. -/
theorem respond_badLength (kind : Byte) (body : List Byte) (s : State) :
    respond kind (s, { status := .badLength, body := body }) = Safety.answered kind .badLength [] s := rfl

end Sys2Proof.Machine
end

