-- ==== Sys2Proof/Laws/Frames.lean ====
section
/-! SUPPORT. What the operations of the run, the slots, the pins and the feeds leave alone: the time, trace memory, the Capture
Unit, the link and the queue of commands, in one view of the state, with one lemma per operation. -/

namespace Sys2Proof.Machine

/-- What no operation of the run, the slots, the pins and the feeds touches. -/
def State.still (s : State) : Nat × Memory × Capture × Link × List Instr :=
  (s.uptime, s.trace, s.cap, s.link, s.pending)

theorem State.still_uptime {s t : State} (h : t.still = s.still) : t.uptime = s.uptime := congrArg (·.1) h
theorem State.still_trace {s t : State} (h : t.still = s.still) : t.trace = s.trace := congrArg (·.2.1) h
theorem State.still_cap {s t : State} (h : t.still = s.still) : t.cap = s.cap := congrArg (·.2.2.1) h
theorem State.still_link {s t : State} (h : t.still = s.still) : t.link = s.link := congrArg (·.2.2.2.1) h
theorem State.still_pending {s t : State} (h : t.still = s.still) : t.pending = s.pending := congrArg (·.2.2.2.2) h

@[simp] theorem still_setChan (n : Fin 16) (c : Channel) (s : State) : (s.setChan n c).still = s.still := rfl
@[simp] theorem still_setSlot (k : Fin 32) (x : Slot) (s : State) : (s.setSlot k x).still = s.still := rfl
@[simp] theorem still_setHolder (t : Fin 45) (h : Option (Fin 32)) (s : State) : (s.setHolder t h).still = s.still := rfl
@[simp] theorem still_setPath (p : Fin 24) (x : Path) (s : State) : (s.setPath p x).still = s.still := rfl
@[simp] theorem still_setWait (p : Fin 24) (w : Option AlignWait) (s : State) : (s.setWait p w).still = s.still := rfl
@[simp] theorem still_setWaitList (l : List RelayEntry) (s : State) : (s.setWaitList l).still = s.still := rfl
@[simp] theorem still_setDrive (d : Drive) (s : State) : (s.setDrive d).still = s.still := rfl
@[simp] theorem still_setTimer (l : Fin 4) (t : Option Nat) (s : State) : (s.setTimer l t).still = s.still := rfl
@[simp] theorem still_raise (k : NoticeKind) (s : State) : (raise k s).still = s.still := rfl
@[simp] theorem still_raiseRun (r : RunState) (e : EndReason) (s : State) : (raiseRun r e s).still = s.still := rfl
@[simp] theorem still_raiseChannel (n : Fin 16) (s : State) : (raiseChannel n s).still = s.still := rfl
@[simp] theorem still_raiseGuard (n : Fin 16) (s : State) : (raiseGuard n s).still = s.still := rfl
@[simp] theorem still_raiseFault (k : Fin 32) (s : State) : (raiseFault k s).still = s.still := rfl

@[simp] theorem still_raiseIf (b : Bool) (k : NoticeKind) (s : State) : (raiseIf b k s).still = s.still := by
  unfold raiseIf; split <;> simp

@[simp] theorem still_pulseEvent (on : Route → Bool) (s : State) : (pulseEvent on s).still = s.still := by
  unfold pulseEvent; exact forEach_view _ _ _ (fun l _ s => by split <;> simp) s

/-! ### Feeds -/

@[simp] theorem still_settleFeeds (s : State) : (settleFeeds s).still = s.still := by simp [settleFeeds, State.still, raiseIf]; split <;> simp
@[simp] theorem still_commandFeeds (b i d : Bool) (s : State) : (commandFeeds b i d s).still = s.still := by
  unfold commandFeeds; rw [still_settleFeeds]; rfl
@[simp] theorem still_setBattDrop (b : Bool) (s : State) : (setBattDrop b s).still = s.still := by
  unfold setBattDrop; rw [still_settleFeeds]; rfl
@[simp] theorem still_setIgnDrop (b : Bool) (s : State) : (setIgnDrop b s).still = s.still := by
  unfold setIgnDrop; rw [still_settleFeeds]; rfl
@[simp] theorem still_driverStage (s : State) : (driverStage s).still = s.still := by
  unfold driverStage; rw [still_settleFeeds]; rfl
@[simp] theorem still_relayCompleted (s : State) : (relayCompleted s).still = s.still := by
  unfold relayCompleted; split <;> simp

/-! ### Releases -/

@[simp] theorem still_setModifier (n : Fin 16) (m : Option ChanMod) (s : State) : (setModifier n m s).still = s.still := rfl
@[simp] theorem still_setCrankMod (m : Option CrankMod) (s : State) : (setCrankMod m s).still = s.still := rfl
@[simp] theorem still_setCamMod (c : Fin 2) (m : Option CamMod) (s : State) : (setCamMod c m s).still = s.still := rfl
@[simp] theorem still_takeAway (a : Action) (s : State) : (takeAway a s).still = s.still := by cases a <;> simp [takeAway]
@[simp] theorem still_clearHolders (k : Fin 32) (s : State) : (clearHolders k s).still = s.still := by
  unfold clearHolders; exact forEach_view _ _ _ (fun t _ s => by split <;> simp) s
@[simp] theorem still_takeHolders (k : Fin 32) (ts : List (Fin 45)) (s : State) : (takeHolders k ts s).still = s.still := by
  unfold takeHolders; exact forEach_view _ _ _ (fun t _ s => by simp) s
@[simp] theorem still_setWork (l : List WorkItem) (s : State) : (s.setWork l).still = s.still := rfl
@[simp] theorem still_relayGrant (s : State) : (relayGrant s).still = s.still := by
  unfold relayGrant; split
  · split <;> simp
  · rfl
@[simp] theorem still_reopenGrant (s : State) : (reopenGrant s).still = s.still := by
  unfold reopenGrant; split <;> rfl
theorem still_regrant (f : State → State) (hf : ∀ s, (f s).still = s.still) (s : State) : (regrant f s).still = s.still := by
  unfold regrant; split
  · rw [still_relayGrant, hf, still_reopenGrant]
  · exact hf s
@[simp] theorem still_handRelay (e : RelayEntry) (s : State) : (handRelay e s).still = s.still :=
  still_regrant (fun s => s.setWaitList (s.pins.waitList ++ [e])) (fun _ => rfl) s
@[simp] theorem still_withdrawApply (k : Fin 32) (s : State) : (withdrawApply k s).still = s.still := rfl
@[simp] theorem still_closeWait (k : Fin 32) (s : State) : (closeWait k s).still = s.still := by
  unfold closeWait; exact forEach_view _ _ _ (fun p _ s => by split <;> simp) s
@[simp] theorem still_toLoaded (k : Fin 32) (s : State) : (toLoaded k s).still = s.still := rfl
@[simp] theorem still_rearm (k : Fin 32) (s : State) : (rearm k s).still = s.still := rfl
@[simp] theorem still_toDone (k : Fin 32) (s : State) : (toDone k s).still = s.still := by
  unfold toDone; dsimp only; split <;> simp
@[simp] theorem still_countRepetition (k : Fin 32) (s : State) : (countRepetition k s).still = s.still := by
  unfold countRepetition; dsimp only; split <;> simp
@[simp] theorem still_releaseDone (k : Fin 32) (s : State) : (releaseDone k s).still = s.still := by
  unfold releaseDone; dsimp only; split <;> simp
@[simp] theorem still_handRelease (k : Fin 32) (s : State) : (handRelease k s).still = s.still := by
  unfold handRelease; split
  · simp
  · split <;> simp
@[simp] theorem still_returnSlot (o : SlotOutcome) (k : Fin 32) (s : State) : (returnSlot o k s).still = s.still := by
  unfold returnSlot; split
  · dsimp only
    split
    all_goals first | (simp; done) | (split <;> simp)
  · rfl
@[simp] theorem still_cancelSlot (k : Fin 32) (s : State) : (cancelSlot k s).still = s.still := by
  unfold cancelSlot; split
  · exact still_regrant _ (still_returnSlot _ k) s
  · simp
@[simp] theorem still_returnGranted (s : State) : (returnGranted s).still = s.still := by
  unfold returnGranted; split <;> simp
@[simp] theorem still_returnSlots (s : State) : (returnSlots s).still = s.still := by
  have h (s : State) : (forEach allSlots (returnSlot .runEnded) s).still = s.still :=
    forEach_view State.still _ _ (fun k _ s => still_returnSlot _ k s) s
  unfold returnSlots; split
  · rw [h, still_returnGranted]
  · exact still_regrant _ h s

/-! ### Entries into STARVED and the run's end -/

@[simp] theorem still_raiseCause (n : Fin 16) (c : CauseSel) (s : State) : (raiseCause n c s).still = s.still := by
  unfold raiseCause; split <;> simp
@[simp] theorem still_starve (n : Fin 16) (v : Nat) (s : State) : (starve n v s).still = s.still := rfl
@[simp] theorem still_enterStarved (n : Fin 16) (v : Nat) (s : State) : (enterStarved n v s).still = s.still := by
  simp [enterStarved]
@[simp] theorem still_sourceEnd (n : Fin 16) (s : State) : (sourceEnd n s).still = s.still := by
  unfold sourceEnd; dsimp only; split <;> simp
@[simp] theorem still_enterEnded (r : EndReason) (s : State) : (enterEnded r s).still = s.still := by
  unfold enterEnded
  dsimp only
  rw [still_returnSlots, forEach_view State.still _ _ (fun n _ s => still_sourceEnd n s)]
  rfl
@[simp] theorem still_endCause (r : EndReason) (s : State) : (endCause r s).still = s.still := by
  unfold endCause; split <;> simp
@[simp] theorem still_runningCause (r : EndReason) (s : State) : (runningCause r s).still = s.still := by
  unfold runningCause; split <;> simp
@[simp] theorem still_disconnectCause (s : State) : (disconnectCause s).still = s.still := by
  unfold disconnectCause; split <;> simp
@[simp] theorem still_drainedTest (s : State) : (drainedTest s).still = s.still := by
  unfold drainedTest; split <;> simp
@[simp] theorem still_underrunCause (s : State) : (underrunCause s).still = s.still := by
  unfold underrunCause; split <;> simp
@[simp] theorem still_profileDrained (s : State) : (profileDrained s).still = s.still := rfl
@[simp] theorem still_handStarved (s : State) : (handStarved s).still = s.still := by simp [handStarved]

/-! ### Holds, applies and firings -/

@[simp] theorem still_enterHeld (s : State) : (enterHeld s).still = s.still := rfl
@[simp] theorem still_skipHold (s : State) : (skipHold s).still = s.still := rfl
@[simp] theorem still_takeHold (s : State) : (takeHold s).still = s.still := by
  unfold takeHold; split
  · split <;> simp
  · rfl
@[simp] theorem still_releaseEvent (e : ReleaseEvent) (s : State) : (releaseEvent e s).still = s.still := by
  unfold releaseEvent; split <;> rfl
@[simp] theorem still_enterActive (k : Fin 32) (o : SlotOutcome) (s : State) : (enterActive k o s).still = s.still := rfl
@[simp] theorem still_conflict (k : Fin 32) (s : State) : (conflict k s).still = s.still := by simp [conflict]
@[simp] theorem still_runAction (k : Fin 32) (s : State) : (runAction k s).still = s.still := by simp [runAction]
@[simp] theorem still_applySwitch (k : Fin 32) (p : Fin 24) (g a : Bool) (s : State) :
    (applySwitch k p g a s).still = s.still := by unfold applySwitch; split <;> simp
@[simp] theorem still_applyRelay (k : Fin 32) (path : RelayPath) (s : State) : (applyRelay k path s).still = s.still := by
  simp [applyRelay]
@[simp] theorem still_proceed (k : Fin 32) (r : FaultRecord) (s : State) : (proceed k r s).still = s.still := by
  unfold proceed; dsimp only; split <;> simp
@[simp] theorem still_applySlot (k : Fin 32) (s : State) : (applySlot k s).still = s.still := by
  unfold applySlot; split
  · rfl
  · split <;> simp
@[simp] theorem still_takeStaged (k : Fin 32) (s : State) : (takeStaged k s).still = s.still := by
  unfold takeStaged; dsimp only; split <;> simp
@[simp] theorem still_fire (k : Fin 32) (s : State) : (fire k s).still = s.still := by
  unfold fire; dsimp only; split
  · simp
  · split <;> simp
@[simp] theorem still_setLate (k : Fin 32) (b : Bool) (s : State) : (setLate k b s).still = s.still := rfl
@[simp] theorem still_markLate (k : Fin 32) (s : State) : (markLate k s).still = s.still := by
  unfold markLate; split <;> simp
@[simp] theorem still_runTrigger (k : Fin 32) (s : State) : (runTrigger k s).still = s.still := by
  unfold runTrigger; split <;> simp
@[simp] theorem still_offerEdge (i : Fin 10) (d : Edge) (k : Fin 32) (s : State) : (offerEdge i d k s).still = s.still := by
  unfold offerEdge; split
  · split
    · split
      · dsimp only; split <;> simp
      · rfl
    · split <;> simp
    all_goals rfl
  · rfl
@[simp] theorem still_followSlot (j k : Fin 32) (s : State) : (followSlot j k s).still = s.still := by
  unfold followSlot; split <;> simp
@[simp] theorem still_setAligned (p : Fin 24) (b : Bool) (s : State) : (setAligned p b s).still = s.still := by
  unfold setAligned; split <;> simp
@[simp] theorem still_offerChange (src : LineSource) (p : Fin 24) (s : State) : (offerChange src p s).still = s.still := by
  unfold offerChange; split <;> simp
@[simp] theorem still_levelChange (src : LineSource) (s : State) : (levelChange src s).still = s.still := by
  unfold levelChange; exact forEach_view _ _ _ (fun p _ s => by simp) s

/-! ### Events of the run -/

@[simp] theorem still_profileEmptied (s : State) : (profileEmptied s).still = s.still := by
  unfold profileEmptied; split <;> simp
@[simp] theorem still_drainAtStart (s : State) : (drainAtStart s).still = s.still := by
  unfold drainAtStart; split
  · simp
  · split <;> simp
@[simp] theorem still_pointEnd (s : State) : (pointEnd s).still = s.still := by
  unfold pointEnd; split
  · rw [still_profileEmptied]; rfl
  · rfl
@[simp] theorem still_starveAtStart (n : Fin 16) (s : State) : (starveAtStart n s).still = s.still := rfl
@[simp] theorem still_flushChannel (n : Fin 16) (f : Bool) (s : State) : (flushChannel n f s).still = s.still := by
  unfold flushChannel; dsimp only
  repeat' split
  all_goals simp
@[simp] theorem still_takeSegment (n : Fin 16) (g : Segment) (l : List Segment) (s : State) :
    (takeSegment n g l s).still = s.still := rfl
@[simp] theorem still_segmentEnd (n : Fin 16) (v : Nat) (s : State) : (segmentEnd n v s).still = s.still := by
  unfold segmentEnd; split <;> simp
@[simp] theorem still_sampleEnd (n : Fin 16) (s : State) : (sampleEnd n s).still = s.still := by
  unfold sampleEnd; split
  · dsimp only
    split
    · rfl
    · split
      · simp
      · split <;> simp
  · rfl
@[simp] theorem still_streamPlay (n : Fin 16) (s : State) : (streamPlay n s).still = s.still := by
  unfold streamPlay; dsimp only; split <;> rfl
@[simp] theorem still_formOutput (n : Fin 16) (s : State) : (formOutput n s).still = s.still := rfl
@[simp] theorem still_offerLine (b : Bool) (n : Fin 16) (s : State) : (offerLine b n s).still = s.still := by
  unfold offerLine; split <;> simp
@[simp] theorem still_halfEnd (n : Fin 16) (s : State) : (halfEnd n s).still = s.still := by
  unfold halfEnd; split <;> simp
@[simp] theorem still_delayEnd (k : Fin 32) (s : State) : (delayEnd k s).still = s.still := by
  unfold delayEnd; split <;> simp
@[simp] theorem still_widthEnd (k : Fin 32) (o : List WorkItem) (s : State) : (widthEnd k o s).still = s.still := by
  unfold widthEnd; split
  · rw [forEach_view State.still _ _ (fun w _ s => by
      unfold widthItem; split
      · split <;> simp
      all_goals simp)]
    simp
  · rfl
@[simp] theorem still_runPulses (s : State) : (runPulses s).still = s.still := by
  unfold runPulses; dsimp only; split <;> simp
@[simp] theorem still_workItem (w : WorkItem) (s : State) : (workItem w s).still = s.still := by
  cases w <;> simp [workItem]
@[simp] theorem still_takeItem (w : WorkItem) (s : State) : (takeItem w s).still = s.still := by
  unfold takeItem; split <;> simp
@[simp] theorem still_finishWork (s : State) : (finishWork s).still = s.still := by
  unfold finishWork
  rw [forEach_view State.still _ _ (fun w _ s => still_workItem w s), still_setWork]
@[simp] theorem still_namedItem (w : WorkItem) (s : State) : (namedItem w s).still = s.still := by
  cases w <;> simp [namedItem]
@[simp] theorem still_takeWork (order : List WorkItem) (s : State) : (takeWork order s).still = s.still := by
  have h := forEach_view State.still (order.takeWhile (fun w => w != .pause)) namedItem (fun w _ s => still_namedItem w s) s
  unfold takeWork
  dsimp only
  split
  · exact h
  · rw [still_finishWork]; exact h
@[simp] theorem still_holdTimeout (s : State) : (holdTimeout s).still = s.still := by
  unfold holdTimeout; split <;> simp
@[simp] theorem still_alignExpire (p : Fin 24) (s : State) : (alignExpire p s).still = s.still := by
  unfold alignExpire; split <;> simp
@[simp] theorem still_setRelayPath (r : RelayPath) (s : State) : (setRelayPath r s).still = s.still := by
  cases r <;> simp [setRelayPath]
@[simp] theorem still_clearRelayPath (r : RelayPath) (s : State) : (clearRelayPath r s).still = s.still := by
  cases r <;> simp [clearRelayPath]
@[simp] theorem still_applyCompleted (e : RelayEntry) (s : State) : (applyCompleted e s).still = s.still := by
  unfold applyCompleted; split <;> simp
@[simp] theorem still_driveSettled (s : State) : (driveSettled s).still = s.still := rfl
@[simp] theorem still_relayApplyComplete (s : State) : (relayApplyComplete s).still = s.still := by
  unfold relayApplyComplete; split <;> simp
@[simp] theorem still_relayReleaseComplete (s : State) : (relayReleaseComplete s).still = s.still := by
  unfold relayReleaseComplete; split <;> simp
@[simp] theorem still_relayRecoveryEnd (s : State) : (relayRecoveryEnd s).still = s.still := by
  unfold relayRecoveryEnd; split <;> simp
@[simp] theorem still_disconnect (s : State) : (disconnect s).still = s.still := by
  have h : (disconnectCause (raise .supply { s with sup := { s.sup with conn := .disconnected } })).still = s.still := by
    rw [still_disconnectCause, still_raise]; rfl
  unfold disconnect
  dsimp only
  split
  · split
    · exact h
    · rw [still_driverStage]; exact h
  · exact h
@[simp] theorem still_readSense (s : State) : (readSense s).still = s.still := by
  unfold readSense; dsimp only; split <;> first | rfl | exact (still_disconnect _).trans rfl

end Sys2Proof.Machine
end

