-- ==== Sys2Proof/Laws/Feeds.lean ====
section
/-! SUPPORT. What each shared operation of the Supply Sequencer does, said once: the feeds and drivers it leaves, the notice it
raises, and that it touches nothing else. -/

namespace Sys2Proof.Machine

theorem settleFeeds_eq (s : State) :
    settleFeeds s = { s with
      sup := s.sup.settled s.uptime
      ntc := if s.sup.changes s.uptime then (raise .supply s).ntc else s.ntc } := by
  unfold settleFeeds raiseIf
  split <;> rfl

@[simp] theorem settleFeeds_sup (s : State) : (settleFeeds s).sup = s.sup.settled s.uptime := by rw [settleFeeds_eq]

theorem settleFeeds_ntc (s : State) :
    (settleFeeds s).ntc = if s.sup.changes s.uptime then (raise .supply s).ntc else s.ntc := by rw [settleFeeds_eq]

/-- What settleFeeds leaves: everything but the Supply Sequencer and the notices. -/
theorem settleFeeds_rest (s : State) : { settleFeeds s with sup := s.sup, ntc := s.ntc } = s := by rw [settleFeeds_eq]

@[simp] theorem settleFeeds_run (s : State) : (settleFeeds s).run = s.run := by rw [settleFeeds_eq]
@[simp] theorem settleFeeds_rot (s : State) : (settleFeeds s).rot = s.rot := by rw [settleFeeds_eq]
@[simp] theorem settleFeeds_chans (s : State) : (settleFeeds s).chans = s.chans := by rw [settleFeeds_eq]
@[simp] theorem settleFeeds_faults (s : State) : (settleFeeds s).faults = s.faults := by rw [settleFeeds_eq]
@[simp] theorem settleFeeds_pins (s : State) : (settleFeeds s).pins = s.pins := by rw [settleFeeds_eq]

@[simp] theorem commandFeeds_sup (b i d : Bool) (s : State) :
    (commandFeeds b i d s).sup = ({ s.sup.command b i s.uptime with drvReq := d } : Supply).settled s.uptime := by
  simp [commandFeeds]

@[simp] theorem setBattDrop_sup (b : Bool) (s : State) :
    (setBattDrop b s).sup = ({ s.sup with battDrop := b } : Supply).settled s.uptime := by simp [setBattDrop]

@[simp] theorem setIgnDrop_sup (b : Bool) (s : State) :
    (setIgnDrop b s).sup = ({ s.sup with ignDrop := b } : Supply).settled s.uptime := by simp [setIgnDrop]

/-- The driver stage drops the request and the drivers, and sets the feed stage (R168). -/
theorem driverStage_sup (s : State) :
    (driverStage s).sup.drvReq = false ∧ (driverStage s).sup.driver = .off
      ∧ (driverStage s).sup.shutdown = .feed (s.uptime + 1000) := by
  simp [driverStage, Supply.settled, Supply.nextDriver, Config.feedStageDelay]

theorem relayCompleted_sup (s : State) (h : s.sup.shutdown ≠ .driver) : relayCompleted s = s := by
  simp [relayCompleted, h]

/-! ### The settled feeds obey R161 to R163 -/

/-- The actual states are those of R161, and the drivers are out of OFF exactly with the battery ON and their request ON. -/
theorem settled_obeys (u : Supply) (now : Nat) :
    (u.settled now).battAct = (u.battCmd && !u.battDrop)
      ∧ (u.settled now).ignAct = (u.ignCmd && (u.settled now).battAct && !u.ignDrop && u.waitDone)
      ∧ ((u.settled now).driver ≠ .off ↔ (u.settled now).battAct = true ∧ u.drvReq = true) := by
  refine ⟨rfl, rfl, ?_⟩
  unfold Supply.settled Supply.nextDriver
  dsimp only
  by_cases h : (u.battery && u.drvReq) = true
  · rw [if_pos h]
    simp only [Bool.and_eq_true] at h
    by_cases hd : u.driver = .off <;> simp [h, hd]
  · rw [if_neg h]
    simpa using h

/-- Settled feeds that keep their conditions settle to themselves, whatever the microsecond. -/
theorem settled_of_obeys (u : Supply) (now : Nat) (hb : u.battAct = u.battery) (hi : u.ignAct = u.ignition)
    (hd : u.driver ≠ .off ↔ u.battAct = true ∧ u.drvReq = true) : u.settled now = u := by
  have hn : u.nextDriver now = u.driver := by
    unfold Supply.nextDriver
    by_cases h : u.driver = .off
    · have : ¬ (u.battAct = true ∧ u.drvReq = true) := fun hh => hd.mpr hh h
      rw [hb] at this
      simp [h, this]
    · have := hd.mp h
      rw [hb] at this
      simp [h, this]
  unfold Supply.settled
  rw [hn, ← hb, ← hi]

/-- The battery-first wait runs exactly while both commands stand ON, and is satisfied only when started (R162). -/
theorem command_wait (u : Supply) (b i : Bool) (now : Nat) (h : u.waitStart.isSome = (u.battCmd && u.ignCmd))
    (hd : u.waitDone = true → u.waitStart.isSome = true) :
    (u.command b i now).waitStart.isSome = (b && i)
      ∧ ((u.command b i now).waitDone = true → (u.command b i now).waitStart.isSome = true) := by
  unfold Supply.command
  cases b <;> cases i <;> cases hb : u.battCmd <;> cases hi : u.ignCmd <;> simp_all

end Sys2Proof.Machine
end

