-- ==== Sys2Proof/Laws/Memory.lean ====
section
/-! SUPPORT. Trace memory: reading after writing, and the canonical form (R48, log entry 5). -/

namespace Sys2Proof.Machine

/-- Below the first address listed an unlisted address reads 0. -/
theorem Memory.read_below {lo a : Nat} {m : Memory} (h : Memory.wfFrom lo m = true) (ha : a < lo) : m.read a = 0 := by
  cases m with
  | nil => rfl
  | cons p rest =>
    obtain ⟨b, x⟩ := p
    simp only [Memory.wfFrom, Bool.and_eq_true, decide_eq_true_eq] at h
    have h1 : a ≠ b := by omega
    have h2 : a < b := by omega
    simp [Memory.read, h1, h2]

theorem Memory.wfFrom_mono {lo hi : Nat} {m : Memory} (h : Memory.wfFrom hi m = true) (hl : lo ≤ hi) :
    Memory.wfFrom lo m = true := by
  cases m with
  | nil => rfl
  | cons p rest =>
    obtain ⟨b, x⟩ := p
    simp only [Memory.wfFrom, Bool.and_eq_true, decide_eq_true_eq] at h ⊢
    exact ⟨⟨⟨by omega, h.1.1.2⟩, h.1.2⟩, h.2⟩

/-- Reading one sample after writing one: the sample written at its address, every other as before. -/
theorem Memory.read_write {lo : Nat} {m : Memory} (h : Memory.wfFrom lo m = true) (a : Nat) (x : Sample) (b : Nat) :
    (m.write a x).read b = if b = a then x else m.read b := by
  induction m generalizing lo with
  | nil =>
    unfold Memory.write
    split
    · next hx => split <;> simp [Memory.read, hx]
    · simp only [Memory.read]; split <;> simp
  | cons p rest ih =>
    obtain ⟨c, y⟩ := p
    simp only [Memory.wfFrom, Bool.and_eq_true, decide_eq_true_eq] at h
    have hr := h.2
    unfold Memory.write
    by_cases h1 : a < c
    · simp only [h1, if_true]
      by_cases hx : x = 0
      · simp only [hx, if_true]
        by_cases hb : b = a
        · have hc : b ≠ c := by omega
          have hc' : b < c := by omega
          simp [Memory.read, hb, h1, show a ≠ c by omega]
        · simp [hb]
      · simp only [hx, if_false, Memory.read]
        by_cases hb : b = a
        · simp [hb]
        · simp only [hb, if_false]
          by_cases hba : b < a
          · simp [hba, show b ≠ c by omega, show b < c by omega]
          · simp [hba]
    · simp only [h1, if_false]
      by_cases h2 : a = c
      · subst h2
        simp only [if_true]
        by_cases hx : x = 0
        · simp only [hx, if_true, Memory.read]
          by_cases hb : b = a
          · simp [hb, Memory.read_below hr (Nat.lt_succ_self a)]
          · by_cases hba : b < a
            · simp [hb, hba, Memory.read_below hr (show b < a + 1 by omega)]
            · simp [hb, hba]
        · simp only [hx, if_false, Memory.read]
          by_cases hb : b = a <;> simp [hb]
      · simp only [h2, if_false, Memory.read]
        by_cases hb : b = c
        · simp [hb, show c ≠ a by omega]
        · by_cases hbc : b < c
          · simp [hb, hbc, show b ≠ a by omega]
          · simp only [hb, hbc, if_false]
            exact ih hr

/-- A write within the memory keeps the canonical form. -/
theorem Memory.write_wfFrom {lo : Nat} {m : Memory} (h : Memory.wfFrom lo m = true) (a : Nat) (x : Sample) (hl : lo ≤ a)
    (ha : a < Config.traceSize) : Memory.wfFrom lo (m.write a x) = true := by
  induction m generalizing lo with
  | nil =>
    unfold Memory.write
    split
    · rfl
    · next hx => simpa [Memory.wfFrom, hl, ha] using hx
  | cons p rest ih =>
    obtain ⟨c, y⟩ := p
    have h0 := h
    simp only [Memory.wfFrom, Bool.and_eq_true, decide_eq_true_eq] at h
    unfold Memory.write
    by_cases h1 : a < c
    · simp only [h1, if_true]
      by_cases hx : x = 0
      · simpa [hx] using h0
      · simp only [hx, if_false, Memory.wfFrom, Bool.and_eq_true, decide_eq_true_eq]
        exact ⟨⟨⟨hl, ha⟩, by simpa using hx⟩, ⟨⟨by omega, h.1.1.2⟩, h.1.2⟩, h.2⟩
    · simp only [h1, if_false]
      by_cases h2 : a = c
      · subst h2
        simp only [if_true]
        by_cases hx : x = 0
        · simpa [hx] using Memory.wfFrom_mono h.2 (show lo ≤ a + 1 by omega)
        · simp only [hx, if_false, Memory.wfFrom, Bool.and_eq_true, decide_eq_true_eq]
          exact ⟨⟨⟨hl, ha⟩, by simpa using hx⟩, h.2⟩
      · simp only [h2, if_false, Memory.wfFrom, Bool.and_eq_true, decide_eq_true_eq]
        exact ⟨⟨⟨h.1.1.1, h.1.1.2⟩, h.1.2⟩, ih h.2 (by omega)⟩

theorem Memory.write_wf {m : Memory} (h : m.wf = true) (a : Nat) (x : Sample) (ha : a < Config.traceSize) :
    (m.write a x).wf = true := Memory.write_wfFrom h a x (Nat.zero_le a) ha

/-- A burst of writes within the memory keeps the canonical form. -/
theorem Memory.writeMany_wf {m : Memory} (h : m.wf = true) (a : Nat) (xs : List Sample)
    (ha : a + xs.length ≤ Config.traceSize) : (m.writeMany a xs).wf = true := by
  induction xs generalizing m a with
  | nil => exact h
  | cons x xs ih =>
    simp only [List.length_cons] at ha
    exact ih (Memory.write_wf h a x (by omega)) (a + 1) (by omega)

end Sys2Proof.Machine
end

