-- ==== Sys2Proof/Laws/Slots.lean ====
section
/-! SUPPORT. What each shared operation of the slots, the holder table, the waits and the wait list does, said once. -/

namespace Sys2Proof.Machine

/-! ### The holder table -/

/-- clearHolders takes the slot off every target and leaves the other holders. -/
theorem clearHolders_holder (k : Fin 32) (s : State) (g : Fin 45) :
    (clearHolders k s).holder g = if s.holder g = some k then none else s.holder g := by
  unfold clearHolders
  refine forEach_at (fun s => s.holder g) (fun h => if h = some k then none else h) g _ _ (mem_allTargets g)
    nodup_allTargets (fun t _ ht s => ?_) (fun s => ?_) s
  · split
    · exact State.holder_setHolder_other _ _ _ _ (Ne.symm ht)
    · rfl
  · split <;> simp_all

/-- takeHolders makes the slot the holder of exactly the targets given. -/
theorem takeHolders_holder (k : Fin 32) (ts : List (Fin 45)) (s : State) (g : Fin 45) :
    (takeHolders k ts s).holder g = if g ∈ ts then some k else s.holder g := by
  unfold takeHolders
  induction ts generalizing s with
  | nil => simp
  | cons t ts ih =>
    rw [forEach_cons, ih]
    by_cases hg : g ∈ ts
    · simp [hg]
    · by_cases hgt : g = t
      · simp [hgt]
      · simp [hg, hgt]

@[simp] theorem clearHolders_slot (k : Fin 32) (s : State) (j : Fin 32) : (clearHolders k s).slot j = s.slot j := by
  unfold clearHolders
  exact forEach_view (fun s => s.slot j) _ _ (fun t _ s => by split <;> simp) s

@[simp] theorem takeHolders_slot (k : Fin 32) (ts : List (Fin 45)) (s : State) (j : Fin 32) :
    (takeHolders k ts s).slot j = s.slot j := by
  unfold takeHolders
  exact forEach_view (fun s => s.slot j) _ _ (fun t _ s => by simp) s

/-- What clearHolders leaves: everything but the table. -/
theorem clearHolders_rest (k : Fin 32) (s : State) :
    ((clearHolders k s).run, (clearHolders k s).rot, (clearHolders k s).chans, (clearHolders k s).pins,
      (clearHolders k s).sup, (clearHolders k s).ntc) = (s.run, s.rot, s.chans, s.pins, s.sup, s.ntc) := by
  unfold clearHolders
  exact forEach_view (fun s : State => (s.run, s.rot, s.chans, s.pins, s.sup, s.ntc)) _ _
    (fun t _ s => by split <;> rfl) s

/-- What takeHolders leaves: everything but the table. -/
theorem takeHolders_rest (k : Fin 32) (ts : List (Fin 45)) (s : State) :
    ((takeHolders k ts s).run, (takeHolders k ts s).rot, (takeHolders k ts s).chans, (takeHolders k ts s).pins,
      (takeHolders k ts s).sup, (takeHolders k ts s).ntc) = (s.run, s.rot, s.chans, s.pins, s.sup, s.ntc) := by
  unfold takeHolders
  exact forEach_view (fun s : State => (s.run, s.rot, s.chans, s.pins, s.sup, s.ntc)) _ (fun t s => s.setHolder t (some k))
    (fun t _ s => rfl) s

/-! ### The alignment waits -/

/-- closeWait drops every wait of the slot and leaves the others. -/
theorem closeWait_wait (k : Fin 32) (s : State) (p : Fin 24) :
    (closeWait k s).wait p = if (s.wait p).any (fun w => w.slot == k) then none else s.wait p := by
  unfold closeWait
  refine forEach_at (fun s => s.wait p) (fun w => if w.any (fun w => w.slot == k) then none else w) p _ _ (mem_allPins p)
    nodup_allPins (fun q _ hq s => ?_) (fun s => ?_) s
  · split
    · exact State.wait_setWait_other _ _ _ _ (Ne.symm hq)
    · rfl
  · split <;> simp_all

@[simp] theorem closeWait_slot (k : Fin 32) (s : State) (j : Fin 32) : (closeWait k s).slot j = s.slot j := by
  unfold closeWait
  exact forEach_view (fun s => s.slot j) _ _ (fun t _ s => by split <;> simp) s

@[simp] theorem closeWait_holder (k : Fin 32) (s : State) (g : Fin 45) : (closeWait k s).holder g = s.holder g := by
  unfold closeWait
  exact forEach_view (fun s => s.holder g) _ _ (fun t _ s => by split <;> simp) s

/-! ### The wait list and the grant (R151, R152) -/

/-- What the relay drive and its wait list do not touch. -/
def State.offDrive (s : State) :
    Run × Rotation × Vector Channel 16 × Faults × Supply × Notices × Vector PinSource 24 × Vector PinSource 24
      × Vector Path 24 × Vector (Option AlignWait) 24 :=
  (s.run, s.rot, s.chans, s.faults, s.sup, s.ntc, s.pins.map, s.pins.routed, s.pins.paths, s.pins.waits)

theorem State.offDrive_run {s t : State} (h : t.offDrive = s.offDrive) : t.run = s.run := congrArg (·.1) h
theorem State.offDrive_faults {s t : State} (h : t.offDrive = s.offDrive) : t.faults = s.faults := congrArg (·.2.2.2.1) h

@[simp] theorem offDrive_setWaitList (l : List RelayEntry) (s : State) : (s.setWaitList l).offDrive = s.offDrive := rfl
@[simp] theorem offDrive_setDrive (d : Drive) (s : State) : (s.setDrive d).offDrive = s.offDrive := rfl

@[simp] theorem offDrive_relayGrant (s : State) : (relayGrant s).offDrive = s.offDrive := by
  unfold relayGrant
  split
  · split <;> rfl
  · rfl

@[simp] theorem offDrive_reopenGrant (s : State) : (reopenGrant s).offDrive = s.offDrive := by
  unfold reopenGrant
  split <;> rfl

/-- A grant chosen anew touches nothing that the change of the list does not. -/
theorem offDrive_regrant (f : State → State) (hf : ∀ s, (f s).offDrive = s.offDrive) (s : State) :
    (regrant f s).offDrive = s.offDrive := by
  unfold regrant
  split
  · rw [offDrive_relayGrant, hf, offDrive_reopenGrant]
  · exact hf s

/-- A grant chosen anew leaves the Run Controller where the change of the list does. -/
theorem regrant_run (f : State → State) (hf : ∀ s, (f s).run = s.run) (s : State) : (regrant f s).run = s.run := by
  unfold regrant
  split
  · rw [State.offDrive_run (offDrive_relayGrant _), hf, State.offDrive_run (offDrive_reopenGrant _)]
  · exact hf s

/-- What a hand-over leaves: everything but the drive and the wait list (R151). -/
@[simp] theorem offDrive_handRelay (e : RelayEntry) (s : State) : (handRelay e s).offDrive = s.offDrive :=
  offDrive_regrant (fun s => s.setWaitList (s.pins.waitList ++ [e])) (fun _ => rfl) s

@[simp] theorem handRelay_run (e : RelayEntry) (s : State) : (handRelay e s).run = s.run :=
  State.offDrive_run (offDrive_handRelay e s)
@[simp] theorem handRelay_slot (e : RelayEntry) (s : State) (j : Fin 32) : (handRelay e s).slot j = s.slot j := by
  unfold State.slot; rw [State.offDrive_faults (offDrive_handRelay e s)]
@[simp] theorem handRelay_holder (e : RelayEntry) (s : State) (g : Fin 45) : (handRelay e s).holder g = s.holder g := by
  unfold State.holder; rw [State.offDrive_faults (offDrive_handRelay e s)]

/-- With no grant of this microsecond to revise, a hand-over joins the list (R151). -/
theorem handRelay_of_closed (e : RelayEntry) (s : State) (h : s.grantOpen = false) :
    handRelay e s = s.setWaitList (s.pins.waitList ++ [e]) := by
  simp [handRelay, regrant, h]

/-! ### Repetitions -/

/-- countRepetition leaves the slot ARMED, DONE or LOADED, as R129 and R115 give. -/
theorem countRepetition_slot_same (k : Fin 32) (s : State) :
    (countRepetition k s).slot k = Safety.counted s.uptime (s.slot k) := by
  unfold countRepetition Safety.counted Reps.count toDone rearm toLoaded
  dsimp only
  rcases hr : (s.slot k).remaining with n | _
  · dsimp only
    by_cases h0 : Reps.finite (n - 1) = Reps.finite 0
    · rcases hs : (s.slot k).staged with _ | r <;> simp [h0]
    · simp [h0]
  · simp

@[simp] theorem countRepetition_slot_other (k : Fin 32) (s : State) (j : Fin 32) (h : j ≠ k) :
    (countRepetition k s).slot j = s.slot j := by
  unfold countRepetition toDone rearm toLoaded
  dsimp only
  split
  · split <;> simp [h]
  · simp [h]

/-- countRepetition touches only its slot, and FAULT when the slot is DONE. -/
theorem countRepetition_rest (k : Fin 32) (s : State) :
    (countRepetition k s).run = s.run ∧ (countRepetition k s).rot = s.rot ∧ (countRepetition k s).chans = s.chans
      ∧ (countRepetition k s).pins = s.pins ∧ (countRepetition k s).sup = s.sup
      ∧ (countRepetition k s).faults.holders = s.faults.holders
      ∧ (countRepetition k s).ntc =
          (if (s.slot k).remaining.count = .finite 0 then (raiseFault k s).ntc else s.ntc) := by
  unfold countRepetition toDone rearm toLoaded
  dsimp only
  split
  · split <;> exact ⟨rfl, rfl, rfl, rfl, rfl, rfl, rfl⟩
  · exact ⟨rfl, rfl, rfl, rfl, rfl, rfl, rfl⟩

/-! ### A release that is done -/

theorem releaseDone_slot_same (k : Fin 32) (s : State) :
    (releaseDone k s).slot k = match (s.slot k).releaseEnd with
      | .rep => Safety.counted s.uptime (s.slot k)
      | .load => { s.slot k with state := .loaded, record := (s.slot k).staged.or (s.slot k).record, staged := none } := by
  unfold releaseDone
  dsimp only
  rw [clearHolders_slot]
  rcases he : (s.slot k).releaseEnd with _ | _
  · dsimp only
    rw [countRepetition_slot_same, clearHolders_slot, State.still_uptime (still_clearHolders k s)]
  · simp [toLoaded, he]

theorem releaseDone_slot_other (k : Fin 32) (s : State) (j : Fin 32) (h : j ≠ k) :
    (releaseDone k s).slot j = s.slot j := by
  unfold releaseDone
  dsimp only
  split
  · simp [h]
  · simp [toLoaded, h]

theorem releaseDone_holder (k : Fin 32) (s : State) (g : Fin 45) :
    (releaseDone k s).holder g = if s.holder g = some k then none else s.holder g := by
  unfold releaseDone
  dsimp only
  rw [← clearHolders_holder]
  split
  · have h := (countRepetition_rest k (clearHolders k s)).2.2.2.2.2.1
    unfold State.holder
    rw [h]
  · simp [toLoaded]

/-! ### The slot's own transition -/

@[simp] theorem enterActive_slot_same (k : Fin 32) (o : SlotOutcome) (s : State) :
    (enterActive k o s).slot k = { s.slot k with state := .active, progress := 0, outcome := o } := by simp [enterActive]

@[simp] theorem enterActive_slot_other (k : Fin 32) (o : SlotOutcome) (s : State) (j : Fin 32) (h : j ≠ k) :
    (enterActive k o s).slot j = s.slot j := by simp [enterActive, h]

/-- A conflict writes the outcome, counts a repetition and raises FAULT; it touches nothing else. -/
theorem conflict_slot_same (k : Fin 32) (s : State) :
    (conflict k s).slot k = Safety.counted s.uptime { s.slot k with outcome := .conflict } := by
  unfold conflict
  rw [countRepetition_slot_same]
  simp

theorem conflict_slot_other (k : Fin 32) (s : State) (j : Fin 32) (h : j ≠ k) : (conflict k s).slot j = s.slot j := by
  unfold conflict
  simp [h]

end Sys2Proof.Machine
end

