-- ==== Sys2Proof/Laws/Runs.lean ====
section
/-! SUPPORT. What holding, releasing and ending a run do, said once, with the pulse events and the capture log. -/

namespace Sys2Proof.Machine

/-! ### Hold and release -/

/-- A hold, in every run state (R31, R39). -/
theorem takeHold_cases (s : State) :
    (s.run.state ≠ .running ∧ takeHold s = s)
      ∨ (s.run.state = .running ∧ s.run.flags.any = true ∧ takeHold s = skipHold s)
      ∨ (s.run.state = .running ∧ s.run.flags.any = false ∧ takeHold s = enterHeld s) := by
  unfold takeHold
  by_cases h : s.run.state = .running <;> by_cases hf : s.run.flags.any = true <;> simp [h, hf]

/-- A release event, in every run state (R33 to R37). -/
theorem releaseEvent_of_held (e : ReleaseEvent) (s : State) (h : s.run.state = .held) :
    releaseEvent e s = raiseRun .running .none { s with run := { s.run with
      state := .running, holdTimer := none
      last := { kind := .released, events := e.only, clock := s.run.clock } } } := by
  simp [releaseEvent, h]

theorem releaseEvent_of_running (e : ReleaseEvent) (s : State) (h : s.run.state = .running) :
    releaseEvent e s = { s with run := { s.run with flags := s.run.flags.set e } } := by
  simp [releaseEvent, h]

theorem releaseEvent_of_neither (e : ReleaseEvent) (s : State) (h : s.run.state ≠ .held) (h' : s.run.state ≠ .running) :
    releaseEvent e s = s := by
  unfold releaseEvent
  split <;> simp_all

/-! ### One slot's return (R131, R133) -/

@[simp] theorem setModifier_slot (n : Fin 16) (m : Option ChanMod) (s : State) (j : Fin 32) :
    (setModifier n m s).slot j = s.slot j := rfl
@[simp] theorem setCrankMod_slot (m : Option CrankMod) (s : State) (j : Fin 32) : (setCrankMod m s).slot j = s.slot j := rfl
@[simp] theorem setCamMod_slot (c : Fin 2) (m : Option CamMod) (s : State) (j : Fin 32) :
    (setCamMod c m s).slot j = s.slot j := rfl

/-- No owner touches the slots, the holders, the run, the waits or the wait list when it takes an action away. -/
theorem takeAway_rest (a : Action) (s : State) :
    (takeAway a s).faults = s.faults ∧ (takeAway a s).run = s.run ∧ (takeAway a s).pins.waits = s.pins.waits
      ∧ (takeAway a s).pins.waitList = s.pins.waitList ∧ (takeAway a s).pins.drive = s.pins.drive
      ∧ (takeAway a s).pins.map = s.pins.map := by
  cases a <;> simp [takeAway, setModifier, setCrankMod, setCamMod, setBattDrop, setIgnDrop, State.setChan, State.setPath]

@[simp] theorem takeAway_slot (a : Action) (s : State) (j : Fin 32) : (takeAway a s).slot j = s.slot j := by
  simp only [State.slot, (takeAway_rest a s).1]

@[simp] theorem withdrawApply_slot (k : Fin 32) (s : State) (j : Fin 32) : (withdrawApply k s).slot j = s.slot j := rfl

@[simp] theorem toLoaded_slot_other (k : Fin 32) (s : State) (j : Fin 32) (h : j ≠ k) : (toLoaded k s).slot j = s.slot j := by
  simp [toLoaded, h]

theorem handRelease_slot_other (k : Fin 32) (s : State) (j : Fin 32) (h : j ≠ k) :
    (handRelease k s).slot j = s.slot j := by
  unfold handRelease
  split
  · exact releaseDone_slot_other k s j h
  · split
    · exact handRelay_slot _ s j
    · rw [releaseDone_slot_other k _ j h, takeAway_slot]

/-- A cancel or the run's end of one slot leaves every other slot. -/
theorem returnSlot_slot_other (o : SlotOutcome) (k : Fin 32) (s : State) (j : Fin 32) (h : j ≠ k) :
    (returnSlot o k s).slot j = s.slot j := by
  unfold returnSlot
  split
  · dsimp only
    split <;> simp [h, handRelease_slot_other]
    split <;> simp [h]
  · rfl

theorem countRepetition_run (k : Fin 32) (s : State) : (countRepetition k s).run = s.run := (countRepetition_rest k s).1

theorem clearHolders_run (k : Fin 32) (s : State) : (clearHolders k s).run = s.run :=
  (Prod.mk.inj (clearHolders_rest k s)).1

theorem closeWait_run (k : Fin 32) (s : State) : (closeWait k s).run = s.run := by
  unfold closeWait
  exact forEach_view (fun s => s.run) _ _ (fun t _ s => by split <;> simp) s

theorem releaseDone_run (k : Fin 32) (s : State) : (releaseDone k s).run = s.run := by
  unfold releaseDone
  dsimp only
  split
  · rw [countRepetition_run, clearHolders_run]
  · simp [toLoaded, clearHolders_run]

theorem handRelease_run (k : Fin 32) (s : State) : (handRelease k s).run = s.run := by
  unfold handRelease
  split
  · exact releaseDone_run k s
  · split
    · exact handRelay_run _ s
    · rw [releaseDone_run, (takeAway_rest _ s).2.1]

/-- A cancel or the run's end of one slot leaves the Run Controller. -/
theorem returnSlot_run (o : SlotOutcome) (k : Fin 32) (s : State) : (returnSlot o k s).run = s.run := by
  unfold returnSlot
  split
  · dsimp only
    split
    all_goals first
      | (simp [toLoaded, clearHolders_run, closeWait_run, handRelease_run]; done)
      | (split <;> simp [toLoaded, clearHolders_run, withdrawApply])
  · rfl

/-! ### The run's end (R44) -/

theorem returnGranted_run (s : State) : (returnGranted s).run = s.run := by
  unfold returnGranted
  split
  · exact returnSlot_run _ _ s
  · rfl
  · rfl

/-- The slots' answer to the run's end leaves the Run Controller. -/
theorem returnSlots_run (s : State) : (returnSlots s).run = s.run := by
  have h (s : State) : (forEach allSlots (returnSlot .runEnded) s).run = s.run :=
    forEach_view (fun s => s.run) _ _ (fun k _ s => returnSlot_run _ k s) s
  unfold returnSlots
  split
  · rw [h, returnGranted_run]
  · exact regrant_run _ h s

theorem sourceEnd_run (n : Fin 16) (s : State) : (sourceEnd n s).run = s.run := by
  unfold sourceEnd raiseCause
  dsimp only
  split
  · split <;> rfl
  · rfl

/-- A channel's source at the run's end (R52, R65). -/
theorem sourceEnd_chan (n : Fin 16) (s : State) (m : Fin 16) :
    (sourceEnd n s).chan m
      = if m = n then { s.chan n with active := none, state := .stopped, held := none } else s.chan m := by
  have h (t : State) (ht : ∀ m, t.chan m = s.chan m) :
      (t.setChan n { t.chan n with active := none, state := .stopped, held := none }).chan m
        = if m = n then { s.chan n with active := none, state := .stopped, held := none } else s.chan m := by
    rw [State.chan_setChan, ht, ht]
  unfold sourceEnd raiseCause
  dsimp only
  split
  · split
    · exact h _ (fun _ => rfl)
    · exact h _ (fun _ => rfl)
  · exact h _ (fun _ => rfl)

/-- The Run Controller at the run's end: ENDED with its reason, the hold timer stopped. -/
theorem enterEnded_run (r : EndReason) (s : State) :
    (enterEnded r s).run = { s.run with state := .ended, endReason := r, holdTimer := none } := by
  unfold enterEnded
  dsimp only
  rw [returnSlots_run, forEach_view (fun s => s.run) _ _ (fun n _ s => sourceEnd_run n s)]
  rfl

theorem endCause_of_run (r : EndReason) (s : State) (h : s.inRun = true) : endCause r s = enterEnded r s := by
  simp [endCause, h]

theorem endCause_of_no_run (r : EndReason) (s : State) (h : s.inRun = false) : endCause r s = s := by
  simp [endCause, h]

/-- An end cause ends the run or does nothing. -/
theorem runningCause_cases (r : EndReason) (s : State) :
    (s.run.state = .running ∧ runningCause r s = enterEnded r s) ∨ (s.run.state ≠ .running ∧ runningCause r s = s) := by
  unfold runningCause
  by_cases h : s.run.state = .running <;> simp [h]

theorem drainedTest_cases (s : State) :
    (s.drainedNow = true ∧ drainedTest s = enterEnded .drained s) ∨ (s.drainedNow = false ∧ drainedTest s = s) := by
  unfold drainedTest
  cases h : s.drainedNow <;> simp

/-- The drain of run microsecond 1: a profile still empty becomes drained and the condition is tested, or only SPEED is raised
where the run has ended; a profile that a push has filled is left alone (R10). -/
theorem drainAtStart_cases (s : State) :
    (s.profileEmpty = false ∧ drainAtStart s = s)
      ∨ (s.profileEmpty = true ∧ s.inRun = true ∧ drainAtStart s = drainedTest (profileDrained s))
      ∨ (s.profileEmpty = true ∧ s.inRun = false ∧ drainAtStart s = raise .speed s) := by
  unfold drainAtStart profileEmptied
  cases h : s.profileEmpty <;> cases hr : s.inRun <;> simp

/-! ### Pulse events (R182) -/

/-- A pulse event sets the timers of its routes to e + 9 and leaves the others. -/
theorem pulseEvent_timer (on : Route → Bool) (s : State) (l : Fin 4) :
    getAt (pulseEvent on s).ntc.timers l
      = if on (getAt s.ntc.routes l) then some (s.uptime + 9) else getAt s.ntc.timers l := by
  unfold pulseEvent
  refine (congrArg (·.1) (forEach_at (fun s => (getAt s.ntc.timers l, getAt s.ntc.routes l, s.uptime))
    (fun v => (if on v.2.1 then some (v.2.2 + 9) else v.1, v.2)) l _ _ (mem_allOutputs l) nodup_allOutputs
    (fun m _ hm s => ?_) (fun s => ?_) s))
  · split
    · simp [State.setTimer, getAt_setAt, Ne.symm hm]
    · rfl
  · split <;> simp_all [State.setTimer, Config.pulseTail]

/-! ### The capture log (R103 to R105) -/

/-- A record is appended, or takes the place of the newest in a full log. -/
theorem writeRecord_log (r : CaptureRecord) (s : State) :
    (writeRecord r s).cap.log = if s.cap.log.length < 512 then s.cap.log ++ [r]
      else s.cap.log.dropLast ++ [{ r with replaced := true }] := by
  unfold writeRecord raiseIf
  by_cases h : s.cap.log.length < Config.captureLog
  · rw [if_pos h, if_pos (show s.cap.log.length < 512 from h)]
    split <;> rfl
  · rw [if_neg h, if_neg (show ¬ s.cap.log.length < 512 from h)]
    rfl

/-- The log never grows past its capacity. -/
theorem writeRecord_length (r : CaptureRecord) (s : State) (h : s.cap.log.length ≤ 512) :
    (writeRecord r s).cap.log.length ≤ 512 := by
  rw [writeRecord_log]
  split
  · simp; omega
  · simp; omega

end Sys2Proof.Machine
end

