-- ==== Sys2Proof/Laws/Time.lean ====
section
/-! SUPPORT. Time: the step, the idle block, the close of a microsecond and the run microsecond, taken apart once. -/

namespace Sys2Proof.Machine

/-- What a step is: the front command on the rest of the queue, or the idle block. -/
theorem step_cases {s t : State} (h : step s = .next t) :
    (∃ c rest, s.pending = c :: rest ∧ exec c { s with pending := rest } = .next t) ∨ (s.pending = [] ∧ t = idle s) := by
  unfold step at h
  split at h
  · next c rest hp => exact .inl ⟨c, rest, hp, h⟩
  · next hp => exact .inr ⟨hp, by simpa using h.symm⟩

/-- With nothing due the microsecond closes at once. -/
theorem closeMicro_of_none {s : State} (h : nextDue s = none) : closeMicro s = s := by
  unfold closeMicro takeAllDue
  rw [h]

/-- What every event that is due keeps, taking all of them keeps. -/
theorem takeAllDue_keeps (P : State → Prop) (h : ∀ c s, isDue c s = true → P s → P (takeDue c s)) (fuel : Nat) (s : State)
    (hs : P s) : P (takeAllDue fuel s) := by
  induction fuel generalizing s with
  | zero => exact hs
  | succ n ih =>
    unfold takeAllDue
    split
    · next c hc =>
      refine ih _ (h c s ?_ hs)
      simpa using List.find?_some hc
    · exact hs

theorem closeMicro_keeps (P : State → Prop) (h : ∀ c s, isDue c s = true → P s → P (takeDue c s)) (s : State) (hs : P s) :
    P (closeMicro s) := takeAllDue_keeps P h 1024 s hs

/-! ### The items of a run microsecond -/

/-- What every item keeps, with the item off the list, taking one keeps. -/
theorem takeItem_keeps (P : State → Prop) (hset : ∀ l s, P s → P (s.setWork l)) (hitem : ∀ w s, P s → P (workItem w s))
    (w : WorkItem) (s : State) (hs : P s) : P (takeItem w s) := by
  unfold takeItem
  split
  · exact hitem w _ (hset _ s hs)
  · exact hs

theorem finishWork_keeps (P : State → Prop) (hset : ∀ l s, P s → P (s.setWork l)) (hitem : ∀ w s, P s → P (workItem w s))
    (s : State) (hs : P s) : P (finishWork s) := by
  unfold finishWork
  exact forEach_keeps P _ _ (fun w _ t ht => hitem w t ht) _ (hset _ s hs)

/-- What the items and the events that can be named keep, RUN_MICROSECOND's items keep, in any order and with any pause. -/
theorem takeWork_keeps (P : State → Prop) (hset : ∀ l s, P s → P (s.setWork l)) (hitem : ∀ w s, P s → P (workItem w s))
    (hdue : ∀ w s, P s → P (namedItem w s)) (order : List WorkItem) (s : State) (hs : P s) : P (takeWork order s) := by
  have h := forEach_keeps P (order.takeWhile (fun w => w != .pause)) namedItem (fun w _ t ht => hdue w t ht) _ hs
  unfold takeWork
  dsimp only
  split
  · exact h
  · exact finishWork_keeps P hset hitem _ h

/-- With nothing left to take there is nothing to finish. -/
theorem finishWork_of_none {s : State} (h : s.run.work = []) : finishWork s = s := by
  unfold finishWork
  rw [h]
  show s.setWork [] = s
  rw [← h]
  rfl

/-- With no pause and nothing named every item is taken in its standing order. -/
@[simp] theorem takeWork_nil (s : State) : takeWork [] s = finishWork s := by simp [takeWork]

/-- A channel's take gives way to a flush where the order names that flush, the channel has a take to make, and the flush
waits in the queue of commands (R63). -/
theorem mem_flushedFirst {order : List WorkItem} {s : State} {n : Fin 16} :
    n ∈ flushedFirst order s ↔ .flush n ∈ order ∧ s.takes n = true ∧ s.flushAhead n = true := by
  have h : n ∈ allChannels := by revert n; decide
  simp [flushedFirst, h, and_assoc]

/-- What a list holds before the first element that fails a test. -/
theorem mem_takeWhile_iff {α : Type} {p : α → Bool} {c : α} (hc : p c = true) (l : List α) :
    c ∈ l.takeWhile p ↔ ∃ before behind, l = before ++ c :: behind ∧ ∀ d ∈ before, p d = true := by
  constructor
  · intro h
    obtain ⟨b, e, he⟩ := List.append_of_mem h
    refine ⟨b, e ++ l.dropWhile p, ?_, fun d hd => ?_⟩
    · rw [← List.cons_append, ← List.append_assoc, ← he, List.takeWhile_append_dropWhile]
    · exact List.all_eq_true.1 (List.all_takeWhile (p := p) (l := l)) d (by simp [he, hd])
  · rintro ⟨b, e, rfl, hb⟩
    rw [List.takeWhile_append_of_pos hb]
    simp [hc]

/-- A SEGMENT-FLUSH of channel n is ahead exactly where one stands in the queue with no RUN_MICROSECOND before it. -/
theorem flushAhead_iff {s : State} {n : Fin 16} : s.flushAhead n = true ↔
    ∃ f before behind, f < 2 ∧ s.pending = before ++ .segmentFlush n.val f :: behind ∧ ∀ o, .runMicrosecond o ∉ before := by
  have hm : ∀ l : List Instr, (∀ d ∈ l, (!isRunMicrosecond d) = true) ↔ ∀ o, .runMicrosecond o ∉ l := fun l =>
    ⟨fun h o ho => by simpa [isRunMicrosecond] using h _ ho, fun h d hd => by
      unfold isRunMicrosecond; split
      · exact absurd hd (h _)
      · rfl⟩
  simp only [State.flushAhead, Bool.or_eq_true, List.contains_iff_mem]
  rw [mem_takeWhile_iff rfl, mem_takeWhile_iff rfl]
  simp only [hm]
  constructor
  · rintro (⟨b, e, h⟩ | ⟨b, e, h⟩)
    · exact ⟨0, b, e, by decide, h⟩
    · exact ⟨1, b, e, by decide, h⟩
  · rintro ⟨f, b, e, hf, h⟩
    match f, hf with
    | 0, _ => exact .inl ⟨b, e, h⟩
    | 1, _ => exact .inr ⟨b, e, h⟩

/-- No take gives way to a flush that the order does not name. -/
theorem flushedFirst_of_none {order : List WorkItem} (h : ∀ n, .flush n ∉ order) (s : State) : flushedFirst order s = [] :=
  List.eq_nil_iff_forall_not_mem.2 (fun n hn => h n (mem_flushedFirst.1 hn).1)

/-! ### Level changes outside RUNNING -/

/-- Outside RUNNING a level change finds no wait to end (R146). -/
theorem levelChange_of_quiet {s : State} (h : s.run.state ≠ .running) (src : LineSource) : levelChange src s = s := by
  unfold levelChange
  exact forEach_id _ _ _ (fun p _ => by simp [offerChange, h])

/-- The beginning of a microsecond moves nothing of the run but its mark of a run microsecond. -/
@[simp] theorem beginMicro_run (s : State) : (beginMicro s).run = { s.run with inMicro := false } := by
  unfold beginMicro
  rw [forEach_view State.run _ _ (fun k _ s => by unfold beginInput; dsimp only; split <;> rfl),
    forEach_view State.run _ beginChannel (fun n _ s => rfl)]

/-- A microsecond that begins outside RUNNING moves nothing in the Pin Matrix by its level changes. -/
theorem quietMicro_of_quiet {s : State} (h : s.run.state ≠ .running) : quietMicro s = beginMicro s := by
  have h : (beginMicro s).run.state ≠ .running := by simpa using h
  unfold quietMicro
  refine forEach_id _ _ _ (fun n _ => ?_)
  generalize (s.chan n).line = b
  generalize beginMicro s = t at h ⊢
  unfold offerLine; split
  · rfl
  · exact levelChange_of_quiet h _

/-! ### RUN_MICROSECOND and the idle block -/

/-- What the events, the beginning of a microsecond, its opening and its items keep, RUN_MICROSECOND keeps. -/
theorem runMicro_keeps (P : State → Prop) (order : List WorkItem)
    (hdue : ∀ c s, isDue c s = true → P s → P (takeDue c s)) (hbegin : ∀ s, P s → P (beginMicro s))
    (hopen : ∀ o old s, s.run.state = .running → P s → P (openMicro o old s)) (hwork : ∀ s, P s → P (takeWork order s)) (s : State)
    (hs : P s) : P (runMicro order s) := by
  have h1 := closeMicro_keeps P hdue s hs
  unfold runMicro
  split
  · dsimp only
    split
    · split
      · unfold nextMicro
        dsimp only
        split
        · next hr => exact hwork _ (hopen _ _ _ hr (hbegin _ h1))
        · next hr => rw [quietMicro_of_quiet (by simpa using hr)]; exact hbegin _ h1
      · exact h1
    · exact hs
  · exact hwork s hs

/-- What the events, the beginning of a microsecond, its opening and its items keep, the idle block keeps. -/
theorem idle_keeps (P : State → Prop) (hdue : ∀ c s, isDue c s = true → P s → P (takeDue c s))
    (hbegin : ∀ s, P s → P (beginMicro s)) (hopen : ∀ o old s, s.run.state = .running → P s → P (openMicro o old s))
    (hitem : ∀ w s, P s → P (takeItem w s)) (hwork : ∀ s, P s → P (takeWork [] s)) (s : State) (hs : P s) : P (idle s) := by
  unfold idle
  split
  · exact hitem _ s hs
  · split
    · next c hc => exact hdue c s (by simpa using List.find?_some hc) hs
    · unfold nextMicro
      dsimp only
      split
      · next hr => exact hwork _ (hopen _ _ _ hr (hbegin _ hs))
      · next hr => rw [quietMicro_of_quiet (by simpa using hr)]; exact hbegin s hs

/-- RUN_MICROSECOND in RUNNING with nothing left to take and nothing due: a microsecond begins, opens and is worked. -/
theorem runMicro_of_quiet {order : List WorkItem} {s : State} (hr : s.run.state = .running) (hw : s.run.work = [])
    (hd : nextDue s = none) :
    runMicro order s = takeWork order (openMicro order s (beginMicro s)) := by
  unfold runMicro
  rw [closeMicro_of_none hd]
  simp [hr, hw, nextMicro]

end Sys2Proof.Machine
end

