-- ==== Sys2Proof/WellFormed.lean ====
section
/-! DEFINITION. Well-formed commands: every request field fits the width section 11.4 gives it, and every counted
list has the length its count calls for (R198). Values that fit their width but not their range are well formed:
the part refuses them (R197). Events carry typed operands and are always well formed. -/

namespace Sys2Proof

/-- The value fits `n` bytes. -/
def fits (n : Nat) (v : Nat) : Bool := v < 256 ^ n

def RawPoint.wf (p : RawPoint) : Bool := fits 3 p.target && fits 3 p.ramp && fits 3 p.hold

def RawEdge.wf (e : RawEdge) : Bool := fits 3 e.angle && fits 1 e.level

def RawRelease.wf (r : RawRelease) : Bool := fits 1 r.enable && fits 1 r.input && fits 1 r.edge

def RawRunConfig.wf (c : RawRunConfig) : Bool :=
  fits 1 c.startMode && fits 1 c.startInput && fits 1 c.startEdge && fits 3 c.startAngle && fits 3 c.startSpeed
    && fits 1 c.options && c.line.wf && c.capture.wf && fits 1 c.timeoutEnable && fits 2 c.timeout

def RawWheel.wf (w : RawWheel) : Bool :=
  fits 1 w.teeth && fits 2 w.offset && fits 2 w.duty && fits 1 w.gapCount && fits 1 w.first0 && fits 1 w.count0
    && fits 1 w.first1 && fits 1 w.count1

def RawChannelConfig.wf (c : RawChannelConfig) : Bool :=
  fits 1 c.channel && fits 1 c.enable && fits 1 c.mode && fits 2 c.rest && fits 1 c.reference && fits 2 c.gmin
    && fits 2 c.gmax && fits 1 c.guardMode && fits 1 c.cause

def RawWindow.wf (w : RawWindow) : Bool :=
  fits 1 w.channel && fits 1 w.window && fits 1 w.enable && fits 3 w.start && fits 3 w.stop && fits 3 w.base
    && fits 2 w.pitch

def RawSegment.wf (g : RawSegment) : Bool :=
  fits 1 g.channel && fits 3 g.base && fits 2 g.length && fits 2 g.period && fits 1 g.rep

def RawInputConfig.wf (c : RawInputConfig) : Bool :=
  fits 1 c.input && fits 1 c.enable && fits 1 c.interval && fits 1 c.edge

def RawRecord.wf (r : RawRecord) : Bool :=
  fits 1 r.action && fits 1 r.target && fits 1 r.partner && decide (-2147483648 ≤ r.value)
    && decide (r.value ≤ 2147483647) && fits 1 r.trigger && fits 6 r.params && fits 1 r.measure && fits 3 r.delay
    && fits 3 r.width && fits 1 r.rep && fits 1 r.flags

/-- Every field fits its width and every counted list agrees with its count. -/
def Instr.wf (c : Instr) : Bool :=
  match c with
  | .status f => fits 1 f
  | .runConfig c => c.wf
  | .wheelSet w => w.wf
  | .camSet cam count edges => fits 1 cam && fits 1 count && edges.length == count && edges.all RawEdge.wf
  | .speedPush count points => fits 1 count && points.length == count && points.all RawPoint.wf
  | .speedFlush f => fits 1 f
  | .traceWrite a n xs => fits 3 a && fits 1 n && xs.length == n
  | .traceRead a n => fits 3 a && fits 1 n
  | .channelConfig c => c.wf
  | .windowSet w => w.wf
  | .segmentPush g => g.wf
  | .segmentFlush ch f => fits 1 ch && fits 1 f
  | .channelRead ch => fits 1 ch
  | .channelSet ch code => fits 1 ch && fits 2 code
  | .captureConfig c => c.wf
  | .lineConfig c => c.wf
  | .captureRead n => fits 1 n
  | .pinMap codes => codes.length == 24 && codes.all (fits 1)
  | .faultLoad slot r => fits 1 slot && r.wf
  | .faultQuery slot => fits 1 slot
  | .supplyConfig m => fits 1 m
  | .supplySet b i d => fits 1 b && fits 1 i && fits 1 d
  | .noticeConfig es t => es.length == 8 && es.all (fits 1) && fits 2 t
  | .triggerRoute l src p => fits 1 l && fits 1 src && fits 3 p
  | .identify | .unitReset | .start | .hold | .resume | .endRun | .clear | .faultArm _ | .faultCancel _
  | .targetQuery | .noticeRead | .frameReceived _ | .brokenCharacter | .characterGapTimeout | .replyStart | .replyEnd
  | .coldReset _ | .warmReset | .initIntervalEnd | .runMicrosecond _ | .speedPointEnd | .sampleSlotEnd _
  | .runClockWrap | .delayElapse _ | .widthElapse _ _ | .holdTimeout | .inputSample _ _ _ | .halfPeriodEnd _
  | .alignmentTimeout _ | .relayGrant | .relayApplyComplete | .relayReleaseComplete | .relayRecoveryEnd | .feedStage
  | .ignitionWaitEnd | .wakeWaitEnd | .connSenseChange _ | .connectionAccepted | .pulseTimerEnd _
  | .addressCharacterReceived _ | .lengthCharacterReceived _ => true

end Sys2Proof
end

