-- ==== Sys2Proof/Tests/Slice0.lean ====
section
/-! SUPPORT. Tests: the well-formedness checks, the reading of requests from bytes written out from chapter 11, the worked
cases of the spec one step at a time, and for each obligation with hypotheses a concrete state that meets them. -/

namespace Sys2Proof.Tests

open Sys2Proof Sys2Proof.Machine Sys2Proof.Safety

-- One declaration at a time: kernel evaluations side by side would each hold a thread of the checking process.
set_option Elab.async false

/-! ### States for the tests -/

/-- The state after a command that answers next. -/
def after (c : Instr) (s : State) : State :=
  match exec c s with
  | .next t => t
  | .fault _ => s
  | .refused _ => s

/-- The reply payload formed for a command. -/
def reply (c : Instr) (s : State) : List Byte := ((after c s).link.inWork.map (·.reply)).getD []

def idleUnit : State := State.reset
def unitIn (r : RunState) : State := { State.reset with run := { State.reset.run with state := r } }
def running : State := unitIn .running
def held : State := unitIn .held
def armed : State := unitIn .armed
def ended : State := { unitIn .ended with run := { (unitIn .ended).run with endReason := .endRequest } }
def atMicro (u : Nat) (s : State) : State := { s with uptime := u }
def withConfig (f : RunConfig → RunConfig) (s : State) : State := { s with run := { s.run with config := f s.run.config } }
def withRot (f : Rotation → Rotation) (s : State) : State := { s with rot := f s.rot }
def withChan (n : Fin 16) (f : Channel → Channel) (s : State) : State := s.setChan n (f (s.chan n))
def withSlot (k : Fin 32) (f : Slot → Slot) (s : State) : State := s.setSlot k (f (s.slot k))
def withInput (k : Fin 10) (f : Input → Input) (s : State) : State := s.setInput k (f (s.input k))
def withSup (f : Supply → Supply) (s : State) : State := { s with sup := f s.sup }
def withLink (f : Link → Link) (s : State) : State := { s with link := f s.link }
def withNtc (f : Notices → Notices) (s : State) : State := { s with ntc := f s.ntc }
def withPins (f : PinMatrix → PinMatrix) (s : State) : State := { s with pins := f s.pins }

def withNtcRoute (l : Fin 4) (r : Route) (s : State) : State :=
  withNtc (fun n => { n with routes := setAt n.routes l r }) s
/-- CONN_SENSE has its reading of this microsecond still to come. -/
def unread (s : State) : State := withSup (fun u => { u with sensed := false }) s

/-- The next run microsecond, opened with its work still to be taken. -/
def opened (s : State) : State := after (.runMicrosecond [.pause]) s

/-- The rest of the run microsecond's work taken. -/
def closed (s : State) : State := after (.runMicrosecond []) s

/-- The record of slot 2 of chapter 6's worked sequence. -/
def recordForce : FaultRecord :=
  { action := .force 13 50, trigger := .angle 9000 none, measure := .angle, delay := 360, width := 1800, rep := 3,
    aligned := false }

def slotWith (st : SlotState) (r : FaultRecord) (x : Slot) : Slot :=
  { x with state := st, record := some r, remaining := .ofRepeat r.rep }

/-- Pin P20 carries capture tap 2, so the level at CAP_IN2 is the line's. -/
def tapped (s : State) : State :=
  withPins (fun p => { p with map := setAt p.map 20 (.tap 2), routed := setAt p.routed 20 (.tap 2) }) s

/-- A running unit at its first run microsecond, one channel out of its guard in STRICT mode: the run ends. -/
def tripping : State :=
  withChan 0 (fun c => { c with enable := true, gmin := 100, restCode := 100, guardMode := .strict }) running

def streaming (c : Channel) : Channel := { c with enable := true, mode := .stream, cause := .starved }

def flagged : State :=
  { running with run := { running.run with flags := { resume := false, line := true, capture := false } } }

/-- Slot 2 armed to hold or end the run at its first microsecond, with no delay. -/
def acting (a : Action) (s : State) : State :=
  withSlot 2 (slotWith .armed { recordForce with action := a, trigger := .atStart, delay := 0, width := 0 }) s

/-! ### Ill-formed terms, one for each check -/

def goodRun : RawRunConfig where
  startMode := 0
  startInput := 0
  startEdge := 0
  startAngle := 1000
  startSpeed := 0
  options := 0
  line := { enable := 0, input := 0, edge := 0 }
  capture := { enable := 0, input := 0, edge := 0 }
  timeoutEnable := 1
  timeout := 50

def wheel60 : RawWheel :=
  { teeth := 60, offset := 0, duty := 300, gapCount := 1, first0 := 58, count0 := 2, first1 := 0, count1 := 0 }

def goodChannel : RawChannelConfig :=
  { channel := 2, enable := 1, mode := 1, rest := 500, reference := 0, gmin := 200, gmax := 4000, guardMode := 0,
    cause := 0 }

def goodWindow : RawWindow :=
  { channel := 7, window := 3, enable := 1, start := 20000, stop := 20999, base := 1048570, pitch := 100 }

def segmentA : RawSegment := { channel := 3, base := 2000, length := 4, period := 250, rep := 2 }

def goodInput : RawInputConfig := { input := 0, enable := 1, interval := 1, edge := 1 }

/-- Slot 2 of the worked sequence of chapter 6 (section 11.7): parameters angle 9,000, cycle 0, ANY 1. -/
def force50 : RawRecord where
  action := 0x12
  target := 37
  partner := 0
  value := 50
  trigger := 1
  params := 9000 + 2 ^ 40
  measure := 1
  delay := 360
  width := 1800
  rep := 3
  flags := 0

theorem test_wf_takes_good_terms :
    ([.status 1, .runConfig goodRun, .wheelSet wheel60, .camSet 1 2 [⟨9000, 1⟩, ⟨45000, 0⟩], .speedPush 1 [⟨16000, 4, 0⟩],
      .traceWrite 10 1 [7], .channelConfig goodChannel, .windowSet goodWindow, .segmentPush segmentA,
      .captureConfig goodInput, .pinMap (List.replicate 24 255), .faultLoad 2 force50, .supplySet 1 1 1,
      .noticeConfig [0, 1, 0, 0, 0, 0, 1, 0] 512, .triggerRoute 0 4 9000] : List Instr).all Instr.wf = true := by decide

theorem test_wf_refuses_wide_fields :
    ([.status 256, .speedFlush 256, .traceRead 16777216 1, .traceRead 0 256, .segmentFlush 256 0, .segmentFlush 0 256,
      .channelRead 256, .channelSet 256 0, .channelSet 0 65536, .captureRead 256, .faultQuery 256, .supplyConfig 256,
      .supplySet 256 0 0, .supplySet 0 256 0, .supplySet 0 0 256, .triggerRoute 256 0 0, .triggerRoute 0 256 0,
      .triggerRoute 0 0 16777216] : List Instr).all (fun c => !c.wf) = true := by decide

theorem test_wf_refuses_counted_lists :
    ([.camSet 0 2 [⟨0, 0⟩], .camSet 256 0 [], .camSet 0 256 (List.replicate 256 ⟨0, 0⟩), .camSet 0 1 [⟨16777216, 0⟩],
      .camSet 0 1 [⟨0, 256⟩], .speedPush 2 [⟨0, 0, 0⟩], .speedPush 256 (List.replicate 256 ⟨0, 0, 0⟩),
      .speedPush 1 [⟨16777216, 0, 0⟩], .speedPush 1 [⟨0, 16777216, 0⟩], .speedPush 1 [⟨0, 0, 16777216⟩],
      .traceWrite 16777216 0 [], .traceWrite 0 2 [1], .traceWrite 0 256 (List.replicate 256 0),
      .pinMap (List.replicate 23 255), .pinMap (256 :: List.replicate 23 255), .noticeConfig [1] 1,
      .noticeConfig [256, 0, 0, 0, 0, 0, 0, 0] 1, .noticeConfig [0, 0, 0, 0, 0, 0, 0, 0] 65536] : List Instr).all
        (fun c => !c.wf) = true := by decide +kernel

theorem test_wf_refuses_runConfig_fields :
    ([{ goodRun with startMode := 256 }, { goodRun with startInput := 256 }, { goodRun with startEdge := 256 },
      { goodRun with startAngle := 16777216 }, { goodRun with startSpeed := 16777216 }, { goodRun with options := 256 },
      { goodRun with line := ⟨256, 0, 0⟩ }, { goodRun with line := ⟨0, 256, 0⟩ }, { goodRun with line := ⟨0, 0, 256⟩ },
      { goodRun with capture := ⟨256, 0, 0⟩ }, { goodRun with capture := ⟨0, 256, 0⟩ },
      { goodRun with capture := ⟨0, 0, 256⟩ }, { goodRun with timeoutEnable := 256 },
      { goodRun with timeout := 65536 }] : List RawRunConfig).all (fun c => !(Instr.runConfig c).wf) = true := by decide

theorem test_wf_refuses_wheel_fields :
    ([{ wheel60 with teeth := 256 }, { wheel60 with offset := 65536 }, { wheel60 with duty := 65536 },
      { wheel60 with gapCount := 256 }, { wheel60 with first0 := 256 }, { wheel60 with count0 := 256 },
      { wheel60 with first1 := 256 }, { wheel60 with count1 := 256 }] : List RawWheel).all
        (fun w => !(Instr.wheelSet w).wf) = true := by decide

theorem test_wf_refuses_channel_fields :
    ([{ goodChannel with channel := 256 }, { goodChannel with enable := 256 }, { goodChannel with mode := 256 },
      { goodChannel with rest := 65536 }, { goodChannel with reference := 256 }, { goodChannel with gmin := 65536 },
      { goodChannel with gmax := 65536 }, { goodChannel with guardMode := 256 },
      { goodChannel with cause := 256 }] : List RawChannelConfig).all (fun c => !(Instr.channelConfig c).wf) = true := by
  decide

theorem test_wf_refuses_window_fields :
    ([{ goodWindow with channel := 256 }, { goodWindow with window := 256 }, { goodWindow with enable := 256 },
      { goodWindow with start := 16777216 }, { goodWindow with stop := 16777216 }, { goodWindow with base := 16777216 },
      { goodWindow with pitch := 65536 }] : List RawWindow).all (fun w => !(Instr.windowSet w).wf) = true := by decide

theorem test_wf_refuses_segment_fields :
    ([{ segmentA with channel := 256 }, { segmentA with base := 16777216 }, { segmentA with length := 65536 },
      { segmentA with period := 65536 }, { segmentA with rep := 256 }] : List RawSegment).all
        (fun g => !(Instr.segmentPush g).wf) = true := by decide

theorem test_wf_refuses_input_fields :
    ([{ goodInput with input := 256 }, { goodInput with enable := 256 }, { goodInput with interval := 256 },
      { goodInput with edge := 256 }] : List RawInputConfig).all
        (fun c => !(Instr.captureConfig c).wf && !(Instr.lineConfig c).wf) = true := by decide

theorem test_wf_refuses_record_fields :
    !(Instr.faultLoad 256 force50).wf
      && ([{ force50 with action := 256 }, { force50 with target := 256 }, { force50 with partner := 256 },
        { force50 with value := 2147483648 }, { force50 with value := -2147483649 }, { force50 with trigger := 256 },
        { force50 with params := 2 ^ 48 }, { force50 with measure := 256 }, { force50 with delay := 16777216 },
        { force50 with width := 16777216 }, { force50 with rep := 256 }, { force50 with flags := 256 }]
          : List RawRecord).all (fun r => !(Instr.faultLoad 2 r).wf) = true := by decide

/-! ### Requests read from their bytes (sections 11.3, 11.4, 11.7; R197, R198, R201) -/

/-- R186: the check value over the characters "123456789". -/
theorem test_crc_of_the_check_string :
    crc16 [0x31, 0x32, 0x33, 0x34, 0x35, 0x36, 0x37, 0x38, 0x39] = 0x29B1 := by decide +kernel

/-- Section 11.7's worked record: 9,000 is 0x2328, 360 is 0x0168, 1,800 is 0x0708. -/
theorem test_reads_the_worked_fault_load :
    parseRequest 0x51 [2, 0x12, 37, 0, 50, 0, 0, 0, 1, 0x28, 0x23, 0, 0, 0, 1, 1, 0x68, 0x01, 0, 0x08, 0x07, 0, 3, 0]
      = .request (.faultLoad 2 force50) := by decide

/-- The action value is signed: 0xFFFFFFFF is −1 (R201). -/
theorem test_reads_a_signed_action_value :
    parseRequest 0x51 [31, 0x11, 24, 0, 0xFF, 0xFF, 0xFF, 0xFF, 0, 0, 0, 0, 0, 0, 0, 0, 0, 0, 0, 0, 0, 0, 1, 0]
      = .request (.faultLoad 31 ⟨0x11, 24, 0, -1, 0, 0, 0, 0, 0, 1, 0⟩) := by decide

theorem test_reads_run_requests :
    parseRequest 0x10 [1, 0, 1, 0xA0, 0x8C, 0, 0x80, 0xBB, 0, 1, 1, 1, 0, 1, 7, 2, 1, 50, 0]
        = .request (.runConfig ⟨1, 0, 1, 36000, 48000, 1, ⟨1, 1, 0⟩, ⟨1, 7, 2⟩, 1, 50⟩)
      ∧ parseRequest 0x11 [] = .request .start ∧ parseRequest 0x12 [] = .request .hold
      ∧ parseRequest 0x13 [] = .request .resume ∧ parseRequest 0x14 [] = .request .endRun
      ∧ parseRequest 0x15 [] = .request .clear := by decide

theorem test_reads_unit_requests :
    parseRequest 0x01 [] = .request .identify ∧ parseRequest 0x02 [1] = .request (.status 1)
      ∧ parseRequest 0x03 [] = .request .unitReset := by decide

/-- 300 is 0x012C; 9,000 is 0x2328; 45,000 is 0xAFC8; 16,000 is 0x3E80. -/
theorem test_reads_rotation_requests :
    parseRequest 0x20 [60, 0, 0, 0x2C, 0x01, 1, 58, 2, 0, 0] = .request (.wheelSet wheel60)
      ∧ parseRequest 0x21 [1, 2, 0x28, 0x23, 0, 1, 0xC8, 0xAF, 0, 0]
          = .request (.camSet 1 2 [⟨9000, 1⟩, ⟨45000, 0⟩])
      ∧ parseRequest 0x22 [1, 0x80, 0x3E, 0, 4, 0, 0, 5, 0, 0] = .request (.speedPush 1 [⟨16000, 4, 5⟩])
      ∧ parseRequest 0x23 [1] = .request (.speedFlush 1) := by decide

/-- 2,000 is 0x07D0; 1,048,570 is 0x0FFFFA; 20,999 is 0x5207; 4,000 is 0x0FA0. -/
theorem test_reads_trace_and_channel_requests :
    parseRequest 0x30 [0xFA, 0xFF, 0x0F, 2, 0x34, 0x12, 1, 0] = .request (.traceWrite 1048570 2 [0x1234, 1])
      ∧ parseRequest 0x31 [0xD0, 0x07, 0, 120] = .request (.traceRead 2000 120)
      ∧ parseRequest 0x32 [2, 1, 1, 0xF4, 0x01, 0, 0xC8, 0, 0xA0, 0x0F, 0, 0] = .request (.channelConfig goodChannel)
      ∧ parseRequest 0x33 [7, 3, 1, 0x20, 0x4E, 0, 0x07, 0x52, 0, 0xFA, 0xFF, 0x0F, 100, 0]
          = .request (.windowSet goodWindow)
      ∧ parseRequest 0x34 [3, 0xD0, 0x07, 0, 4, 0, 250, 0, 2] = .request (.segmentPush segmentA)
      ∧ parseRequest 0x35 [3, 1] = .request (.segmentFlush 3 1) ∧ parseRequest 0x36 [15] = .request (.channelRead 15)
      ∧ parseRequest 0x37 [12, 0xFF, 0xFF] = .request (.channelSet 12 65535) := by decide

theorem test_reads_capture_requests :
    parseRequest 0x40 [0, 1, 1, 1] = .request (.captureConfig goodInput) ∧ parseRequest 0x41 [16] = .request (.captureRead 16)
      ∧ parseRequest 0x42 [1, 1, 16, 2]
          = .request (.lineConfig { input := 1, enable := 1, interval := 16, edge := 2 }) := by decide

/-- Slot k is bit k, slots 0..7 in the first byte. -/
theorem test_reads_pin_and_slot_requests :
    parseRequest 0x50 (0x10 :: 0x20 :: List.replicate 22 0xFF) = .request (.pinMap (0x10 :: 0x20 :: List.replicate 22 255))
      ∧ parseRequest 0x52 [0x04, 0, 0, 0x80] = .request (.faultArm 0x80000004)
      ∧ parseRequest 0x53 [0, 1, 0, 0] = .request (.faultCancel 0x100)
      ∧ parseRequest 0x54 [31] = .request (.faultQuery 31) ∧ parseRequest 0x55 [] = .request .targetQuery := by decide

theorem test_reads_supply_and_notice_requests :
    parseRequest 0x60 [1] = .request (.supplyConfig 1) ∧ parseRequest 0x61 [1, 0, 1] = .request (.supplySet 1 0 1)
      ∧ parseRequest 0x70 [0, 1, 0, 0, 0, 0, 1, 0, 0, 1] = .request (.noticeConfig [0, 1, 0, 0, 0, 0, 1, 0] 256)
      ∧ parseRequest 0x71 [] = .request .noticeRead
      ∧ parseRequest 0x72 [3, 4, 0x28, 0x23, 0] = .request (.triggerRoute 3 4 9000) := by decide

theorem test_refuses_unknown_kinds_and_bad_lengths :
    parseRequest 0x04 [] = .unknownKind ∧ parseRequest 0x80 [] = .unknownKind ∧ parseRequest 0x02 [] = .badLength
      ∧ parseRequest 0x11 [0] = .badLength ∧ parseRequest 0x22 [2, 0x80, 0x3E, 0, 4, 0, 0, 5, 0, 0] = .badLength
      ∧ parseRequest 0x30 [0, 0, 0] = .badLength ∧ parseRequest 0x50 [0] = .badLength := by decide

/-- No row of spec/opcode_table.json gives bits, so no table word spells a command. -/
theorem test_no_table_word_spells_a_command : decodeTableWord 8 0x11 = none := by decide

/-! ### Rotation (chapter 1) -/

/-- Chapter 1, advance: run microsecond 4 of the worked case, reaching S 16,000, A 80,120,000 and θ 1001, which is hit. -/
theorem test_run_microsecond_four :
    let s := withRot (fun r => { r with acc := 80072000, speed := 12000, prevTheta := 1000,
                                        active := some { point := ⟨16000, 4, 0⟩, s0 := 0, k := 3 } }) running
    let t := after (.runMicrosecond []) s
    t.rot.speed = 16000 ∧ t.rot.acc = 80120000 ∧ t.theta = 1001 ∧ t.hit 1001 = true ∧ t.hit 1000 = false
      ∧ t.run.clock = 1 := by
  decide +kernel

/-- Chapter 1, wrap: A 5,759,800,000 at full speed goes to 376,000, θ 4, C 42, with seven angles in the sweep. -/
theorem test_run_microsecond_wraps :
    let t := after (.runMicrosecond [])
      (withRot (fun r => { r with acc := 5759800000, speed := 192000, cycle := 41 }) running)
    t.rot.acc = 376000 ∧ t.theta = 4 ∧ t.rot.cycle = 42 ∧ t.rot.cycleEvent = true ∧ t.sweepSize = 7
      ∧ t.hit 71998 = true ∧ t.hit 4 = true ∧ t.hit 5 = false ∧ t.hit 71997 = false := by
  decide +kernel

/-- R13's example: T 60, O 0, D 300 and a gap of teeth 58 and 59; and tooth 10 dropped at 6,000. -/
theorem test_crank_level_examples :
    let w := wheelStored wheel60
    w.level none 1001 = false ∧ w.level none 34800 = false ∧ w.level none 35999 = false ∧ w.level none 6000 = true
      ∧ w.level (some (.toothDrop 10)) 6000 = false ∧ w.level none 6300 = false ∧ w.level none 42000 = true := by
  decide

/-- Chapter 1: a CAM_SHIFT of +1,000 on {(9,000, high), (45,000, low)} at θ 9,500, 10,000, 46,000 and 500. -/
theorem test_cam_shift_examples :
    let es : List CamEdge := [⟨9000, true⟩, ⟨45000, false⟩]
    camLevel es none 9500 = true ∧ camLevel es (some (.shift 1000)) 9500 = false
      ∧ camLevel es (some (.shift 1000)) 10000 = true ∧ camLevel es (some (.shift 1000)) 46000 = false
      ∧ camLevel es (some (.shift 1000)) 500 = false := by decide

/-- R12: D 592 is the longest duty at T 60; 593 is BAD_FIELD and stores nothing. -/
theorem test_wheel_set :
    (after (.wheelSet { wheel60 with duty := 592 }) idleUnit).rot.wheel = ⟨60, 0, 592, [⟨58, 2⟩]⟩
      ∧ reply (.wheelSet { wheel60 with duty := 593 }) idleUnit = [0x12]
      ∧ (after (.wheelSet { wheel60 with duty := 593 }) idleUnit).rot.wheel = .cleared := by decide +kernel

/-- R15: the first and last edge lie 8 apart across the wrap; 7 apart is BAD_FIELD. -/
theorem test_cam_set :
    getAt (after (.camSet 1 2 [⟨4, 1⟩, ⟨71996, 0⟩]) idleUnit).rot.cams 1 = [⟨4, true⟩, ⟨71996, false⟩]
      ∧ reply (.camSet 1 2 [⟨4, 1⟩, ⟨71997, 0⟩]) idleUnit = [0x12] := by decide +kernel

/-- R8: a target above 192,000 is stored as 192,000 with CLAMPED, in any run state. -/
theorem test_speed_push :
    reply (.speedPush 1 [⟨200000, 0, 5⟩]) running = [0x01, 1]
      ∧ (after (.speedPush 1 [⟨200000, 0, 5⟩]) running).rot.queue = [⟨192000, 0, 5⟩]
      ∧ reply (.speedPush 0 []) running = [0x12, 0] := by decide +kernel

/-- R9: the queue and, with the flag, the active point go; the reply counts both. -/
theorem test_speed_flush :
    let s := withRot (fun r => { r with queue := [⟨1, 1, 1⟩, ⟨2, 2, 2⟩], active := some ⟨⟨3, 3, 3⟩, 0, 1⟩ }) idleUnit
    reply (.speedFlush 1) s = [0, 2, 1] ∧ reply (.speedFlush 0) s = [0, 2, 0]
      ∧ (after (.speedFlush 1) s).rot.active = none ∧ (after (.speedFlush 0) s).rot.active.isSome = true := by
  decide +kernel

/-- R10, R43: with an empty queue at run microsecond 1 and end on drain set, a push taken first leaves the profile not drained,
with no SPEED and the run going on; with the drain first the run ends with DRAINED at clock 1 and SPEED stands. -/
theorem test_push_and_drain_at_run_microsecond_1 :
    let s := withConfig (fun c => { c with endOnDrain := true })
      { running with run := { running.run with begun := false, clock := 0 } }
    let opened := after (.runMicrosecond [.pause]) s
    let pushed := after (.runMicrosecond []) (after (.speedPush 1 [⟨16000, 0, 5⟩]) opened)
    let drained := after (.runMicrosecond []) opened
    opened.run.clock = 1 ∧ opened.isPending .speed = false
      ∧ pushed.run.state = .running ∧ pushed.isPending .speed = false ∧ pushed.rot.drained = false
      ∧ drained.run.state = .ended ∧ drained.run.endReason = .drained ∧ drained.run.clock = 1
      ∧ drained.isPending .speed = true ∧ drained = after (.runMicrosecond []) s := by decide +kernel

/-- R6 and R10: the last point ends after max(1, N + H) run microseconds and the profile is drained with SPEED raised. -/
theorem test_speed_point_end :
    let s := fun k => withRot (fun r => { r with active := some ⟨⟨16000, 4, 0⟩, 0, k⟩ }) running
    (after .speedPointEnd (s 4)).rot.drained = true ∧ (after .speedPointEnd (s 4)).isPending .speed = true
      ∧ (after .speedPointEnd (s 3)).rot.active.isSome = true := by decide +kernel

/-! ### Run control (chapter 2) -/

theorem test_run_config :
    (after (.runConfig { goodRun with startSpeed := 200000, options := 3 }) idleUnit).run.config.startSpeed = 192000
      ∧ reply (.runConfig { goodRun with startSpeed := 200000 }) idleUnit = [0x01]
      ∧ reply (.runConfig { goodRun with timeout := 0 }) idleUnit = [0x12]
      ∧ reply (.runConfig goodRun) running = [0x13] := by decide +kernel

/-- R28 with the worked start: θ 36,000, C 0, S 48,000 and the run ARMED on the trigger input. -/
theorem test_start :
    let s := withConfig (fun c => { c with startMode := .line, startAngle := 36000, startSpeed := 48000 }) idleUnit
    (after .start s).run.state = .armed ∧ (after .start s).theta = 36000 ∧ (after .start s).rot.speed = 48000
      ∧ reply .start running = [0x13, 2] := by decide +kernel

/-- Chapter 2, early release: the second HOLD enters HELD with a timer of 50 ms of uptime. -/
theorem test_hold_enters :
    let s := atMicro 4000000 (withConfig (fun c => { c with timeoutEnable := true, timeout := 50 }) running)
    (after .hold s).run.state = .held ∧ (after .hold s).run.holdTimer = some 4050000
      ∧ (after .hold s).ntc.runState = .held ∧ reply .hold s = [0, 3] := by decide +kernel

/-- Chapter 2, early release: the first HOLD is skipped on the RESUME flag, at run clock 3,500,000. -/
theorem test_hold_skips :
    let s : State := { running with run := { running.run with
      clock := 3500000, flags := { resume := true, line := false, capture := false } } }
    (after .hold s).run.state = .running ∧ (after .hold s).run.flags = .clear
      ∧ (after .hold s).run.last = ⟨.skipped, ⟨true, false, false, false⟩, 3500000⟩ ∧ reply .hold s = [2, 2] := by
  decide +kernel

/-- R39: after a HOLD taken first, the HOLD_RUN of the same run microsecond does nothing but count its repetition. -/
theorem test_hold_before_hold_run :
    let t := closed (after .hold (opened (acting .holdRun running)))
    t.run.state = .held ∧ (t.slot 2).remaining = .finite 2 := by decide +kernel

theorem test_resume :
    (after .resume held).run.state = .running ∧ (after .resume held).run.last.kind = .released
      ∧ (after .resume running).run.flags.resume = true ∧ reply .resume armed = [0x13, 1] := by decide +kernel

/-- R38: a release taken before the HOLD_RUN of the same run microsecond is pending, and the hold is skipped; taken after
it, it releases the hold. -/
theorem test_release_before_hold_run :
    let s := opened (acting .holdRun running)
    (closed (after .resume s)).run.state = .running ∧ (closed (after .resume s)).run.last.kind = .skipped
      ∧ (closed s).run.state = .held ∧ (after .resume (closed s)).run.last.kind = .released := by decide +kernel

theorem test_hold_timeout :
    let s := fun u => atMicro u { held with run := { held.run with holdTimer := some 4050000, clock := 4000000 } }
    (after .holdTimeout (s 4050000)).run.last = ⟨.released, ⟨false, false, false, true⟩, 4000000⟩
      ∧ (after .holdTimeout (s 4049999)).run.state = .held := by decide +kernel

/-- R40, R41: END ends an armed run with END_REQUEST; the reason of an ended run stays. -/
theorem test_end :
    (after .endRun armed).run.endReason = .endRequest ∧ (after .endRun armed).ntc.runState = .ended
      ∧ reply .endRun ended = [0x13, 4] := by decide +kernel

/-- R41, R42: END or HOLD taken before the GUARD cause of the same run microsecond goes first; else the cause ends the run. -/
theorem test_end_before_guard :
    let s := opened tripping
    (closed (after .endRun s)).run.endReason = .endRequest ∧ (closed (after .hold s)).run.state = .held
      ∧ (closed s).run.endReason = .guardTrip := by decide +kernel

theorem test_clear :
    (after .clear ended).run.state = .idle ∧ (after .clear ended).run.endReason = .none
      ∧ reply .clear held = [0x13, 3] := by decide +kernel

/-! ### Trace memory and sources (chapter 3) -/

theorem test_trace_write :
    (after (.traceWrite 1048574 2 [7, 0]) running).trace = [(1048574, 7)]
      ∧ reply (.traceWrite 1048575 2 [7, 8]) running = [0x12, 0, 0, 0, 0] := by decide +kernel

theorem test_trace_read :
    let s : State := { running with trace := [(10, 0x1234)] }
    reply (.traceRead 10 2) s = [0, 10, 0, 0, 2, 0x34, 0x12, 0, 0] ∧ reply (.traceRead 10 121) s = [0x12, 10, 0, 0, 0] := by
  decide +kernel

/-- R85, R86: half scale of 5 V and of VSENS; outside its span VSENS drives the output no further than the analog supply. -/
theorem test_output_volts :
    outputVolts .internal 6 5 2048 = 5 / 2 ∧ outputVolts .ratio (11 / 2) 5 4095 = 11 / 2 * 4095 / 4096
      ∧ outputVolts .ratio 6 5 4095 = 5 ∧ outputVolts .ratio 6 5 2048 = 3 ∧ outputVolts .ratio 4 5 2048 = 2 := by
  decide +kernel

theorem test_channel_set :
    ((after (.channelSet 11 4095) running).chan 11).constCode = 4095 ∧ reply (.channelSet 11 4096) running = [0x12, 0, 0]
      ∧ reply (.channelSet 12 65535) running = [0, 0xFF, 0xFF] := by decide +kernel

theorem test_window_set :
    getAt ((after (.windowSet goodWindow) idleUnit).chan 7).windows 3 = ⟨true, 20000, 20999, 1048570, 100⟩
      ∧ reply (.windowSet { goodWindow with pitch := 7201 }) idleUnit = [0x12] := by decide +kernel

/-- Chapter 3, coverage: at θ 500 windows 0 and 1 cover and window 0 supplies address 10,750. -/
theorem test_window_addresses :
    let w0 : Window := ⟨true, 35000, 1000, 10000, 50⟩
    let w3 : Window := ⟨true, 20000, 20999, 1048570, 100⟩
    w0.covers 500 = true ∧ w0.address 500 = 10750 ∧ w0.covers 1001 = false ∧ w0.covers 34999 = false
      ∧ w3.covers 20999 = true ∧ w3.covers 21000 = false := by decide

theorem test_segment_push :
    let s := withChan 3 streaming running
    ((after (.segmentPush segmentA) s).chan 3).queue = [⟨2000, 4, 250, 2⟩] ∧ reply (.segmentPush segmentA) s = [0, 1]
      ∧ reply (.segmentPush { segmentA with channel := 4 }) s = [0x12, 0] := by decide +kernel

theorem test_segment_flush :
    let s := withChan 3 (fun c => { streaming c with queue := [⟨2000, 4, 250, 2⟩], source := 9,
                                                     active := some ⟨⟨5000, 3, 1000, 0⟩, 1, 0, 10, 9, .slot⟩ }) running
    reply (.segmentFlush 3 1) s = [0, 1, 1] ∧ ((after (.segmentFlush 3 1) s).chan 3).state = .starved
      ∧ ((after (.segmentFlush 3 1) s).chan 3).held = some 9 ∧ ((after (.segmentFlush 3 0) s).chan 3).active.isSome = true := by
  decide +kernel

/-- Channel 3 STARVED with a segment queued, in a run that would end with DRAINED without it. -/
def takable : State :=
  let s := withChan 3 (fun c => { streaming c with queue := [⟨2000, 4, 250, 2⟩], state := .starved, held := some 9 }) running
  withConfig (fun c => { c with endOnDrain := true }) (withRot (fun r => { r with drained := true })
    { s with trace := [(2000, 7)], run := { s.run with begun := true, clock := 40 } })

/-- R63, R43: the flush before the take of run microsecond 41 leaves the channel STARVED with its held value, and the drained run
ends at clock 41. Where no such flush waits in the queue the take is made in 41 with its first sample, whatever the order
names, and a flush that comes after it leaves the segment playing. -/
theorem test_flush_before_the_take :
    let waiting : State := { takable with pending := [.noticeRead, .segmentFlush 3 0] }
    let t := after (.runMicrosecond [.flush 3, .pause]) waiting
    let u := after (.segmentFlush 3 0) t
    (t.chan 3).state = .starved ∧ (t.chan 3).source = 9 ∧ reply (.segmentFlush 3 0) t = [0, 1, 0]
      ∧ u.run.state = .ended ∧ u.run.endReason = .drained ∧ u.run.clock = 41
      ∧ ((after (.runMicrosecond [.flush 3, .pause]) takable).chan 3).source = 7
      ∧ (after (.segmentFlush 3 0) (after (.runMicrosecond [.pause]) waiting)).run.state = .running := by decide +kernel

/-- R63, R56: a flush before the take of run microsecond 1: the channel enters STARVED there with its rest value, and with stop on
underrun set the entry ends the run with UNDERRUN at clock 1; without the item the head is taken. -/
theorem test_flush_before_the_first_take :
    let s := withChan 3 (fun c => { streaming c with queue := [⟨2000, 4, 250, 2⟩], restCode := 5 }) running
    let queued := fun s : State => { withConfig (fun c => { c with stopOnUnderrun := true }) s with pending := [.segmentFlush 3 0] }
    let u := after (.segmentFlush 3 0) (after (.runMicrosecond [.flush 3, .pause]) (queued s))
    (u.chan 3).state = .starved ∧ (u.chan 3).source = 5 ∧ (u.chan 3).held = some 5 ∧ u.run.state = .running
      ∧ (closed u).run.endReason = .underrun ∧ (closed u).run.clock = 1 ∧ (closed u).ntc.channelMask = 8
      ∧ ((after (.runMicrosecond [.pause]) (queued s)).chan 3).state = .playing := by decide +kernel

/-- R89: a pulse line that goes to a new rest level at run microsecond 1 is offered as a level change. -/
theorem test_rest_level_is_offered :
    WorkItem.change (.channel 13) ∈
      (opened (withChan 13 (fun c => { c with enable := true, restLevel := true }) running)).run.work := by decide +kernel

/-- Chapter 3, hand-over: segment A's first pass ends with its fourth slot, and another pass follows. -/
theorem test_sample_slot_end :
    let s := withChan 3 (fun c => { streaming c with active := some ⟨⟨2000, 4, 250, 2⟩, 1, 3, 250, 9, .slot⟩ }) running
    ((after (.sampleSlotEnd 3) s).chan 3).active = some ⟨⟨2000, 4, 250, 2⟩, 1, 3, 250, 9, .nextPass⟩ := by decide +kernel

/-- R60, R61: the last pass ends on an empty queue and the channel is STARVED with its last sample. -/
theorem test_sample_slot_end_starves :
    let s := withChan 3 (fun c => { streaming c with active := some ⟨⟨2000, 4, 250, 2⟩, 2, 3, 250, 9, .slot⟩ }) running
    ((after (.sampleSlotEnd 3) s).chan 3).state = .starved ∧ ((after (.sampleSlotEnd 3) s).chan 3).held = some 9
      ∧ (after (.sampleSlotEnd 3) s).ntc.channelMask = 8 := by decide +kernel

/-- R41, R61: two channels end in one microsecond with stop on underrun set, and both causes are raised. -/
theorem test_underrun_raises_every_cause :
    let ending := fun (c : Channel) => { streaming c with active := some ⟨⟨2000, 4, 250, 2⟩, 2, 3, 250, 9, .slot⟩ }
    let s := withConfig (fun c => { c with stopOnUnderrun := true }) (withChan 3 ending (withChan 5 ending running))
    (after (.sampleSlotEnd 3) s).run.endReason = .underrun ∧ (after (.sampleSlotEnd 3) s).ntc.channelMask = 40
      ∧ (after (.sampleSlotEnd 5) s).ntc.channelMask = 40 := by decide +kernel

/-! ### Channel outputs (chapter 4) -/

theorem test_channel_config :
    ((after (.channelConfig goodChannel) idleUnit).chan 2).gmax = 4000
      ∧ reply (.channelConfig { goodChannel with rest := 199 }) idleUnit = [0x12] := by decide +kernel

/-- R91: a pulse channel at reset: kind 1, disabled (driver field 2), everything else 0. -/
theorem test_channel_read :
    reply (.channelRead 12) idleUnit = [0, 1, 0, 2, 0, 0, 0, 0, 0, 0, 0, 0, 0, 0, 0, 0, 0, 0, 0, 0, 0]
      ∧ (reply (.channelRead 16) idleUnit).length = 21 ∧ (reply (.channelRead 16) idleUnit).head? = some 0x12 := by
  decide +kernel

/-- Chapter 4, pipeline: 3,000 with OFFSET +1,200 and guard 200..4,000 is 4,000, clamped, with the GUARD bit set. -/
theorem test_offset_meets_the_guard :
    let c : Channel := { streaming (Channel.cold 4095) with source := 3000, gmin := 200, gmax := 4000,
                                                            modifier := some (.offset 1200) }
    (c.driven 2 501).output = 4000 ∧ (c.driven 2 501).clamped = true
      ∧ (({ c with modifier := none } : Channel).driven 2 500).output = 3000 := by decide

/-- Chapter 4, pulses: the half that began at 301 with 300 ends at 601 and the next takes the value then standing. -/
theorem test_half_period_end :
    let s := fun u => atMicro u (withChan 13
      (fun c => { c with enable := true, output := 200, line := true, half := some ⟨300, 301⟩ }) running)
    ((after (.halfPeriodEnd 13) (s 601)).chan 13).half = some ⟨200, 601⟩
      ∧ ((after (.halfPeriodEnd 13) (s 601)).chan 13).line = false
      ∧ ((after (.halfPeriodEnd 13) (s 600)).chan 13).line = true := by decide +kernel

/-! ### Capture (chapter 5) -/

theorem test_capture_config :
    (after (.captureConfig goodInput) (atMicro 7 idleUnit)).input 0
        = { Input.cold with enable := true, interval := 1, edge := .fall, phase := some 8 }
      ∧ reply (.captureConfig { goodInput with input := 8 }) idleUnit = [0x12]
      ∧ reply (.captureConfig { goodInput with interval := 2 }) idleUnit = [0x12] := by decide +kernel

theorem test_line_config :
    ((after (.lineConfig { goodInput with input := 1 }) idleUnit).input 9).enable = true
      ∧ reply (.lineConfig { goodInput with input := 2 }) idleUnit = [0x12] := by decide +kernel

/-- Input 2 of chapter 5's filter sequence: interval 4, accepted LOW, the next sample due at 1,020. -/
def filtering (agree : Nat) : State :=
  atMicro 1020 (withInput 2 (fun x => { x with enable := true, interval := 4, edge := .rise, level := some false,
                                               agree := agree, acquire := false, phase := some 1020 }) (tapped running))

/-- Chapter 5, filter: the third agreeing sample, at 1,020, is the accepted edge, recorded; the next sample is at 1,024. -/
theorem test_input_sample_accepts :
    let t := after (.inputSample 2 true []) (filtering 2)
    (t.input 2).level = some true ∧ (t.input 2).agree = 0 ∧ (t.input 2).phase = some 1024
      ∧ t.cap.log = [⟨2, .rise, 0, 0, 0, false, false⟩] := by decide +kernel

/-- Chapter 5, filter: the second agreeing sample counts, and a sample of the old level starts again. -/
theorem test_input_sample_counts :
    ((after (.inputSample 2 true []) (filtering 1)).input 2).agree = 2
      ∧ ((after (.inputSample 2 false []) (filtering 1)).input 2).agree = 0
      ∧ (after (.inputSample 2 true []) (filtering 1)).cap.log = [] := by decide +kernel

/-- R100, R120: the second accepted fall of input 3 fires a slot that counts two, in a run microsecond. -/
theorem test_capture_trigger_counts :
    let s := atMicro 1020 (withInput 3 (fun x => { x with
        enable := true, interval := 4, edge := .both, level := some true, agree := 2, acquire := false
        phase := some 1020 }) running)
    let armed := fun n => withSlot 2 (fun x =>
      { slotWith .armed { recordForce with trigger := .capture 3 .fall 2 } x with occurrences := n })
        { s with run := { s.run with inMicro := true } }
    ((after (.inputSample 3 false []) (armed 0)).slot 2).occurrences = 1
      ∧ ((after (.inputSample 3 false []) (armed 0)).slot 2).state = .armed
      ∧ ((after (.inputSample 3 false []) (armed 1)).slot 2).state = .waiting := by decide +kernel

/-- R119, R109: the second accepted fall, taken in the microsecond of a start or a release, is counted and fires nothing. -/
theorem test_edges_fire_in_run_microseconds_only :
    let s := atMicro 1020 (withInput 3 (fun x => { x with
        enable := true, interval := 4, edge := .both, level := some true, agree := 2, acquire := false
        phase := some 1020 }) running)
    let armed := withSlot 2 (fun x =>
      { slotWith .armed { recordForce with trigger := .capture 3 .fall 2 } x with occurrences := 1 })
        { s with run := { s.run with inMicro := false } }
    ((after (.inputSample 3 false []) armed).slot 2).occurrences = 2
      ∧ ((after (.inputSample 3 false []) armed).slot 2).state = .armed := by decide +kernel

/-- Section 11.6: a FALL of input 1 at clock 5, θ 9,000, C 1 with the HELD mark. -/
theorem test_capture_read :
    let s : State := { running with cap := { running.cap with log := [⟨1, .fall, 5, 9000, 1, true, false⟩] } }
    reply (.captureRead 16) s
        = [0, 1, 0, 0, 2, 2, 2, 2, 2, 2, 2, 2, 2, 2, 0x19, 5, 0, 0, 0, 0, 0x28, 0x23, 0, 1, 0]
      ∧ (after (.captureRead 16) s).cap.log = [] ∧ (reply (.captureRead 17) s).head? = some 0x12 := by decide +kernel

theorem test_run_clock_wrap :
    let s : State := { running with
      run := { running.run with wrapDue := true }
      cap := { running.cap with log := [⟨1, .fall, 5, 0, 1, false, false⟩, ⟨2, .rise, 0, 0, 1, false, false⟩] } }
    (after .runClockWrap s).cap.log = [⟨2, .rise, 0, 0, 1, false, false⟩]
      ∧ (after .runClockWrap s).isPending .captureOverflow = true := by decide +kernel

/-! ### Fault slots (chapter 6) -/

theorem test_fault_load :
    ((after (.faultLoad 2 force50) running).slot 2).record = some recordForce
      ∧ ((after (.faultLoad 2 force50) running).slot 2).state = .loaded
      ∧ reply (.faultLoad 2 { force50 with partner := 1 }) running = [0x12, 0] := by decide +kernel

theorem test_fault_arm :
    let s := withSlot 2 (fun x => { x with state := .loaded, record := some recordForce }) idleUnit
    ((after (.faultArm 0x80000004) s).slot 2).state = .armed
      ∧ ((after (.faultArm 0x80000004) s).slot 2).remaining = .finite 3
      ∧ reply (.faultArm 0x80000004) s = [0, 4, 0, 0, 0] := by decide +kernel

theorem test_fault_cancel :
    let s := (withChan 13 (fun c => { c with modifier := some (.force 50) })
      (withSlot 2 (slotWith .active recordForce) running)).setHolder 37 (some 2)
    let t := after (.faultCancel 4) s
    (t.slot 2).state = .loaded ∧ (t.slot 2).outcome = .cancelled ∧ t.holder 37 = none ∧ (t.chan 13).modifier = none
      ∧ reply (.faultCancel 4) s = [0, 4, 0, 0, 0] := by decide +kernel

/-- R155, R152: an APPLY granted in this very microsecond is withdrawn, and the drive chooses anew; from the next
microsecond on it is in flight. -/
theorem test_fault_cancel_after_the_grant :
    let relay : FaultRecord := { recordForce with action := .shortSupply 2 }
    let s := fun u => atMicro u (withPins (fun p => { p with
      drive := .busy ⟨2, .apply, .supply 2, 0⟩ 500, waitList := [⟨7, .apply, .bridge 10 11, 0⟩] })
        ((withSlot 2 (slotWith .pending relay) running).setHolder 2 (some 2)))
    ((after (.faultCancel 4) (s 500)).slot 2).state = .loaded
      ∧ (after (.faultCancel 4) (s 500)).pins.drive = .busy ⟨7, .apply, .bridge 10 11, 0⟩ 500
      ∧ ((after (.faultCancel 4) (s 501)).slot 2).releaseEnd = .load
      ∧ (after (.faultCancel 4) (s 501)).pins.drive = .busy ⟨2, .apply, .supply 2, 0⟩ 500 := by decide +kernel

/-- R136 and section 11.7: the slot armed, its record read back byte for byte. -/
theorem test_fault_query :
    reply (.faultQuery 2) (withSlot 2 (slotWith .armed recordForce) running)
      = [0, 2, 0, 0, 0, 3, 0, 0, 0, 0, 0, 0, 0, 1, 0x12, 37, 0, 50, 0, 0, 0, 1, 0x28, 0x23, 0, 0, 0, 1, 1, 0x68, 0x01, 0,
         0x08, 0x07, 0, 3, 0] := by decide +kernel

theorem test_target_query :
    let s := (running.setHolder 9 (some 4)).setPath 9 .shortSupply
    (reply .targetQuery s).length = 94 ∧ (reply .targetQuery s).getD 10 0 = 4 ∧ (reply .targetQuery s).getD 11 0 = 0xFF
      ∧ (reply .targetQuery s).getD 64 0 = 3 ∧ (reply .targetQuery s).getD 65 0 = 0xFF := by decide +kernel

/-- Chapter 6, t + 100: progress 360 reaches the delay and the force is handed over, APPLIED. -/
theorem test_delay_elapse :
    let s := withSlot 2 (fun x => { slotWith .waiting recordForce x with progress := 360 }) running
    ((after (.delayElapse 2) s).slot 2).state = .active ∧ ((after (.delayElapse 2) s).slot 2).outcome = .applied
      ∧ (after (.delayElapse 2) s).holder 37 = some 2
      ∧ ((after (.delayElapse 2) s).chan 13).modifier = some (.force 50) := by decide +kernel

/-- R124: with the target held the activation meets CONFLICT; its one repetition is spent and FAULT bit 2 is set. -/
theorem test_delay_elapse_conflict :
    let s := (withSlot 2 (fun x => { slotWith .waiting { recordForce with rep := 1 } x with progress := 360 }) running).setHolder
      37 (some 9)
    ((after (.delayElapse 2) s).slot 2).state = .done ∧ ((after (.delayElapse 2) s).slot 2).outcome = .conflict
      ∧ (after (.delayElapse 2) s).ntc.faultMask = 4 := by decide +kernel

/-- Chapter 6, t + 600: progress 1,800 ends the width, and the slot is ARMED with two repetitions left. -/
theorem test_width_elapse :
    let s := (withSlot 2 (fun x => { slotWith .active recordForce x with progress := 1800 }) running).setHolder 37 (some 2)
    ((after (.widthElapse 2 []) s).slot 2).state = .armed ∧ ((after (.widthElapse 2 []) s).slot 2).remaining = .finite 2
      ∧ (after (.widthElapse 2 []) s).holder 37 = none := by decide +kernel

/-! ### Pins and relays (chapter 7) -/

theorem test_pin_map :
    getAt (after (.pinMap (0x10 :: 0x20 :: List.replicate 22 0xFF)) idleUnit).pins.map 1 = .tap 0
      ∧ reply (.pinMap (0x10 :: 0x10 :: List.replicate 22 0xFF)) idleUnit = [0x15]
      ∧ reply (.pinMap (0x13 :: List.replicate 23 0xFF)) idleUnit = [0x12] := by decide +kernel

theorem test_alignment_timeout :
    let s := fun u => atMicro u ((withSlot 8 (fun x => { x with state := .aligning }) running).setWait 17
      (some ⟨8, false, .line .crank, 1000⟩))
    (after (.alignmentTimeout 17) (s 21000)).path 17 = .openPath
      ∧ ((after (.alignmentTimeout 17) (s 21000)).slot 8).outcome = .alignTimeout
      ∧ (after (.alignmentTimeout 17) (s 20999)).path 17 = .normal := by decide +kernel

/-- Slot 8 waits on the crank line since 1,000, and the crank line rises in the run microsecond of its timeout. -/
def expiring : State :=
  let s := withRot (fun r => { r with
    acc := 80072000, speed := 192000, prevTheta := 1000
    wheel := wheelStored { wheel60 with offset := 1001 } }) (atMicro 20999 running)
  (withSlot 8 (fun x => { x with state := .aligning }) s).setWait 17 (some ⟨8, false, .line .crank, 1000⟩)

/-- R147: the expiry and the edge of one run microsecond, in both orders. -/
theorem test_alignment_timeout_before_the_edge :
    let s := opened expiring
    s.rot.crankLine = true ∧ ((closed (after (.alignmentTimeout 17) s)).slot 8).outcome = .alignTimeout
      ∧ ((closed s).slot 8).outcome = .applied := by decide +kernel

/-- Chapter 7, 110,000: with A7 and R20 waiting, the release of the higher slot is granted first. -/
theorem test_relay_grant :
    let a7 : RelayEntry := ⟨7, .apply, .bridge 10 11, 0⟩
    let r20 : RelayEntry := ⟨20, .release, .supply 2, 0⟩
    let t := after .relayGrant (atMicro 110000 (withPins (fun p => { p with drive := .free, waitList := [a7, r20] }) running))
    t.pins.drive = .busy r20 110000 ∧ t.pins.waitList = [a7] := by decide +kernel

/-- R152: a release handed over in the microsecond of a grant competes in it. -/
theorem test_relay_grant_chooses_anew :
    let relay : FaultRecord := { recordForce with action := .shortSupply 2 }
    let s := atMicro 110000 (withPins (fun p => { p with drive := .busy ⟨7, .apply, .bridge 10 11, 0⟩ 110000 })
      ((withSlot 20 (fun x => { slotWith .active relay x with progress := 1800 }) running).setHolder 2 (some 20)))
    let t := after (.widthElapse 20 []) s
    t.pins.drive = .busy ⟨20, .release, .supply 2, 110000⟩ 110000 ∧ t.pins.waitList = [⟨7, .apply, .bridge 10 11, 0⟩] := by
  decide +kernel

/-- Chapter 7, 105,000: A20 completes 5,000 µs after its grant. -/
theorem test_relay_apply_complete :
    let s := fun u => atMicro u (withPins (fun p => { p with drive := .busy ⟨20, .apply, .supply 2, 0⟩ 100000 })
      (withSlot 20 (fun x => { x with state := .pending }) running))
    (after .relayApplyComplete (s 105000)).path 2 = .shortSupply ∧ (after .relayApplyComplete (s 105000)).pins.drive = .free
      ∧ ((after .relayApplyComplete (s 105000)).slot 20).state = .active
      ∧ (after .relayApplyComplete (s 104999)).path 2 = .normal := by decide +kernel

/-- Chapter 7, 115,000: R20 completes and slot 20, of one repetition, is DONE with its holder cleared. -/
theorem test_relay_release_complete :
    let s := atMicro 115000 (((withPins (fun p => { p with drive := .busy ⟨20, .release, .supply 2, 0⟩ 110000 })
      (withSlot 20 (fun x => { x with state := .releasing, remaining := .finite 1 }) running)).setPath 2 .shortSupply).setHolder
        2 (some 20))
    let t := after .relayReleaseComplete s
    t.path 2 = .normal ∧ t.holder 2 = none ∧ (t.slot 20).state = .done ∧ t.ntc.faultMask = 0x100000 := by decide +kernel

/-- R117: a release completed before the apply of the same run microsecond frees its target; after it, CONFLICT. -/
theorem test_release_completes_before_an_apply :
    let s := opened (atMicro 114999 (acting (.shortSupply 2) ((withPins (fun p => { p with
      drive := .busy ⟨20, .release, .supply 2, 0⟩ 110000 })
        (withSlot 20 (fun x => { x with state := .releasing, remaining := .finite 1 }) running)).setHolder 2 (some 20))))
    ((closed (after .relayReleaseComplete s)).slot 2).state = .pending
      ∧ ((closed s).slot 2).outcome = .conflict := by decide +kernel

/-- R141, R143: a tap's level is the line's, ground on a short to ground, and the target's crank line on a bridge. -/
theorem test_tap_levels :
    let s := withSup (fun u => { u with driver := .on }) (withRot (fun r => { r with crankLine := true }) (tapped running))
    let bridged := (((withSlot 4 (slotWith .active { recordForce with action := .bridge 10 20 }) s).setHolder 20 (some 4)).setPath
      20 (.bridge 10))
    let mapped := withPins (fun p => { p with routed := setAt p.routed 10 (.line .crank) }) bridged
    s.tapLevel 2 true = true ∧ s.tapLevel 2 false = false ∧ s.tapLevel 3 true = false
      ∧ (s.setPath 20 .shortGnd).tapLevel 2 true = false ∧ mapped.tapLevel 2 false = true
      ∧ bridged.tapLevel 2 false = false := by decide +kernel

/-- A running unit with a slot in every state: ARMED, WAITING, ALIGNING on P17, PENDING with its APPLY waiting (P3), ACTIVE with
P9 shorted to supply, PENDING with its APPLY in flight (P10 and P11), RELEASING (P12), ACTIVE on channel 13, DONE. In
microsecond 500 the transition in flight was granted in `u`, handed over in `since`. -/
def crowdedAt (u since : Nat) : State :=
  let act := fun a => ({ recordForce with action := a } : FaultRecord)
  let s := withSlot 0 (slotWith .armed recordForce) (withSlot 1 (slotWith .waiting recordForce) running)
  let s := (withSlot 2 (slotWith .aligning (act (.openPin 17))) s).setWait 17 (some ⟨2, false, .line .crank, 0⟩)
  let s := withSlot 3 (slotWith .pending (act (.shortSupply 3))) (withSlot 4 (slotWith .active (act (.shortSupply 9))) s)
  let s := withSlot 5 (slotWith .pending (act (.bridge 10 11))) (withSlot 6 (slotWith .releasing (act (.shortSupply 12))) s)
  let s := withSlot 7 (slotWith .active recordForce) (withSlot 8 (slotWith .done recordForce) s)
  let s := ([(17, 2), (3, 3), (9, 4), (10, 5), (11, 5), (12, 6), (37, 7)] : List (Fin 45 × Fin 32)).foldl
    (fun s x => s.setHolder x.1 (some x.2)) ((s.setPath 9 .shortSupply).setPath 12 .shortSupply)
  atMicro 500 (withPins (fun p => { p with
    drive := .busy ⟨5, .apply, .bridge 10 11, since⟩ u
    waitList := [⟨3, .apply, .supply 3, 0⟩, ⟨6, .release, .supply 12, 0⟩] }) s)

def crowded : State := crowdedAt 0 0

/-- R152, R155: after a grant of a waiting APPLY in this microsecond the run's end withdraws it, and the drive chooses the release
it has handed over. R134: an APPLY handed over and granted in this microsecond has started, and completes. -/
theorem test_end_after_the_grant :
    let t := fun u since => after .endRun (crowdedAt u since)
    ((t 500 3).slot 5).state = .loaded ∧ (t 500 3).pins.drive = .busy ⟨4, .release, .supply 9, 500⟩ 500
      ∧ (t 500 3).pins.waitList = [⟨6, .release, .supply 12, 0⟩]
      ∧ ((t 500 500).slot 5).releaseEnd = .load ∧ (t 500 500).pins.drive = .busy ⟨5, .apply, .bridge 10 11, 500⟩ 500 := by
  decide +kernel

theorem test_relay_recovery_end :
    (after .relayRecoveryEnd (atMicro 5000 idleUnit)).pins.drive = .free
      ∧ (after .relayRecoveryEnd (atMicro 4999 idleUnit)).pins.drive = .recovering 5000 := by decide +kernel

/-! ### Supply (chapter 8) -/

theorem test_supply_config :
    (after (.supplyConfig 1) idleUnit).sup.mode = .auto ∧ reply (.supplyConfig 2) idleUnit = [0x12] := by decide +kernel

theorem test_supply_set :
    let t := after (.supplySet 1 1 1) (atMicro 100 idleUnit)
    t.sup.battAct = true ∧ t.sup.ignAct = false ∧ t.sup.waitStart = some 100 ∧ t.sup.driver = .wakeWait 100
      ∧ t.isPending .supply = true ∧ reply (.supplySet 1 1 1) idleUnit = [0, 1, 1, 1, 0, 1, 1] := by decide +kernel

/-- Everything commanded ON at 2,040,000, as in chapter 8's power-up. -/
def powered (u : Nat) : State := atMicro u (after (.supplySet 1 1 1) (atMicro 2040000 idleUnit))

theorem test_ignition_wait_end :
    (after .ignitionWaitEnd (powered 2090000)).sup.ignAct = true
      ∧ (after .ignitionWaitEnd (powered 2089999)).sup.ignAct = false := by decide +kernel

theorem test_wake_wait_end :
    (after .wakeWaitEnd (powered 2140000)).sup.driver = .on
      ∧ (after .wakeWaitEnd (powered 2139999)).sup.driver = .wakeWait 2040000 := by decide +kernel

/-- R166: a closed loop is DEBOUNCING; an open one while CONNECTED ends the run and, in AUTO, drops the drivers. -/
theorem test_conn_sense_change :
    let on := withSup (fun u => { u with conn := .connected, connPin := false, mode := .auto, battCmd := true, battAct := true,
                                         drvReq := true, driver := .on }) (atMicro 5000000 (unread running))
    (after (.connSenseChange false) (atMicro 2000000 (unread idleUnit))).sup.conn = .debouncing 2000000
      ∧ (after (.connSenseChange true) on).run.endReason = .disconnect
      ∧ (after (.connSenseChange true) on).sup.driver = .off
      ∧ (after (.connSenseChange true) on).sup.shutdown = .feed 5001000 := by decide +kernel

/-- R158, R169: a completion, a grant and then the disconnection in one microsecond: the drivers go OFF in it. -/
theorem test_disconnection_after_a_completion :
    let on := withSup (fun u => { u with
      sensed := false, conn := .connected, connPin := false, mode := .auto, battCmd := true, battAct := true, drvReq := true
      driver := .on }) (crowdedAt 0 0)
    let t := fun n => after (.connSenseChange true) (after .relayGrant (after .relayApplyComplete (atMicro n on)))
    (t 5000).sup.driver = .off ∧ (t 5000).sup.shutdown = .feed 6000
      ∧ (t 4999).sup.driver = .on ∧ (t 4999).sup.shutdown = .driver := by decide +kernel

/-- R174: the pin is not read in the microsecond of a cold reset; low then, the debounce begins in the next. -/
theorem test_conn_sense_after_a_cold_reset :
    let s := after (.connSenseChange false) idleUnit
    s.sup.conn = .disconnected ∧ s.sup.connPin = false
      ∧ (idle (idle s)).sup.conn = .debouncing 1 := by decide +kernel

/-- R166, R167: the pin is read once in a microsecond. High and then low in one microsecond is a high reading, so that the debounce
begins in the next; and a change after an acceptance is read in the next. -/
theorem test_conn_sense_is_read_once :
    let on := withSup (fun u => { u with conn := .connected, connPin := false }) (atMicro 2000000 (unread running))
    let s := after (.connSenseChange false) (after (.connSenseChange true) on)
    let accepting := withSup (fun u => { u with conn := .debouncing 2000000, connPin := false }) (atMicro 2040000 (unread running))
    let t := after (.connSenseChange true) (after .connectionAccepted accepting)
    s.sup.conn = .disconnected ∧ (after (.connSenseChange false) (unread (atMicro 2000001 s))).sup.conn = .debouncing 2000001
      ∧ t.sup.conn = .connected ∧ isDue (.connSenseChange true) (unread t) = true := by decide +kernel

theorem test_connection_accepted :
    let s := fun u => atMicro u (withSup (fun v => { v with conn := .debouncing 2000000, connPin := false, mode := .auto }) running)
    (after .connectionAccepted (s 2040000)).sup.conn = .connected
      ∧ (after .connectionAccepted (s 2040000)).sup.battAct = true
      ∧ (after .connectionAccepted (s 2040000)).sup.driver = .wakeWait 2040000
      ∧ (after .connectionAccepted (s 2039999)).sup.conn = .debouncing 2000000 := by decide +kernel

theorem test_feed_stage :
    let s := fun u => atMicro u (withSup (fun v => { v with battCmd := true, battAct := true, shutdown := .feed 5006000 }) ended)
    (after .feedStage (s 5006000)).sup.battAct = false ∧ (after .feedStage (s 5006000)).sup.shutdown = .none
      ∧ (after .feedStage (s 5005999)).sup.battAct = true := by decide +kernel

/-! ### Notices and routes (chapter 9) -/

theorem test_notice_config :
    (after (.noticeConfig [0, 1, 0, 0, 0, 0, 1, 0] 256) idleUnit).ntc.enables = 0x42
      ∧ reply (.noticeConfig [0, 1, 0, 0, 0, 0, 1, 0] 513) idleUnit = [0x12] := by decide +kernel

/-- Chapter 9: the read returns GUARD {6}, SPEED and CHANNEL {3}, whatever is enabled, and clears them. -/
theorem test_notice_read :
    let s := raiseChannel 3 (raise .speed (raiseGuard 6 running))
    reply .noticeRead s = [0, 0x0E, 0, 0, 8, 0, 0x40, 0, 0, 0, 0, 0] ∧ (after .noticeRead s).ntc.pending = 0
      ∧ (after .noticeRead s).ntc.guardMask = 0 := by decide +kernel

/-- R180: a NOTICE-READ taken before a raise of the same run microsecond leaves that raise pending. -/
theorem test_notice_read_before_a_raise :
    let s := opened (withChan 0 (fun c => { c with guardMode := .clamp }) tripping)
    (closed (after .noticeRead s)).ntc.guardMask = 1 ∧ (after .noticeRead (closed s)).ntc.guardMask = 0 := by decide +kernel

theorem test_trigger_route :
    getAt (after (.triggerRoute 3 4 9000) idleUnit).ntc.routes 3 = .angleMark 9000
      ∧ reply (.triggerRoute 3 4 72000) idleUnit = [0x12] ∧ reply (.triggerRoute 4 0 0) idleUnit = [0x12] := by
  decide +kernel

/-- R183: a route written before the cycle event of the same run microsecond takes its pulse; written after it, it does not. -/
theorem test_trigger_route_before_a_pulse :
    let s := opened (withRot (fun r => { r with acc := 5759800000, speed := 192000, cycle := 41 }) running)
    getAt (closed (after (.triggerRoute 0 5 0) s)).ntc.timers 0 = some 10
      ∧ getAt (after (.triggerRoute 0 5 0) (closed s)).ntc.timers 0 = none := by decide +kernel

/-- R182: a pulse of event e is high through e + 9. -/
theorem test_pulse_timer_end :
    let s := fun u => atMicro u ((atMicro 100 idleUnit).setTimer 0 (some 109))
    getAt (after (.pulseTimerEnd 0) (s 110)).ntc.timers 0 = none
      ∧ getAt (after (.pulseTimerEnd 0) (s 109)).ntc.timers 0 = some 109 := by decide +kernel

/-! ### Rig link (chapter 10) -/

def listening : State := withLink (fun l => { l with receiver := .hunting, address := 4 }) running

/-- Data characters back to back; the last is followed by another when `more`. -/
def chars (bs : List Byte) (more : Bool := false) : List RxChar :=
  match bs with
  | [] => []
  | b :: rest => ⟨b, more || !rest.isEmpty⟩ :: chars rest more

/-- In microsecond 100 a frame is in progress whose last character came in 81. -/
def receiving (data : List Byte) : State :=
  atMicro 100 (withLink (fun l => { l with receiver := .receiving false data 101 }) listening)

theorem test_identify :
    reply .identify listening
      = [0, 0x0A, 0x16, 0x24, 1, 4, 0, 0, 0x10, 0, 16, 12, 4, 4, 8, 16, 24, 32, 45, 32, 0, 2, 8, 2, 4, 250] := by
  decide +kernel

theorem test_status :
    (reply (.status 0) listening).length = 41 ∧ (reply (.status 0) listening).getD 1 0 = 2
      ∧ (after (.status 1) (withLink (fun l => { l with crc := 5 }) listening)).link.crc = 0 := by decide +kernel

theorem test_unit_reset :
    reply .unitReset listening = [0] ∧ ((after .unitReset listening).link.inWork.map (·.resets)) = some true := by
  decide +kernel

/-- R187: destination 4 or 15 with bit 7 clear begins a frame; a reply's address character does not. -/
theorem test_address_character :
    (after (.addressCharacterReceived ⟨0x04, true⟩) listening).link.receiver = .receiving false [] 23
      ∧ (after (.addressCharacterReceived ⟨0x0F, false⟩) listening).link.receiver = .receiving true [] 20
      ∧ (after (.addressCharacterReceived ⟨0x84, true⟩) listening).link.receiver = .hunting
      ∧ (after (.addressCharacterReceived ⟨0x05, true⟩) listening).link.receiver = .hunting := by decide +kernel

theorem test_length_character :
    (after (.lengthCharacterReceived ⟨250, false⟩) (receiving [])).link.receiver = .receiving false [250] 120
      ∧ (after (.lengthCharacterReceived ⟨251, true⟩) (receiving [])).link.crc = 1
      ∧ (after (.lengthCharacterReceived ⟨0, true⟩) (receiving [])).link.receiver = .hunting := by decide +kernel

/-- A HOLD frame: length 1, kind 0x12 and the CRC of the two; with another CRC it is dropped. -/
theorem test_frame_received :
    (after (.frameReceived (chars ([1, 0x12] ++ crcBytes [1, 0x12]))) (receiving [])).run.state = .held
      ∧ (after (.frameReceived (chars ([1, 0x12] ++ crcBytes [1, 0x13]))) (receiving [])).link.crc = 1
      ∧ (after (.frameReceived (chars ([1, 0x12] ++ crcBytes [1, 0x13]))) (receiving [])).run.state = .running := by decide +kernel

theorem test_broken_character :
    (after .brokenCharacter (receiving [5])).link.framing = 1 ∧ (after .brokenCharacter listening).link.framing = 0 := by
  decide +kernel

/-- R185: an address character of unit 4, bit by bit; with its stop bit low it is broken. -/
theorem test_characters_on_the_pair :
    characterBits true 0x04 = [false, false, false, true, false, false, false, false, false, true, true]
      ∧ readCharacter (characterBits true 0x04) = some (.address 0x04)
      ∧ readCharacter (characterBits false 0xA7) = some (.data 0xA7)
      ∧ readCharacter [false, false, false, true, false, false, false, false, false, true, false] = some .broken
      ∧ (frameBits [0x84, 1]).length = 22 ∧ wireLevel (frameBits [0x84, 1]) 22 = true := by decide +kernel

/-- R187: after a character of microsecond 81 with nothing behind it the gap passes 20 µs in 101, and the block abandons the frame
then on its own; with another begun in time, not before that one's end in 104. -/
theorem test_character_gap_timeout :
    let s := fun u => atMicro u (receiving [5])
    let next := after (.frameReceived (chars [7] true)) (atMicro 81 (receiving [5]))
    (after .characterGapTimeout (s 101)).link.receiver = .hunting ∧ (after .characterGapTimeout (s 101)).link.framing = 1
      ∧ (after .characterGapTimeout (s 100)).link.receiver = .receiving false [5] 101
      ∧ (s 101).gapOver = true ∧ (s 100).gapOver = false
      ∧ (atMicro 104 next).gapOver = true ∧ (atMicro 103 next).gapOver = false := by decide +kernel

/-- A reply of ten characters (chapter 10's worked sequence) takes 22.0 µs. -/
def replying (s : State) : State :=
  withLink (fun l => { l with inWork := some ⟨0xD2, [0, 3, 0, 0, 0], false, 20, .sending 59⟩ }) s

theorem test_reply_start :
    ((after .replyStart (atMicro 59 (withLink (fun l =>
      { l with inWork := some ⟨0xD2, [0, 3, 0, 0, 0], false, 20, .formed⟩ }) listening))).link.inWork.map (·.phase))
        = some (.sending 59) := by decide +kernel

theorem test_reply_end :
    (after .replyEnd (atMicro 81 (replying listening))).link.inWork = none
      ∧ (after .replyEnd (atMicro 80 (replying listening))).link.inWork.isSome = true := by decide +kernel

theorem test_cold_reset :
    let t := after (.coldReset 5) (atMicro 700 running)
    t.run.state = .idle ∧ t.link.address = 5 ∧ t.link.receiver = .initializing 20700 ∧ t.pins.drive = .recovering 5700 := by
  decide +kernel

/-- R196, R160, R193: configuration and trace memory stay; the receiver is deaf for 2,000 µs. -/
theorem test_warm_reset :
    let s := withLink (fun l => { l with resetDue := some 700 })
      (withConfig (fun c => { c with startAngle := 9 }) { atMicro 700 running with trace := [(3, 4)] })
    (after .warmReset s).run.state = .idle ∧ (after .warmReset s).run.config.startAngle = 9
      ∧ (after .warmReset s).trace = [(3, 4)] ∧ (after .warmReset s).link.receiver = .initializing 2700
      ∧ (after .warmReset { s with uptime := 699 }).run.state = .running := by decide +kernel

theorem test_init_interval_end :
    (after .initIntervalEnd (atMicro 20000 idleUnit)).link.receiver = .hunting
      ∧ (after .initIntervalEnd (atMicro 19999 idleUnit)).link.receiver = .initializing 20000 := by decide +kernel

/-- An empty queue: the block takes a microsecond of its own (log entry 1). -/
theorem test_idle_block_goes_on :
    (match step idleUnit with | .next t => t.uptime | .fault _ => 0 | .refused _ => 0) = 1 := by decide +kernel

/-! ### Witnesses: for each obligation with hypotheses, states and operands that meet those of each clause together

The name after witness_ is the obligation's. Where a clause gives a range, the values stand at its boundary. -/

theorem witness_StepRunsTheFrontCommand :
    ({ idleUnit with pending := [.identify, .start] } : State).pending = .identify :: [.start] := by decide

theorem witness_AnEmptyQueueLetsTimeGoOn :
    let left : State := { running with run := { running.run with work := [.pulses, .guardNotice 0] } }
    let free := atMicro 5000 idleUnit
    let quiet := fun s : State => s.pending = [] ∧ s.run.work = [] ∧ ∀ c ∈ dueEvents s, isDue c s = false
    let waiting := withSup (fun u => { u with connPin := false }) (withInput 3 (fun x => { x with enable := true }) idleUnit)
    let begun : State := { held with run := { held.run with begun := true } }
    (left.pending = [] ∧ left.run.work = .pulses :: [.guardNotice 0])
      ∧ (free.pending = [] ∧ free.run.work = []
        ∧ dueEvents free = [.warmReset, .initIntervalEnd] ++ .relayRecoveryEnd :: (dueEvents free).drop 3
        ∧ isDue .relayRecoveryEnd free = true ∧ ∀ b ∈ [Instr.warmReset, .initIntervalEnd], isDue b free = false)
      ∧ (quiet running ∧ running.run.state = .running)
      ∧ (quiet waiting ∧ waiting.run.state ≠ .running ∧ waiting.run.state ≠ .held ∧ (waiting.input 2).enable = false
        ∧ (waiting.input 3).enable = true ∧ waiting.sup.conn = .disconnected ∧ waiting.sup.connPin = false)
      ∧ (quiet begun ∧ begun.run.state = .held ∧ begun.run.begun = true) := by
  and_intros <;> decide +kernel

theorem witness_PatternSetsStoreOrRefuse :
    (between idleUnit ∧ WheelLegal wheel60) ∧ (between ended ∧ WheelLegal { wheel60 with duty := 592 })
      ∧ (between idleUnit ∧ WheelLegal { wheel60 with teeth := 0, duty := 0 })
      ∧ (between idleUnit ∧ ¬ WheelLegal { wheel60 with duty := 593 }) ∧ ¬ between running
      ∧ ([] : List RawEdge).length ≠ 1 ∧ ([] : List RawEdge).length = 0
      ∧ (between idleUnit ∧ CamLegal [⟨4, 1⟩, ⟨71996, 0⟩] ∧ (1 : Fin 2).val = 1)
      ∧ (between idleUnit ∧ ¬ (2 < 2 ∧ CamLegal [])) ∧ (between idleUnit ∧ ¬ (0 < 2 ∧ CamLegal [⟨4, 1⟩, ⟨71997, 0⟩])) := by
  and_intros <;> (try unfold between) <;> (try unfold WheelLegal) <;> (try unfold CamLegal) <;> decide +kernel

theorem witness_SpeedPushAppendsOrRefuses :
    let ok := fun (ps : List RawPoint) => ∀ p ∈ ps, p.ramp ≤ 16777215 ∧ p.hold ≤ 16777215
    let p : RawPoint := ⟨192001, 16777215, 16777215⟩
    let queued := fun n => withRot (fun r => { r with queue := List.replicate n ⟨1, 1, 1⟩ }) running
    (ok [p] ∧ [p].length ≠ 2) ∧ (ok [] ∧ ([] : List RawPoint).length = 0)
      ∧ (ok [p, p, p, p, p] ∧ [p, p, p, p, p].length = 5 ∧ 4 < 5)
      ∧ (ok [p, p, p, p] ∧ [p, p, p, p].length = 4 ∧ 16 < (queued 13).rot.queue.length + 4)
      ∧ (ok [p, p, p, p] ∧ (queued 12).rot.queue.length + 4 ≤ 16) ∧ (ok [p] ∧ (queued 15).rot.queue.length + 1 ≤ 16) := by
  decide +kernel

def draining (s : State) : State := withConfig (fun c => { c with endOnDrain := true }) s

theorem witness_SpeedFlushEmptiesTheQueue :
    let s := draining (withRot (fun r => { r with queue := [⟨1, 1, 1⟩], active := some ⟨⟨3, 3, 3⟩, 0, 1⟩ }) held)
    let empties := fun (f : Nat) (s : State) => ((decide (f = 1) && s.rot.active.isSome) || !s.rot.queue.isEmpty) && s.inRun
      && (if f = 1 then none else s.rot.active).isNone && !s.rot.drained
    2 ≤ 2 ∧ (1 < 2 ∧ running.run.config.endOnDrain = false) ∧ (0 < 2 ∧ empties 0 s = false)
      ∧ (1 < 2 ∧ empties 1 (withChan 3 streaming s) = true ∧ ((withChan 3 streaming s).chan 3).enable = true
        ∧ ((withChan 3 streaming s).chan 3).mode = .stream ∧ ((withChan 3 streaming s).chan 3).state ≠ .starved)
      ∧ (1 < 2 ∧ s.run.config.endOnDrain = true ∧ empties 1 s = true
        ∧ ∀ n, (s.chan n).enable = true → (s.chan n).mode = .stream → (s.chan n).state = .starved ∧ (s.chan n).queue = []) := by
  and_intros <;> decide +kernel

def playing (k : Nat) (s : State) : State := withRot (fun r => { r with active := some ⟨⟨16000, 4, 2⟩, 0, k⟩ }) s

theorem witness_SpeedPointEndsAtItsLength :
    (playing 5 running).rot.active = some ⟨⟨16000, 4, 2⟩, 0, 5⟩ ∧ 5 < max 1 (4 + 2) ∧ max 1 (4 + 2) ≤ 6
      ∧ (playing 6 idleUnit).inRun = false
      ∧ ((playing 6 running).rot.queue = [] ∧ (playing 6 running).inRun = true ∧ (playing 6 running).rot.drained = false
          ∧ (playing 6 running).run.config.endOnDrain = false)
      ∧ ((draining (playing 6 held)).inRun = true ∧ (draining (playing 6 held)).run.config.endOnDrain = true
          ∧ ∀ n, ((draining (playing 6 held)).chan n).enable = true → ((draining (playing 6 held)).chan n).mode = .stream →
              ((draining (playing 6 held)).chan n).state = .starved ∧ ((draining (playing 6 held)).chan n).queue = []) := by
  decide +kernel

/-- Chapter 1: from 100 to 0 in 3 run microseconds the speed is 67, 34 and 0. -/
theorem witness_SpeedRampIsExact :
    let p : SpeedPoint := ⟨0, 3, 0⟩
    let q : SpeedPoint := ⟨192000, 0, 0⟩
    (1 ≤ 1 ∧ 1 ≤ p.ramp ∧ p.target ≤ 100) ∧ 3 = p.ramp ∧ p.ramp < 4 ∧ q.target = 192000 ∧ (0 ≤ q.target ∧ q.ramp = 0)
      ∧ (0 ≤ (⟨9, 3, 0⟩ : SpeedPoint).target ∧ 3 ≤ (⟨9, 3, 0⟩ : SpeedPoint).ramp)
      ∧ [1, 2, 3].map (p.speedAt 100) = [67, 34, 0] := by decide

theorem witness_RunMicrosecondAdvancesTheAngle :
    (RotationLaw running ∧ SupplyLaw running ∧ running.run.state = .running ∧ running.run.work = [] ∧ nextDue running = none
        ∧ (after (.runMicrosecond []) running).run.state ≠ .ended)
      ∧ (RotationLaw tripping ∧ SupplyLaw tripping ∧ tripping.run.state = .running ∧ tripping.run.work = [] ∧ nextDue tripping = none
        ∧ (after (.runMicrosecond []) tripping).run.state = .ended) := by
  and_intros <;> (try unfold PointLaw) <;> decide +kernel

theorem witness_CrankLevelFollowsTheTeeth :
    WheelLaw (wheelStored wheel60) ∧ 71999 < 72000
      ∧ WheelLaw { teeth := 120, offset := 35999, duty := 292, gaps := [⟨119, 3⟩, ⟨2, 3⟩] } ∧ WheelLaw .cleared := by
  and_intros <;> (try unfold WheelLaw) <;> decide +kernel

theorem witness_NoToothPartIsPassedUnseen :
    WheelLaw (wheelStored wheel60) ∧ 8 ≤ 8 ∧ 4 ≤ 8
      ∧ (wheelStored wheel60).level none (71996 % 72000) = (wheelStored wheel60).level none ((71996 + 2) % 72000)
      ∧ (wheelStored wheel60).level none (300 % 72000) = (wheelStored wheel60).level none ((300 + 8) % 72000) := by
  and_intros <;> (try unfold WheelLaw) <;> decide +kernel

theorem witness_CamLevelFollowsTheEdges :
    let es : List CamEdge := [⟨9000, true⟩, ⟨45000, false⟩]
    CamLaw es ∧ CamLaw [] ∧ (es = [] ++ ⟨9000, true⟩ :: [⟨45000, false⟩] ∧ 9000 ≤ 9000 ∧ ∀ f ∈ [(⟨45000, false⟩ : CamEdge)], 9000 < f.angle)
      ∧ ((⟨45000, false⟩ : CamEdge) ∈ es.getLast? ∧ ∀ f ∈ es, 8999 < f.angle) ∧ CamLaw [⟨4, true⟩, ⟨71996, false⟩] := by
  and_intros <;> decide +kernel

theorem witness_RunAndChannelConfigStoreOrRefuse :
    (between idleUnit ∧ RunConfigLegal goodRun) ∧ (between ended ∧ RunConfigLegal { goodRun with startSpeed := 192001 })
      ∧ RunConfigLegal ⟨1, 1, 2, 71999, 0, 3, ⟨1, 1, 2⟩, ⟨1, 7, 2⟩, 1, 65535⟩
      ∧ ¬ RunConfigLegal { goodRun with startAngle := 72000 } ∧ ¬ RunConfigLegal { goodRun with timeout := 0 }
      ∧ ¬ between held
      ∧ (between idleUnit ∧ ChannelLegal goodChannel ∧ (2 : Fin 16).val = goodChannel.channel)
      ∧ ChannelLegal { goodChannel with channel := 15, rest := 1, gmin := 65535, gmax := 65535 }
      ∧ ¬ ChannelLegal { goodChannel with gmax := 4096 } ∧ ¬ ChannelLegal { goodChannel with rest := 4001 }
      ∧ ¬ between running := by
  and_intros <;> (try unfold between) <;> (try unfold RunConfigLegal) <;> (try unfold ReleaseLegal)
    <;> (try unfold ChannelLegal) <;> decide +kernel

theorem witness_StartBeginsARun :
    (between idleUnit ∧ idleUnit.run.work = []) ∧ between ended ∧ ¬ between armed ∧ ¬ between held ∧ idleUnit.run.config.startMode = .immediate
      ∧ getAt (withNtc (fun n => { n with routes := setAt n.routes 2 .startPulse }) idleUnit).ntc.routes 2 = .startPulse := by
  and_intros <;> (try unfold between) <;> decide +kernel

def timedHold (u : Nat) : State := atMicro u { held with run := { held.run with holdTimer := some 4050000 } }

theorem witness_HoldsReleasesAndClear :
    (running.run.state = .running ∧ running.run.flags.any = false)
      ∧ (flagged.run.state = .running ∧ flagged.run.flags.any = true) ∧ held.run.state = .held
      ∧ (ended.run.state ≠ .held ∧ ended.run.state ≠ .running)
      ∧ ((timedHold 4050000).run.holdTimer = some 4050000 ∧ (timedHold 4050000).run.state = .held
        ∧ 4050000 ≤ (timedHold 4050000).uptime) ∧ (timedHold 4049999).uptime < 4050000
      ∧ (armed.run.state ≠ .running ∧ armed.run.state ≠ .held) := by decide +kernel

/-- The same with the RELEASE of slot 6 granted in the present microsecond. -/
def releasing : State :=
  withPins (fun p => { p with
    drive := .busy ⟨6, .release, .supply 12, 0⟩ 500, waitList := [⟨3, .apply, .supply 3, 0⟩, ⟨5, .apply, .bridge 10 11, 3⟩] })
    (crowdedAt 500 3)

theorem crowded_holders : HolderLaw crowded ∧ HolderLaw (crowdedAt 500 3) ∧ HolderLaw releasing := by
  and_intros <;> (try unfold holding recordTargets) <;> (try unfold WaitLaw recordTargets) <;> (try unfold transitions EntryLaw)
    <;> (try unfold transitions) <;> decide +kernel

theorem witness_EndRequestEndsTheRun :
    (HolderLaw crowded ∧ HolderLaw (crowdedAt 500 3) ∧ HolderLaw releasing) ∧ let idle := fun g => ∀ k, crowded.holder g = some k → (crowded.slot k).state ≠ .active
    between ended ∧ ¬ between armed ∧ ¬ between held ∧ ¬ between crowded
      ∧ (idle (chanTarget 12) ∧ ¬ idle (chanTarget 13) ∧ idle 40 ∧ idle (camTarget 1) ∧ idle (pinTarget 10))
      ∧ ((crowded.slot 8).state = .done ∧ (crowded.slot 0).state = .armed ∧ (crowded.slot 1).state = .waiting
        ∧ (crowded.slot 2).state = .aligning)
      ∧ ((crowded.slot 3).state = .pending ∧ crowded.inFlight 3 = false)
      ∧ ((crowded.slot 5).state = .pending ∧ crowded.inFlight 5 = true ∧ (crowded.slot 5).releaseEnd = .rep
        ∧ ∀ e, crowded.pins.drive ≠ .busy e crowded.uptime)
      ∧ (¬ between (crowdedAt 500 3) ∧ ((crowdedAt 500 3).slot 5).state = .pending
        ∧ ((crowdedAt 500 3).slot 5).releaseEnd = .rep
        ∧ (crowdedAt 500 3).pins.drive = .busy ⟨5, .apply, .bridge 10 11, 3⟩ (crowdedAt 500 3).uptime ∧ 3 ≠ (crowdedAt 500 3).uptime)
      ∧ ((withSlot 5 (fun x => { x with releaseEnd := .load }) crowded).slot 5).releaseEnd = .load
      ∧ ((crowded.slot 6).state = .releasing ∧ (crowded.slot 6).releaseEnd = .rep)
      ∧ ((crowded.slot 7).state = .active ∧ (crowded.slot 7).record = some recordForce ∧ recordForce.action.relay = none)
      ∧ ((crowded.slot 4).state = .active ∧ ((crowded.slot 4).record.bind (·.action.relay)) = some (.supply 9)) := by
  refine ⟨crowded_holders, ?_⟩
  and_intros <;> first | (intro e h; cases h; done) | (unfold between; decide +kernel) | decide +kernel

theorem witness_OnlyRunMicrosecondsMoveTheClock :
    (∀ o, Instr.hold ≠ .runMicrosecond o) ∧ exec .hold running = .next (after .hold running) ∧ running.run.state = .running
      ∧ Instr.hold ≠ .warmReset ∧ ∀ b, Instr.hold ≠ .coldReset b :=
  ⟨(by intro _ h; cases h), rfl, rfl, (by intro h; cases h), (by intro _ h; cases h)⟩

theorem witness_TraceWriteStoresItsSamples :
    TraceLaw { running with trace := [(0, 1), (1048575, 2)] } ∧ ([] : List Sample).length ≠ 1
      ∧ ((List.replicate 121 (0 : Sample)).length = 121 ∧ 120 < 121) ∧ 1048576 < 1048575 + 2
      ∧ ((List.replicate 120 (5 : Sample)).length = 120 ∧ 1048456 ≤ 1048575 ∧ 1 ≤ 120 ∧ 120 ≤ 120 ∧ 1048456 + 120 ≤ 1048576) := by
  and_intros <;> (try unfold TraceLaw) <;> decide +kernel

theorem witness_TraceReadReturnsTheSamples :
    1048575 < 1048576 ∧ 1048576 < 1048575 + 2 ∧ (1048575 ≤ 1048575 ∧ 1 ≤ 1 ∧ 1 ≤ 120 ∧ 1048575 + 1 ≤ 1048576) := by
  decide

theorem witness_WindowsAndCodesAreStoredOrRefused :
    (between idleUnit ∧ WindowLegal goodWindow ∧ (7 : Fin 16).val = goodWindow.channel ∧ (3 : Fin 4).val = goodWindow.window)
      ∧ WindowLegal { goodWindow with channel := 15, start := 71999, stop := 71999, base := 1048575, pitch := 7200 }
      ∧ ¬ WindowLegal { goodWindow with pitch := 0 } ∧ ¬ between armed
      ∧ ((11 : Fin 16).val = 11 ∧ 4095 ≤ kindMax 11) ∧ ((12 : Fin 16).val = 12 ∧ 65535 ≤ kindMax 12) ∧ 16 ≤ 16
      ∧ kindMax 11 < 4096 ∧ kindMax 15 < 65536 := by
  and_intros <;> (try unfold between) <;> (try unfold WindowLegal) <;> decide +kernel

theorem witness_WindowCoversItsSpan :
    let w : Window := ⟨true, 35000, 1000, 10000, 50⟩
    (w.start < 72000 ∧ w.stop < 72000 ∧ 71999 < 72000 ∧ w.enable = true ∧ w.stop < w.start ∧ w.covers 1000 = true)
      ∧ (⟨false, 0, 0, 0, 1⟩ : Window).enable = false ∧ (0 ≤ 7199 ∧ 7199 < 72000)
      ∧ 71999 = (0 + 71999) % 72000 ∧ 34999 = (35000 + 71999) % 72000 := by decide

theorem witness_SegmentPushAppendsOrRefuses :
    let s := fun n => withChan 3 (fun c => { streaming c with queue := List.replicate n ⟨2000, 4, 250, 2⟩ }) running
    (SegmentLegal segmentA ∧ (3 : Fin 16).val = segmentA.channel ∧ ((s 7).chan 3).mode = .stream ∧ ((s 7).chan 3).queue.length < 8)
      ∧ 8 ≤ ((s 8).chan 3).queue.length ∧ SegmentLegal { segmentA with base := 1048575, length := 65535, period := 65535, rep := 255 }
      ∧ ¬ SegmentLegal { segmentA with period := 0 } ∧ (running.chan 3).mode ≠ .stream ∧ 15 < 16 := by
  and_intros <;> (try unfold SegmentLegal) <;> decide +kernel

/-- With stop on underrun set. -/
def stopping (s : State) : State := withConfig (fun c => { c with stopOnUnderrun := true }) s

/-- The profile drained with end on drain set. -/
def dry (s : State) : State := draining (withRot (fun r => { r with drained := true }) s)

/-- A channel in the last slot of its last pass, with nothing queued. -/
def endingDry (c : Channel) : Channel := { streaming c with active := some ⟨⟨2000, 4, 250, 2⟩, 2, 3, 250, 9, .slot⟩ }

theorem witness_SegmentFlushEmptiesTheQueue :
    let cutting := fun (s : State) => withChan 3 (fun c => { streaming c with
      queue := [⟨2000, 4, 250, 2⟩], active := some ⟨⟨5000, 3, 1000, 0⟩, 1, 0, 10, 9, .slot⟩ }) s
    let starved := fun (s : State) => withChan 3 (fun c => { streaming c with
      queue := [⟨2000, 4, 250, 2⟩], state := .starved, held := some 9 }) s
    let first : State := withChan 3 (fun c => { streaming c with queue := [⟨2000, 4, 250, 2⟩] })
      { running with run := { running.run with begun := true } }
    15 < 16 ∧ 1 < 2 ∧ (1 < 2 ∧ (running.chan 3).mode ≠ .stream)
      ∧ (((cutting running).chan 3).mode = .stream ∧ ((cutting running).chan 3).active.isSome = true
        ∧ (cutting running).inRun = true ∧ (cutting running).run.config.endOnDrain = false
        ∧ (cutting running).run.config.stopOnUnderrun = false)
      ∧ (((cutting idleUnit).chan 3).active.isSome = true ∧ (cutting idleUnit).inRun = false)
      ∧ ((stopping (cutting running)).run.config.stopOnUnderrun = true ∧ (stopping (cutting running)).run.state = .running
        ∧ ((stopping (cutting running)).chan 3).cause = .starved)
      ∧ ((dry (cutting held)).run.config.endOnDrain = true ∧ (dry (cutting held)).inRun = true
        ∧ (dry (cutting held)).rot.drained = true ∧ OthersDry (dry (cutting held)) 3)
      ∧ (OthersDry (dry (starved held)) 3 ∧ ((dry (starved held)).chan 3).state = .starved
        ∧ ((dry (starved held)).chan 3).queue ≠ [])
      ∧ (first.inRun = true ∧ first.run.begun = true ∧ (first.chan 3).enable = true ∧ (first.chan 3).mode = .stream
        ∧ (first.chan 3).state = .stopped ∧ (first.chan 3).active = none ∧ (first.chan 3).cause = .starved)
      ∧ ((5 : Fin 16) ≠ 3 ∧ EndsDry ((withChan 5 endingDry (stopping (cutting running))).chan 5)
        ∧ ((withChan 5 endingDry (stopping (cutting running))).chan 5).cause = .starved) := by
  and_intros <;> (try unfold OthersDry) <;> (try unfold EndsDry) <;> decide +kernel

/-- Channel 3 in the last slot of a pass of segment A. -/
def sampling (pass rep index played : Nat) (queue : List Segment) (s : State) : State :=
  withChan 3 (fun c => { streaming c with
    queue := queue, active := some ⟨⟨2000, 4, 250, rep⟩, pass, index, played, 9, .slot⟩ }) s

theorem witness_SampleSlotEndGoesOn :
    let a := fun pass rep index played => (⟨⟨2000, 4, 250, rep⟩, pass, index, played, 9, .slot⟩ : ActiveSeg)
    let s := sampling 2 2 3 250 []
    ((sampling 1 2 3 249 [] running).chan 3).active = some (a 1 2 3 249) ∧ (a 1 2 3 249).played < 250
      ∧ ((a 1 2 2 250).ahead = .slot ∧ 250 ≤ (a 1 2 2 250).played ∧ (a 1 2 2 250).index + 1 < 4)
      ∧ (4 ≤ (a 1 2 3 250).index + 1 ∧ (a 1 2 3 250).seg.rep ≠ 0 ∧ (a 1 2 3 250).pass < (a 1 2 3 250).seg.rep)
      ∧ ((a 1 0 3 250).seg.rep = 0 ∧ ((sampling 1 0 3 250 [] running).chan 3).queue = [])
      ∧ ((a 2 2 3 250).seg.rep ≤ (a 2 2 3 250).pass
        ∧ ((sampling 2 2 3 250 [⟨5000, 3, 1000, 0⟩] running).chan 3).queue = [⟨5000, 3, 1000, 0⟩])
      ∧ (((s running).chan 3).active = some (a 2 2 3 250) ∧ (s running).run.config.endOnDrain = false
        ∧ (s running).run.config.stopOnUnderrun = false)
      ∧ ((stopping (s running)).run.config.stopOnUnderrun = true ∧ (stopping (s running)).run.state = .running)
      ∧ ((dry (s held)).run.config.endOnDrain = true ∧ (dry (s held)).inRun = true ∧ (dry (s held)).rot.drained = true
        ∧ OthersDry (dry (s held)) 3 ∧ (dry (s held)).run.state ≠ .running)
      ∧ (EndsDry ((withChan 5 endingDry (stopping (s running))).chan 5)
        ∧ ((withChan 5 endingDry (stopping (s running))).chan 5).cause = .starved) := by
  and_intros <;> (try unfold OthersDry) <;> (try unfold EndsDry) <;> decide +kernel

/-- Enabled channels of every kind: CONST on an analog and two pulse channels, ANGLE_MAP covered by its window 1 and by none,
STREAM with a segment queued under each cause, STREAM starved, and STREAM in a slot, before its first, before the next and
before the next pass. -/
def forming : State :=
  let seg : Segment := ⟨2000, 4, 250, 2⟩
  let plays := fun p j k q => fun c => { streaming c with active := some ⟨seg, p, j, k, 9, q⟩ }
  let map := fun i (c : Channel) => { c with
    enable := true, mode := .angleMap, windows := setAt c.windows i ⟨true, 71999, 1, 1048575, 2⟩ }
  let s := withChan 0 (fun c => { c with enable := true, constCode := 77 }) running
  let s := withChan 1 (map 1) (withChan 2 (fun c => { c with enable := true, mode := .angleMap }) s)
  let s := withChan 3 (fun c => { streaming c with queue := [seg] }) s
  let s := withChan 4 (fun c => { streaming c with queue := [seg], cause := .taken }) s
  let s := withChan 5 (fun c => { streaming c with state := .starved, held := some 4095 }) s
  let s := withChan 6 (plays 1 0 1 .slot) (withChan 7 (plays 1 0 0 .slot) s)
  let s := withChan 8 (plays 1 0 250 .nextSlot) (withChan 9 (plays 1 3 250 .nextPass) s)
  withChan 12 (fun c => { c with enable := true, constCode := 300 }) (withChan 14 (fun c => { c with enable := true }) s)

/-- The hypotheses on a run microsecond that forms values. -/
def formable (s : State) : Prop :=
  RotationLaw s ∧ SupplyLaw s ∧ GuardLaw s ∧ s.run.state = .running ∧ s.run.work = [] ∧ nextDue s = none

theorem witness_RunMicrosecondFormsEverySource :
    let t := after (.runMicrosecond []) forming
    let covers := fun (w : Window) =>
      w.enable = true ∧ (t.theta + 72000 - w.start) % 72000 ≤ (w.stop + 72000 - w.start) % 72000
    let bare := stopping (withChan 11 streaming running)
    formable forming ∧ t.run.state ≠ .ended ∧ ((forming.chan 0).enable = true ∧ (forming.chan 0).mode = .const)
      ∧ ((forming.chan 1).mode = .angleMap ∧ covers (getAt (forming.chan 1).windows 1)
        ∧ ∀ j < 1, ¬ covers (getAt (forming.chan 1).windows j))
      ∧ ((forming.chan 2).mode = .angleMap ∧ ∀ i, ¬ covers (getAt (forming.chan 2).windows i))
      ∧ ((forming.chan 3).active = none ∧ (forming.chan 3).queue = ⟨2000, 4, 250, 2⟩ :: [])
      ∧ (forming.chan 4).cause = .taken ∧ ((forming.chan 5).queue = [] ∧ (forming.chan 5).state = .starved)
      ∧ ((forming.chan 6).active = some ⟨⟨2000, 4, 250, 2⟩, 1, 0, 1, 9, .slot⟩ ∧ 0 < 1)
      ∧ (forming.chan 7).active = some ⟨⟨2000, 4, 250, 2⟩, 1, 0, 0, 9, .slot⟩
      ∧ (forming.chan 8).active = some ⟨⟨2000, 4, 250, 2⟩, 1, 0, 250, 9, .nextSlot⟩
      ∧ (forming.chan 9).active = some ⟨⟨2000, 4, 250, 2⟩, 1, 3, 250, 9, .nextPass⟩
      ∧ (formable bare ∧ (bare.chan 11).mode = .stream ∧ (bare.chan 11).active = none ∧ (bare.chan 11).queue = []
        ∧ (bare.chan 11).state ≠ .starved ∧ (bare.chan 11).cause = .starved ∧ bare.run.config.stopOnUnderrun = true)
      ∧ (formable takable ∧ (takable.chan 3).active = none ∧ (takable.chan 3).queue = ⟨2000, 4, 250, 2⟩ :: []
        ∧ (takable.chan 3).state = .starved ∧ .flush 3 ∈ [WorkItem.flush 3, .pause]
        ∧ { takable with pending := [.noticeRead, .segmentFlush 3 0] }.pending = [.noticeRead] ++ .segmentFlush (3 : Fin 16).val 0 :: []
        ∧ (∀ o, Instr.runMicrosecond o ∉ [Instr.noticeRead]) ∧ .flush 3 ∉ ([.pause] : List WorkItem)) := by
  and_intros <;> (try unfold PointLaw) <;> (try unfold GuardLaw) <;> first | (intro o h; cases h with | tail _ h => cases h) | decide +kernel

/-- Channel 13 in a run that has begun, its half of `period` begun in microsecond 0. -/
def pulsingOn (period : Nat) : State :=
  let s := withChan 13 (fun c => { c with enable := true, constCode := 200, line := true, half := some ⟨period, 0⟩ }) running
  { s with run := { s.run with begun := true } }

theorem witness_RunMicrosecondFormsEveryOutput :
    let t := after (.runMicrosecond []) forming
    let clamping := withChan 0 (fun c => { c with guardMode := .clamp }) tripping
    formable forming ∧ ((forming.chan 0).enable = true ∧ (t.chan 0).clamped = false) ∧ (forming.chan 10).enable = false
      ∧ (formable clamping ∧ ((after (.runMicrosecond []) clamping).chan 0).clamped = true ∧ .pause ∉ ([] : List WorkItem))
      ∧ (formable tripping ∧ ((after (.runMicrosecond []) tripping).chan 0).clamped = true
        ∧ ((after (.runMicrosecond [.guardTrip 0]) tripping).chan 0).clamped = true
        ∧ (tripping.chan 0).guardMode = .strict ∧ tripping.run.config.stopOnUnderrun = false
        ∧ tripping.run.config.endOnDrain = false)
      ∧ (12 ≤ (14 : Fin 16).val ∧ (t.chan 14).output = 0)
      ∧ (12 ≤ (12 : Fin 16).val ∧ (t.chan 12).output ≠ 0 ∧ (forming.chan 12).half = none)
      ∧ (formable (pulsingOn 300) ∧ ((after (.runMicrosecond []) (pulsingOn 300)).chan 13).output ≠ 0
        ∧ (pulsingOn 300).run.begun = true ∧ ((pulsingOn 300).chan 13).half = some ⟨300, 0⟩)
      ∧ (formable (pulsingOn 1) ∧ ((after (.runMicrosecond [.halfEnd 13]) (pulsingOn 1)).chan 13).output ≠ 0
        ∧ ((pulsingOn 1).chan 13).half = some ⟨1, 0⟩ ∧ 0 + 1 ≤ (pulsingOn 1).uptime + 1) := by
  and_intros <;> (try unfold PointLaw) <;> (try unfold GuardLaw) <;> decide +kernel

theorem witness_ChannelReadReportsTheChannel : (15 : Fin 16).val = 15 ∧ 15 < 16 := by decide

def pulsing (u output : Nat) (s : State) : State :=
  atMicro u (withChan 13 (fun c => { c with enable := true, output := output, line := true, half := some ⟨300, 301⟩ }) s)

theorem witness_HalfPeriodEndTurnsTheLine :
    let s := (pulsing 601 200 running).setWait 17 (some ⟨8, true, .line (.channel 13), 600⟩)
    (12 ≤ (13 : Fin 16).val ∧ ((pulsing 600 200 running).chan 13).half = some ⟨300, 301⟩ ∧ (pulsing 600 200 running).uptime < 301 + 300)
      ∧ (301 + 300 ≤ (pulsing 601 0 running).uptime ∧ ((pulsing 601 0 running).chan 13).output = 0
        ∧ ((pulsing 601 0 running).chan 13).line ≠ ((pulsing 601 0 running).chan 13).restLevel)
      ∧ (((pulsing 601 200 running).chan 13).output ≠ 0 ∧ ∀ p, (pulsing 601 200 running).wait p = none)
      ∧ (s.run.state = .running ∧ s.wait 17 = some ⟨8, true, .line (.channel 13), 600⟩ ∧ (∀ q, q ≠ 17 → s.wait q = none)
        ∧ 600 < s.uptime) := by
  decide +kernel

theorem witness_InputConfigStoresAndRestarts :
    ¬ between armed ∧ between idleUnit ∧ InputLegal goodInput ∧ InputLegal { goodInput with interval := 16, edge := 2 }
      ∧ ¬ (8 < 8 ∧ InputLegal goodInput) ∧ ¬ (2 < 2 ∧ InputLegal goodInput) ∧ ¬ InputLegal { goodInput with interval := 2 }
      ∧ ((7 : Fin 10).val < 8 ∧ (9 : Fin 10).val = 1 + 8) := by
  and_intros <;> (try unfold between) <;> (try unfold InputLegal) <;> decide +kernel

def lineAt (u : Nat) (level : Option Bool) (agree : Nat) (acquire : Bool) (s : State) : State :=
  atMicro u (withInput 9 (fun x => { x with enable := true, edge := .rise, level := level, agree := agree, acquire := acquire,
                                            phase := some 1020 }) s)

/-- Capture tap 2 on P20, whose path is `path`, in a running unit whose slot 4 holds P20 for a BRIDGE of `t` to `p`. -/
def bridgedTap (path : Path) (t p : Fin 24) : State :=
  let s := withSlot 4 (slotWith .active { recordForce with action := .bridge t p }) (tapped running)
  (s.setHolder 20 (some 4)).setPath 20 path

theorem witness_InputSampleMovesTheFilter :
    let line := fun u lv n acq => lineAt u lv n acq running
    let s := fun path => bridgedTap path 10 20
    let partner := fun (src : LineSource) => withSup (fun u => { u with driver := .on })
      (withPins (fun p => { p with routed := setAt p.routed 10 (.line src) }) (s (.bridge 10)))
    (running.input 9).enable = false
      ∧ (((line 1019 none 0 true).input 9).phase = some 1020 ∧ (line 1019 none 0 true).uptime < 1020)
      ∧ (((line 1020 none 0 true).input 9).enable = true ∧ 1020 ≤ (line 1020 none 0 true).uptime ∧ 8 ≤ (9 : Fin 10).val
        ∧ ((line 1020 none 0 true).input 9).acquire = true)
      ∧ (((line 1020 (some true) 2 false).input 9).level = some true ∧ ((line 1020 (some true) 1 false).input 9).agree < 2)
      ∧ (((line 1020 (some true) 2 false).input 9).acquire = false ∧ 2 ≤ ((line 1020 (some true) 2 false).input 9).agree
        ∧ ¬ names ((line 1020 (some true) 2 false).input 9).edge false)
      ∧ (true = (filtering 1).tapLevel 2 true ∧ ((filtering 1).input 2).phase = some 1020 ∧ ((filtering 1).input 2).agree < 2)
      ∧ (∀ p, getAt running.pins.routed p ≠ .tap 2)
      ∧ (getAt (s .normal).pins.routed 20 = .tap 2 ∧ (∀ q < 20, getAt (s .normal).pins.routed q ≠ .tap 2)
        ∧ (s .normal).moving 20 = false ∧ (s .normal).path 20 = .normal)
      ∧ ((withPins (fun p => { p with drive := .busy ⟨4, .apply, .bridge 10 20, 0⟩ 0 }) (s .normal)).moving 20 = true)
      ∧ (s .openPath).path 20 = .openPath ∧ (s .shortGnd).path 20 = .shortGnd ∧ (s .shortSupply).path 20 = .shortSupply
      ∧ ((bridgedTap (.bridge 10) 20 10).path 20 = .bridge 10 ∧ (bridgedTap (.bridge 10) 20 10).holder (pinTarget 20) = some 4
        ∧ ((bridgedTap (.bridge 10) 20 10).slot 4).record = some { recordForce with action := .bridge 20 10 })
      ∧ (((partner .crank).slot 4).record = some { recordForce with action := .bridge 10 20 } ∧ (20 : Fin 24) ≠ 10
        ∧ (partner .crank).sup.driver = .on ∧ getAt (partner .crank).pins.routed 10 = .line .crank)
      ∧ getAt (partner (.cam 1)).pins.routed 10 = .line (.cam 1)
      ∧ (12 ≤ (13 : Fin 16).val ∧ getAt (partner (.channel 13)).pins.routed 10 = .line (.channel 13)
        ∧ ((withChan 13 (fun c => { c with pinEnable := true }) (partner (.channel 13))).chan 13).pinEnable = true)
      ∧ (s (.bridge 10)).sup.driver ≠ .on := by
  and_intros <;> (try unfold names) <;> decide +kernel

theorem witness_CaptureEdgeIsRecorded :
    let releasing := withConfig (fun c => { c with capture := ⟨true, 2, .rise⟩ })
      { filtering 2 with run := { (filtering 2).run with state := .held } }
    let full := { filtering 2 with cap := { (filtering 2).cap with log := List.replicate 512 ⟨1, .fall, 0, 0, 0, false, false⟩ } }
    QuietEdges (filtering 2) ∧ (filtering 2).run.state = .running ∧ ((filtering 2).input 2).enable = true
      ∧ ((filtering 2).input 2).phase = some 1020 ∧ 1020 ≤ (filtering 2).uptime ∧ ((filtering 2).input 2).acquire = false
      ∧ (filtering 2).tapLevel 2 true = true ∧ ((filtering 2).input 2).level = some (!true) ∧ 2 ≤ ((filtering 2).input 2).agree
      ∧ ((filtering 2).input 2).edge ≠ .fall ∧ (filtering 2).cap.log.length < 512 ∧ (QuietEdges full ∧ full.cap.log.length = 512)
      ∧ ((releasing.input 2).level = some (!true) ∧ releasing.run.state = .held
        ∧ (after (.inputSample 2 true []) releasing).run.state = .running
        ∧ (after (.inputSample 2 true []) releasing).cap.log = [⟨2, .rise, 0, 0, 0, true, false⟩]) := by
  and_intros <;> decide +kernel

/-- Chapter 2's start: ARMED on trigger input 0, FALL, with the third low sample at 1,020. -/
def starting : State :=
  atMicro 1020 (withInput 8 (fun x => { x with enable := true, edge := .both, level := some true, agree := 2, acquire := false,
                                               phase := some 1020 })
    (withConfig (fun c => { c with startMode := .line, startInput := 0, startEdge := .fall }) armed))

theorem witness_StartEdgeBeginsTheRun :
    starting.run.state = .armed ∧ starting.run.config.startMode = .line ∧ starting.run.config.startInput.val + 8 = (8 : Fin 10).val
      ∧ starting.run.config.startEdge ≠ .rise ∧ (starting.input 8).edge ≠ .rise ∧ (starting.input 8).enable = true
      ∧ (starting.input 8).phase = some 1020 ∧ 1020 ≤ starting.uptime ∧ (starting.input 8).acquire = false
      ∧ (starting.input 8).level = some (!false) ∧ 2 ≤ (starting.input 8).agree
      ∧ (after (.inputSample 8 false []) starting).run.state = .running := by decide +kernel

/-- Trigger input 1 accepts a rise in microsecond 1,020, a run microsecond, with both edge releases enabled on request. -/
def rising (byLine byCapture : Bool) (s : State) : State :=
  let s := withConfig (fun c => { c with line := ⟨byLine, 1, .rise⟩, capture := ⟨byCapture, 2, .both⟩ }) s
  lineAt 1020 (some false) 2 false { s with run := { s.run with inMicro := true } }

/-- Capture input 2 accepts a rise in microsecond 1,020 as well. -/
def risingBoth (byLine byCapture : Bool) (s : State) : State :=
  withInput 2 (fun x => { x with enable := true, interval := 4, edge := .rise, level := some false, agree := 2
                                 acquire := false, phase := some 1020 }) (rising byLine byCapture (tapped s))

theorem witness_AcceptedEdgesFireAndRelease :
    let slot := fun tr d n s => withSlot 2 (fun x => { slotWith .armed { recordForce with trigger := tr, delay := d } x with
      occurrences := n }) s
    let looksIn := fun (micro : Bool) (s : State) => s.run.state = .running ∧ s.run.inMicro = micro ∧ (s.slot 2).state = .armed
      ∧ (s.slot 2).since < s.uptime ∧ (s.slot 2).staged = none ∧ (∀ i, i ≠ 2 → (s.slot i).state ≠ .armed)
      ∧ s.run.config.line.enable = false ∧ s.run.config.capture.enable = false
    let looks := looksIn true
    let s := risingBoth false false running
    let started : State := { s with run := { s.run with inMicro := false } }
    Accepts ((risingBoth true true held).input 9) true 1020 ∧ Accepts ((risingBoth true true held).input 2) true 1020
      ∧ (8 ≤ (9 : Fin 10).val ∧ true = (risingBoth true true held).tapLevel 2 true)
      ∧ ((risingBoth true true held).run.state = .held ∧ (risingBoth true true held).run.config.line.enable = true
        ∧ (risingBoth true true held).run.config.line.input.val + 8 = (9 : Fin 10).val ∧ names .rise true)
      ∧ ((risingBoth true true held).run.config.capture.enable = true ∧ names .both true
        ∧ (risingBoth true true held).run.config.capture.input.val = (2 : Fin 10).val)
      ∧ (risingBoth false false held).run.config.line.enable = false
      ∧ (Accepts ((risingBoth true true running).input 9) true 1020 ∧ (risingBoth true true running).run.state = .running
        ∧ ∀ k, ((risingBoth true true running).slot k).state ≠ .armed)
      ∧ (looks (slot (.capture 2 .rise 2) 360 0 s) ∧ (2 : Fin 8).val = (2 : Fin 10).val ∧ min (0 + 1) 255 < 2)
      ∧ (looks (slot (.capture 2 .rise 2) 360 1 s) ∧ 2 ≤ min (1 + 1) 255 ∧ (360 : Nat) ≠ 0)
      ∧ (looks (slot (.capture 2 .both 1) 0 0 s) ∧ (∀ g ∈ recordForce.action.targets, s.holder g = none)
        ∧ recordForce.action.relay = none ∧ recordForce.action.targets ≠ [] ∧ recordForce.aligned = false)
      ∧ ((3 : Fin 8).val ≠ (2 : Fin 10).val ∧ ¬ names .fall true)
      ∧ (looks (slot (.line 1 .rise) 360 0 s) ∧ (1 : Fin 2).val + 8 = (9 : Fin 10).val)
      ∧ (looksIn false (slot (.capture 2 .rise 2) 360 1 started) ∧ looksIn false (slot (.line 1 .rise) 360 0 started)
        ∧ Accepts (started.input 2) true 1020 ∧ Accepts (started.input 9) true 1020)
      ∧ ((0 : Fin 2).val + 8 ≠ (9 : Fin 10).val) := by
  and_intros <;> (try unfold names) <;> decide +kernel

theorem witness_RecordsLeaveTheLog :
    let s := fun clock => { running with
      run := { running.run with wrapDue := true }, cap := { running.cap with log := [⟨1, .fall, clock, 0, 1, false, false⟩] } }
    16 < 17 ∧ (1 ≤ 16 ∧ 16 ≤ 16) ∧ running.run.wrapDue = false
      ∧ ((s 1).run.wrapDue = true ∧ ∃ r ∈ (s 1).cap.log, 0 < r.clock)
      ∧ ((s 0).run.wrapDue = true ∧ ∀ r ∈ (s 0).cap.log, r.clock = 0) := by
  decide +kernel

theorem witness_FaultLoadStoresOrStages :
    (RecordLegal running 2 force50 ∧ (2 : Fin 32).val = 2 ∧ (running.slot 2).state = .empty)
      ∧ ((withSlot 2 (slotWith .active recordForce) running).slot 2).state = .active
      ∧ RecordLegal running 31 ⟨0x11, 24, 0, -4095, 5, 30, 1, 16777215, 16777215, 255, 0⟩
      ∧ RecordLegal running 0 ⟨0x04, 23, 22, 0, 4, 2 ^ 40 - 1, 0, 0, 0, 0, 0⟩ ∧ RecordLegal running 0 ⟨0x40, 45, 0, 0, 0, 0, 0, 0, 0, 1, 0⟩
      ∧ RecordLegal (withPins (fun p => { p with map := setAt p.map 17 (.line .crank) }) running) 0
          ⟨0x01, 17, 0, 0, 2, 7 + 2 * 256 + 255 * 65536, 0, 0, 0, 1, 1⟩ := by
  and_intros <;> (try unfold ActionLegal) <;> (try unfold TriggerLegal) <;> (try unfold AlignedLegal)
    <;> decide +kernel

theorem witness_FaultLoadStoresOrStages_refused :
    ¬ RecordLegal running 32 force50 ∧ ¬ RecordLegal running 2 { force50 with partner := 1 }
      ∧ ¬ RecordLegal running 0 ⟨0x40, 45, 0, 0, 0, 0, 0, 0, 1, 1, 0⟩ := by
  refine ⟨fun h => absurd h.1 (by decide), fun h => absurd h.2.1 ?_, fun h => absurd h.2.1 ?_⟩
    <;> unfold ActionLegal <;> dsimp only <;> decide +kernel

theorem witness_FaultCancelReturnsItsSlots :
    let relay : FaultRecord := { recordForce with action := .shortSupply 2, measure := .time }
    let s := fun st r => withSlot 31 (slotWith st r) (atMicro 1 running)
    let flying := fun u => withPins (fun p => { p with drive := .busy ⟨31, .apply, .supply 2, 0⟩ u }) (s .pending relay)
    let loaded := fun st => withSlot 31 (fun x => { x with releaseEnd := .load, state := st }) (flying 0)
    (0x80000000 : SlotMask).getLsbD 31 = true ∧ (0x80000000 : SlotMask).getLsbD 0 = false
      ∧ (∀ e, (s .done recordForce).pins.drive ≠ .busy e 1) ∧ ((s .done recordForce).slot 31).state = .done
      ∧ ((s .armed recordForce).slot 31).state = .armed ∧ ((s .aligning recordForce).slot 31).state = .aligning
      ∧ (((s .pending relay).slot 31).state = .pending ∧ ((s .pending relay).slot 31).releaseEnd = .rep
        ∧ (s .pending relay).inFlight 31 = false)
      ∧ ((flying 1).inFlight 31 = true ∧ (flying 1).pins.drive = .busy ⟨31, .apply, .supply 2, 0⟩ (flying 1).uptime)
      ∧ ((flying 0).inFlight 31 = true ∧ ∀ e, (flying 0).pins.drive ≠ .busy e (flying 0).uptime)
      ∧ (((s .releasing relay).slot 31).state = .releasing ∧ ((s .releasing relay).slot 31).releaseEnd = .rep)
      ∧ (((s .active recordForce).slot 31).state = .active ∧ ((s .active recordForce).slot 31).record = some recordForce
        ∧ recordForce.action.relay = none)
      ∧ (((loaded .pending).slot 31).releaseEnd = .load
        ∧ (∃ e u, (loaded .pending).pins.drive = .busy e u ∧ e.slot = 31 ∧ e.kind = .apply)
        ∧ ((loaded .releasing).slot 31).releaseEnd = .load ∧ ((loaded .releasing).slot 31).state = .releasing)
      ∧ (((s .active relay).slot 31).record = some relay ∧ relay.action.relay = some (.supply 2)) := by
  and_intros <;> first | exact ⟨_, _, rfl, rfl, rfl⟩ | decide +kernel | (intro e h; cases h)

theorem witness_FaultArmArmsItsSlots :
    let s := withSlot 31 (fun x => { x with state := .loaded, record := some recordForce }) idleUnit
    ((0x80000000 : SlotMask).getLsbD (31 : Fin 32).val = true ∧ (s.slot 31).state = .loaded)
      ∧ ¬ ((0x80000001 : SlotMask).getLsbD (0 : Fin 32).val = true ∧ ((s.slot 0).state = .loaded ∨ (s.slot 0).state = .done)) := by
  and_intros <;> decide +kernel

/-- A delay and a width not yet passed, each at its boundary, where Remaining is 0. -/
theorem witness_ReportsShowTheState :
    let waits := (withSlot 2 (fun x => { slotWith .waiting recordForce x with progress := 360 }) running).slot 2
    let acts := (withSlot 2 (fun x => { slotWith .active recordForce x with progress := 1800 }) running).slot 2
    waits.record = some recordForce ∧ waits.state = .waiting ∧ waits.progress ≤ recordForce.delay
      ∧ acts.record = some recordForce ∧ acts.state = .active ∧ acts.progress ≤ recordForce.width
      ∧ 31 < 32 ∧ 1 < 2 := by decide +kernel

/-- Slot 2 armed for its trigger, in a running unit with nothing due; the next microsecond is run microsecond 1. -/
def waitingFor (tr : Trigger) (s : State) : State :=
  withSlot 2 (slotWith .armed { recordForce with trigger := tr }) s

/-- Where no slot holds anything and no transition, wait or path stands, the holder table is in order. -/
theorem holders_of_none {s : State} (h : ∀ t, s.holder t = none)
    (hs : ∀ k, (s.slot k).state = .empty
      ∨ (((s.slot k).state = .armed ∨ (s.slot k).state = .waiting) ∧ (s.slot k).record.isSome = true))
    (hw : ∀ p, s.wait p = none ∧ s.path p = .normal) (ht : transitions s = []) : HolderLaw s := by
  refine ⟨fun t k => ?_, fun k he => ?_, fun p w hp => by simp [(hw p).1] at hp, by simp [ht], by simp [ht],
    fun p hp => absurd (hw p).2 hp, fun p k hp => by simp [h] at hp⟩
  · rcases hs k with e | ⟨e | e, -⟩ <;> simp [h t, holding, e]
  · rcases hs k with e | ⟨-, e⟩
    · exact absurd e he
    · exact e

/-- Slot k holds channel 13 for a FORCE. -/
def forcing (k : Fin 32) (r : FaultRecord) (s : State) : State := (withSlot k (slotWith .active r) s).setHolder 37 (some k)

/-- Slot 2 armed for AT_START with no delay. -/
def firing (a : Action) : State :=
  withSlot 2 (slotWith .armed { recordForce with action := a, trigger := .atStart, delay := 0 }) running

def latched : FaultRecord := { recordForce with width := 0 }

theorem forcing_holders :
    HolderLaw (forcing 9 recordForce (firing (.force 13 50))) ∧ HolderLaw (forcing 2 recordForce running)
      ∧ HolderLaw (forcing 2 latched running) := by
  and_intros <;> (try unfold holding recordTargets) <;> (try unfold WaitLaw recordTargets) <;> (try unfold transitions EntryLaw)
    <;> (try unfold transitions) <;> decide +kernel

theorem witness_TriggersFireAtTheirMoment :
    let runs := fun (o : List WorkItem) (s : State) => s.run.state = .running ∧ s.run.work = [] ∧ nextDue s = none
      ∧ (s.slot 2).record.isSome = true ∧ (after (.runMicrosecond o) s).run.state ≠ .ended
    let holds := fun (s : State) => runs [] s ∧ (s.slot 2).state = .armed ∧ (s.slot 2).since ≤ s.uptime
      ∧ s.rot.acc < 5760000000
    let turning := withRot (fun r => { r with acc := 719712000, speed := 96000, prevTheta := 8992 }) running
    let at9000 := after (.runMicrosecond []) (waitingFor (.angle 9000 none) turning)
    let copy : FaultRecord := { recordForce with delay := 7, rep := 0 }
    let staging := withSlot 2 (fun x => { x with staged := some copy }) (waitingFor .atStart running)
    let first := fun s : State => runs [.slot 2] s ∧ (s.slot 2).state = .armed
    let aligned := withSlot 2 (fun x => { x with record := x.record.map (fun r => { r with aligned := true }) }) (firing (.openPin 17))
    let counting := withSlot 2 (slotWith .waiting recordForce) running
    ((HolderLaw (waitingFor .atStart running) ∧ HolderLaw (waitingFor (.angle 9000 none) turning)
        ∧ HolderLaw (waitingFor (.time 1) running) ∧ HolderLaw staging ∧ HolderLaw (firing (.force 13 50)) ∧ HolderLaw aligned
        ∧ HolderLaw (firing (.bridge 10 11)) ∧ HolderLaw counting)
      ∧ (HolderLaw (forcing 9 recordForce (firing (.force 13 50))) ∧ HolderLaw (forcing 2 recordForce running)
        ∧ HolderLaw (forcing 2 latched running)))
      ∧ holds (waitingFor .atStart running) ∧ holds (waitingFor (.angle 9000 none) turning) ∧ recordForce.delay ≠ 0
      ∧ (9000 < 72000 ∧ at9000.theta = 9000 ∧ (9000 + 72000 - turning.theta) % 72000 = 4
        ∧ 9000 % 72000 = (turning.theta + 4) % 72000)
      ∧ (holds (waitingFor (.time 1) running) ∧ 1 ≤ (after (.runMicrosecond []) (waitingFor (.time 1) running)).run.clock)
      ∧ (after (.runMicrosecond []) (waitingFor (.time 2) running)).run.clock < 2
      ∧ (holds staging ∧ copy.delay ≠ 0)
      ∧ (first (firing (.force 13 50)) ∧ (∀ g ∈ (Action.force 13 50).targets, (firing (.force 13 50)).holder g = none)
        ∧ (Action.force 13 50).relay = none ∧ (Action.force 13 50).targets ≠ [])
      ∧ (first aligned ∧ ∀ g ∈ (Action.openPin 17).targets, aligned.holder g = none)
      ∧ (first (firing (.bridge 10 11)) ∧ (Action.bridge 10 11).relay = some (.bridge 10 11))
      ∧ (first (forcing 9 recordForce (firing (.force 13 50)))
        ∧ ¬ ∀ g ∈ (Action.force 13 50).targets, (forcing 9 recordForce (firing (.force 13 50))).holder g = none)
      ∧ (runs [] counting ∧ (counting.slot 2).state = .waiting)
      ∧ (runs [] (forcing 2 recordForce running) ∧ ((forcing 2 recordForce running).slot 2).state = .active ∧ recordForce.width ≠ 0)
      ∧ (runs [] (forcing 2 latched running) ∧ ((forcing 2 latched running).slot 2).state = .active ∧ latched.width = 0)
      ∧ ((firing (.force 13 50)).slot 2).record.map (·.width) = some 1800 := by
  dsimp only
  refine ⟨⟨⟨?_, ?_, ?_, ?_, ?_, ?_, ?_, ?_⟩, forcing_holders⟩, ?_⟩
  iterate 8 exact holders_of_none (by decide +kernel) (by decide +kernel) (by decide +kernel) (by decide +kernel)
  and_intros <;> decide +kernel

theorem witness_DelayElapseApplies :
    let w := fun (r : FaultRecord) (n : Nat) (s : State) => withSlot 2 (fun x => { slotWith .waiting r x with progress := n }) s
    let act := fun a => ({ recordForce with action := a } : FaultRecord)
    let aligned : FaultRecord := { recordForce with action := .openPin 17, aligned := true }
    ((w recordForce 359 running).slot 2).state = .waiting ∧ ((w recordForce 359 running).slot 2).record = some recordForce
      ∧ (359 < recordForce.delay ∧ recordForce.delay ≤ 360)
      ∧ ¬ (∀ g ∈ recordForce.action.targets, ((w recordForce 360 running).setHolder 37 (some 9)).holder g = none)
      ∧ ((∀ g ∈ recordForce.action.targets, (w recordForce 360 running).holder g = none) ∧ recordForce.action.relay = none
        ∧ recordForce.action.targets ≠ [] ∧ recordForce.aligned = false)
      ∧ ((∀ g ∈ aligned.action.targets, (w aligned 360 running).holder g = none) ∧ aligned.aligned = true
        ∧ aligned.action = (if false then .shortGnd 17 else .openPin 17))
      ∧ ((∀ g ∈ (act (.bridge 10 11)).action.targets, (w (act (.bridge 10 11)) 360 running).holder g = none)
        ∧ (act (.bridge 10 11)).action.relay = some (.bridge 10 11)
        ∧ ∀ e, (w (act (.bridge 10 11)) 360 running).pins.drive ≠ .busy e 0)
      ∧ ((w (act .holdRun) 360 running).run.state = .running ∧ (w (act .holdRun) 360 running).run.flags.any = false)
      ∧ ((w (act .holdRun) 360 flagged).run.state = .running ∧ (w (act .holdRun) 360 flagged).run.flags.any = true)
      ∧ ((w (act .endRun) 360 held).inRun = true ∧ (w (act .endRun) 360 ended).inRun = false)
      ∧ ((w { act .endRun with rep := 1 } 360 held).slot 2).remaining = .finite 1
      ∧ ((w { act .endRun with rep := 0 } 360 held).slot 2).remaining = .endless := by
  and_intros <;> first | decide +kernel | (intro e h; cases h)

theorem witness_WidthElapseReleases :
    let a := fun (r : FaultRecord) (n : Nat) => atMicro 5 (withSlot 2 (fun x => { slotWith .active r x with progress := n }) running)
    let relay : FaultRecord := { recordForce with action := .shortSupply 2 }
    let follower : FaultRecord := { recordForce with trigger := .afterSlot 2 }
    let s := withSlot 3 (slotWith .armed follower) (a recordForce 1800)
    let granted := withPins (fun p => { p with drive := .busy ⟨7, .apply, .bridge 10 11, 0⟩ 5 }) (a relay 1800)
    ((a recordForce 1799).slot 2).state = .active ∧ ((a recordForce 1799).slot 2).record = some recordForce
      ∧ (1799 < recordForce.width ∧ recordForce.width ≠ 0 ∧ recordForce.width ≤ 1800)
      ∧ ((∀ j, ((a recordForce 1800).slot j).state ≠ .armed) ∧ recordForce.action.relay = none)
      ∧ ((∀ j, ((a relay 1800).slot j).state ≠ .armed) ∧ relay.action.relay = some (.supply 2)
        ∧ ∀ e, (a relay 1800).pins.drive ≠ .busy e 5)
      ∧ (granted.pins.drive = .busy ⟨7, .apply, .bridge 10 11, 0⟩ granted.uptime ∧ (granted.slot 7).releaseEnd = .rep)
      ∧ ((3 : Fin 32) ≠ 2 ∧ (s.slot 3).state = .armed ∧ (s.slot 3).since < s.uptime ∧ (s.slot 3).record = some follower
        ∧ follower.trigger = .afterSlot 2 ∧ (s.slot 3).staged = none ∧ follower.delay ≠ 0
        ∧ (after (.widthElapse 2 []) s).run.state = s.run.state) := by
  and_intros <;> first | decide +kernel | (intro e h; cases h)

theorem witness_PinMapStoresOrRefuses :
    let full := 0x10 :: 0x20 :: List.replicate 22 0xFF
    let ok := fun codes : List Nat => ∀ c ∈ codes, c ≤ 0x12 ∨ (0x20 ≤ c ∧ c ≤ 0x27) ∨ c = 0xFF
    let distinct := fun codes : List Nat => (codes.filter (fun c => decide (c ≠ 0xFF))).Nodup
    full.tail.length ≠ 24 ∧ full.length = 24 ∧ (between idleUnit ∧ ∀ p, idleUnit.holder (pinTarget p) = none) ∧ ok full ∧ distinct full
      ∧ ¬ between running ∧ ¬ (between idleUnit ∧ ∀ p, (idleUnit.setHolder 9 (some 4)).holder (pinTarget p) = none)
      ∧ (¬ ok (0x13 :: full.tail) ∧ ¬ ok (0x28 :: full.tail) ∧ ok (0x12 :: 0x27 :: List.replicate 22 0xFF))
      ∧ (ok (0x10 :: 0x10 :: List.replicate 22 0xFF) ∧ ¬ distinct (0x10 :: 0x10 :: List.replicate 22 0xFF)) := by
  and_intros <;> (try unfold between) <;> decide +kernel

theorem witness_PinMatrixGrantsAndTimesOut :
    let s := withPins (fun p => { p with drive := .free, waitList := [⟨7, .apply, .bridge 10 11, 0⟩, ⟨20, .release, .supply 2, 0⟩] }) running
    let w : AlignWait := ⟨8, false, .line .crank, 1000⟩
    (s.pins.drive = .free ∧ s.pins.waitList ≠ []) ∧ idleUnit.pins.drive ≠ .free
      ∧ (idleUnit.pins.drive = .recovering 5000 ∧ 5000 ≤ (atMicro 5000 idleUnit).uptime ∧ (atMicro 4999 idleUnit).uptime < 5000)
      ∧ (∀ u, s.pins.drive ≠ .recovering u)
      ∧ ((running.setWait 17 (some w)).wait 17 = some w ∧ (atMicro 20999 running).uptime < w.since + 20000
        ∧ w.since + 20000 ≤ (atMicro 21000 running).uptime) ∧ running.wait 17 = none := by
  and_intros <;> first | decide +kernel | (intro u h; cases h)

theorem witness_RelayTransitionsComplete :
    let s := fun kind u => atMicro u (withPins (fun p => { p with drive := .busy ⟨20, kind, .bridge 10 11, 0⟩ 100000 }) running)
    (s .apply 104999).pins.drive = .busy ⟨20, .apply, .bridge 10 11, 0⟩ 100000 ∧ (s .apply 104999).uptime < 100000 + 5000
      ∧ 100000 + 5000 ≤ (s .release 105000).uptime ∧ ((s .apply 105000).slot 20).releaseEnd = .rep
      ∧ ((withSlot 20 (fun x => { x with releaseEnd := .load }) (s .apply 105000)).slot 20).releaseEnd = .load
      ∧ (withSup (fun u => { u with shutdown := .driver }) (s .apply 105000)).sup.shutdown = .driver ∧ (10 : Fin 24) ≠ 11 := by
  and_intros <;> decide +kernel

theorem witness_HarnessPinsFollowTheirPaths :
    let pin := fun (src : PinSource) (path : Path) => (withPins (fun p => { p with routed := setAt p.routed 20 src })
      running).setPath 20 path
    let on := withSup (fun u => { u with driver := .on })
    let held := fun t p => withSlot 4 (slotWith .active { recordForce with action := .bridge t p })
      ((pin .unused (.bridge 10)).setHolder 20 (some 4))
    let drive := fun d => withPins (fun p => { p with drive := d, waitList := [⟨7, .apply, .supply 2, 0⟩] }) (atMicro 105000 running)
    let busy := fun kind => drive (.busy ⟨20, kind, .supply 2, 0⟩ 100000)
    (getAt running.pins.routed 20 = .unused ∧ running.moving 20 = false ∧ running.path 20 = .normal)
      ∧ getAt (pin (.tap 3) .normal).pins.routed 20 = .tap 3
      ∧ (getAt (pin (.line .crank) .normal).pins.routed 20 = .line .crank ∧ (on running).sup.driver = .on)
      ∧ (getAt (pin (.line (.cam 1)) .normal).pins.routed 20 = .line (.cam 1) ∧ running.sup.driver ≠ .on)
      ∧ (getAt (pin (.line (.channel 13)) .normal).pins.routed 20 = .line (.channel 13) ∧ (running.chan 13).pinEnable = false
        ∧ ((withChan 13 (fun c => { c with pinEnable := true }) running).chan 13).pinEnable = true)
      ∧ (pin .unused .openPath).path 20 = .openPath ∧ (pin .unused .shortGnd).path 20 = .shortGnd
      ∧ (pin .unused .shortSupply).path 20 = .shortSupply
      ∧ ((held 20 10).path 20 = .bridge 10 ∧ (held 20 10).moving 20 = false ∧ (held 20 10).holder (pinTarget 20) = some 4
        ∧ ((held 20 10).slot 4).record = some { recordForce with action := .bridge 20 10 })
      ∧ (((held 10 20).slot 4).record = some { recordForce with action := .bridge 10 20 } ∧ (20 : Fin 24) ≠ 10)
      ∧ ((drive .free).pins.drive = .free ∧ (drive .free).pins.waitList ≠ [])
      ∧ ((busy .apply).pins.drive = .busy ⟨20, .apply, .supply 2, 0⟩ 100000 ∧ 100000 + 5000 ≤ (busy .apply).uptime)
      ∧ (busy .release).pins.drive = .busy ⟨20, .release, .supply 2, 0⟩ 100000 := by
  and_intros <;> decide +kernel

theorem witness_SupplyRequestsCommandTheFeeds :
    (1 < 2 ∧ 0 ≤ 1) ∧ 1 ≤ 1 ∧ SupplyLaw idleUnit ∧ SupplyLaw (powered 2040001)
      ∧ ((powered 2040001).sup.battCmd = true ∧ (powered 2040001).sup.ignCmd = true) := by
  and_intros <;> decide +kernel

theorem witness_SupplyTimersRunOut :
    let stage := fun u => withSup (fun v => { v with shutdown := .feed 2041000 }) (powered u)
    SupplyLaw (powered 2089999) ∧ ((powered 2089999).sup.waitStart = some 2040000 ∧ (powered 2089999).sup.waitDone = false
        ∧ (powered 2089999).uptime < 2040000 + 50000 ∧ 2040000 + 50000 ≤ (powered 2090000).uptime)
      ∧ idleUnit.sup.waitStart = none
      ∧ ((powered 2139999).sup.driver = .wakeWait 2040000 ∧ (powered 2139999).uptime < 2040000 + 100000
        ∧ 2040000 + 100000 ≤ (powered 2140000).uptime) ∧ idleUnit.sup.driver = .off
      ∧ (SupplyLaw (stage 2041000) ∧ (stage 2041000).sup.shutdown = .feed 2041000 ∧ 2041000 ≤ (stage 2041000).uptime
        ∧ (stage 2040999).uptime < 2041000) ∧ idleUnit.sup.shutdown = .none := by
  and_intros <;> decide +kernel

theorem witness_ConnectSenseIsDebounced :
    let s := fun u m => atMicro u (withSup (fun v => { v with sensed := false, conn := .debouncing 2000000, connPin := false, mode := m }) running)
    let on := fun m (r : State) => withSup (fun v => { v with sensed := false, conn := .connected, connPin := false, mode := m }) r
    let past : State := { on .auto (crowdedAt 500 500) with run := ended.run }
    let started := withSlot 5 (fun x => { x with releaseEnd := .load }) past
    (HolderLaw (on .auto releasing) ∧ HolderLaw (on .auto (crowdedAt 500 3))) ∧ idleUnit.sup.sensed = true
      ∧ ((unread idleUnit).sup.conn = .disconnected ∧ (unread idleUnit).sup.sensed = false)
      ∧ ((s 2039999 .manual).sup.conn = .debouncing 2000000 ∧ (s 2039999 .manual).uptime < 2000000 + 40000)
      ∧ (2000000 + 40000 ≤ (s 2040000 .manual).uptime ∧ (s 2040000 .manual).sup.connPin = false ∧ (s 2040000 .manual).sup.mode = .manual)
      ∧ (withSup (fun v => { v with connPin := true }) (s 2040000 .manual)).sup.connPin = true
      ∧ ((s 2040000 .auto).sup.mode = .auto ∧ SupplyLaw (s 2040000 .auto) ∧ (s 2040000 .auto).sup.battCmd = false
        ∧ (s 2040000 .auto).sup.driver = .off ∧ (s 2040000 .auto).sup.battDrop = false)
      ∧ (SupplyLaw (withSup (fun v => { v with sensed := false, conn := .debouncing 2050000, connPin := false, mode := .auto }) (powered 2090000))
        ∧ (powered 2090000).sup.driver ≠ .off)
      ∧ ((on .manual running).sup.conn = .connected ∧ (on .manual running).sup.mode = .manual ∧ between (on .auto ended)
        ∧ ¬ between (on .manual running))
      ∧ ((on .auto running).sup.mode = .auto ∧ ∀ e u, (on .auto running).pins.drive ≠ .busy e u)
      ∧ ((on .auto (crowdedAt 0 0)).pins.drive = .busy ⟨5, .apply, .bridge 10 11, 0⟩ 0 ∧ 0 ≠ (on .auto (crowdedAt 0 0)).uptime)
      ∧ ((on .auto (crowdedAt 500 3)).pins.drive = .busy ⟨5, .apply, .bridge 10 11, 3⟩ (on .auto (crowdedAt 500 3)).uptime
        ∧ (withPins (fun p => { p with completed := some 500 }) (on .auto (crowdedAt 500 3))).pins.completed = some 500)
      ∧ ((on .auto (crowdedAt 500 500)).pins.drive = .busy ⟨5, .apply, .bridge 10 11, 500⟩ (on .auto (crowdedAt 500 500)).uptime
        ∧ (on .auto (crowdedAt 500 500)).pins.completed ≠ some 500 ∧ ¬ between (on .auto (crowdedAt 500 500))
        ∧ ((on .auto (crowdedAt 500 500)).slot 5).state = .pending ∧ (on .auto (crowdedAt 500 500)).sup.mode = .auto)
      ∧ (releasing.pins.drive = .busy ⟨6, .release, .supply 12, 0⟩ releasing.uptime ∧ releasing.pins.completed ≠ some 500
        ∧ (on .auto releasing).sup.mode = .auto)
      ∧ (between past ∧ past.pins.drive = .busy ⟨5, .apply, .bridge 10 11, 500⟩ past.uptime ∧ (past.slot 5).releaseEnd = .rep
        ∧ between started ∧ (started.slot 5).releaseEnd = .load)
      ∧ ((on .auto (crowdedAt 500 3)).pins.completed ≠ some 500 ∧ ¬ between (on .auto (crowdedAt 500 3))
        ∧ ((on .auto (crowdedAt 500 3)).slot 5).releaseEnd = .rep) := by
  refine ⟨⟨crowded_holders.2.2, crowded_holders.2.1⟩, ?_⟩
  and_intros <;> first | (intro e u h; cases h; done) | (unfold between; decide +kernel) | decide +kernel

theorem witness_NoticesAndRoutesAreKept :
    ([0] : List Nat).length ≠ 8 ∧ ([0, 1, 0, 0, 0, 0, 1, 0].length = 8 ∧ (∀ e ∈ [0, 1, 0, 0, 0, 0, 1, 0], e ≤ 1) ∧ 1 ≤ 1 ∧ 512 ≤ 512)
      ∧ ¬ ((∀ e ∈ [2, 0, 0, 0, 0, 0, 0, 0], e ≤ 1) ∧ 1 ≤ 1 ∧ 1 ≤ 512) ∧ ¬ ((∀ e ∈ [0, 0, 0, 0, 0, 0, 0, 0], e ≤ 1) ∧ 1 ≤ 513 ∧ 513 ≤ 512)
      ∧ (3 < 4 ∧ 4 ≤ 7 ∧ 71999 < 72000 ∧ (3 : Fin 4).val = 3) ∧ (31 < 32 ∧ ∃ k : Fin 32, k.val = 31) ∧ (9 < 10 ∧ ∃ k : Fin 10, k.val = 9)
      ∧ ¬ (4 < 4) ∧ ¬ (8 ≤ 7) ∧ ¬ (4 = 4 → 72000 < 72000)
      ∧ (getAt (idleUnit.setTimer 0 (some 109)).ntc.timers 0 = some 109 ∧ (atMicro 109 idleUnit).uptime ≤ 109
        ∧ 109 < (atMicro 110 idleUnit).uptime) ∧ getAt idleUnit.ntc.timers 0 = none := by
  and_intros <;> decide +kernel

theorem witness_TriggerOutputsAndAttention :
    let s := withNtcRoute 0 (.angleMark 9000) (withNtcRoute 1 .cyclePulse
      (withRot (fun r => { r with acc := 719712000, speed := 96000, prevTheta := 8992 }) running))
    let wrapping := withRot (fun r => { r with acc := 5759800000, speed := 192000 }) s
    let t := after (.runMicrosecond []) s
    (RotationLaw s ∧ SupplyLaw s ∧ s.run.state = .running ∧ s.run.work = [] ∧ nextDue s = none ∧ .pause ∉ ([] : List WorkItem))
      ∧ (getAt s.ntc.routes 0 = .angleMark 9000 ∧ t.theta = 9000 ∧ (9000 + 72000 - s.theta) % 72000 = 4
        ∧ 9000 % 72000 = (s.theta + 4) % 72000)
      ∧ (∀ i < 5, 1 ≤ i → 8999 + 2 ≠ (s.theta + i) % 72000)
      ∧ (getAt s.ntc.routes 1 = .cyclePulse ∧ ¬ 5760000000 ≤ s.rot.acc + 3 * nextSpeed s.rot)
      ∧ (RotationLaw wrapping ∧ nextDue wrapping = none ∧ 5760000000 ≤ wrapping.rot.acc + 3 * nextSpeed wrapping.rot)
      ∧ idleUnit.link.resetAt = idleUnit.uptime ∧ (atMicro 1 idleUnit).link.resetAt ≠ (atMicro 1 idleUnit).uptime := by
  and_intros <;> (try unfold PointLaw) <;> decide +kernel

theorem witness_ReceiverFindsItsFrames :
    listening.link.receiver = .hunting ∧ ((0x04 : Byte).toNat < 128 ∧ (0x04 : Byte).toNat % 16 = listening.link.address.toNat)
      ∧ ((0x0F : Byte).toNat < 128 ∧ (0x0F : Byte).toNat % 16 = 15) ∧ ¬ ((0x84 : Byte).toNat < 128)
      ∧ idleUnit.link.receiver = .initializing 20000 ∧ (receiving []).link.receiver = .receiving false [] 101
      ∧ (receiving [5]).link.receiver = .receiving false [5] 101 ∧ (receiving []).uptime < 101
      ∧ 101 ≤ (atMicro 101 (receiving [])).uptime ∧ (1 ≤ (250 : Byte).toNat ∧ (250 : Byte).toNat ≤ 250)
      ∧ (0 : Byte).toNat = 0 ∧ 250 < (251 : Byte).toNat
      ∧ (∀ bc data last, listening.link.receiver ≠ .receiving bc data last) := by
  and_intros <;> first | decide +kernel | (intro bc data last h; cases h)

theorem witness_GoodFramesReachTheirBlock :
    let broadcast := withLink (fun l => { l with receiver := .receiving true [] 81 }) listening
    let working := replying (receiving [])
    ((chars ([1, 0x12] ++ crcBytes [1, 0x12])).map (·.data) = [1, 0x12] ++ crcBytes [1, 0x12]
        ∧ (chars ([1, 0x12] ++ [0, 0])).map (·.data) = [1, 0x12] ++ [0, 0])
      ∧ ((receiving []).link.receiver = .receiving false [] 101 ∧ (receiving []).link.inWork = none ∧ ([] : List Byte).length ≤ 249
        ∧ parseRequest 0x12 [] = .request .hold) ∧ parseRequest 0x80 [] = .unknownKind ∧ parseRequest 0x12 [0] = .badLength
      ∧ (working.link.receiver = .receiving false [] 101 ∧ working.link.inWork.isSome = true ∧ working.link.waiting = none)
      ∧ (withLink (fun l => { l with waiting := some ⟨0x12, []⟩ }) working).link.waiting.isSome = true
      ∧ (broadcast.link.receiver = .receiving true [] 81 ∧ exec .hold { broadcast with link := { broadcast.link with receiver := .hunting } }
          = .next (after .hold { broadcast with link := { broadcast.link with receiver := .hunting } }))
      ∧ parseRequest 0x01 [] = .request .identify
      ∧ ([0, 0] : List Byte) ≠ crcBytes [1, 0x12] ∧ (List.replicate 249 (0 : Byte)).length ≤ 249 := by
  and_intros <;> first | decide +kernel | rfl

theorem witness_RepliesAndTheirEnds :
    let s := fun p u => atMicro u (withLink (fun l => { l with inWork := some ⟨0xD2, [0, 3, 0, 0, 0], false, 20, p⟩ }) listening)
    listening.link.inWork = none ∧ (s .formed 59).link.inWork = some ⟨0xD2, [0, 3, 0, 0, 0], false, 20, .formed⟩
      ∧ ReplyPhase.sent ≠ .formed ∧ (s .sent 90).link.inWork = some ⟨0xD2, [0, 3, 0, 0, 0], false, 20, .sent⟩
      ∧ ((s (.sending 59) 80).uptime < 59 + 22 * (5 + 5) / 10 ∧ 59 + 22 * (5 + 5) / 10 ≤ (s (.sending 59) 81).uptime)
      ∧ ((withLink (fun l => { l with inWork := some ⟨0x83, [0], true, 20, .sending 59⟩ }) listening).link.inWork.map (·.resets)) = some true
      ∧ (s (.sending 59) 81).link.waiting = none
      ∧ ((withLink (fun l => { l with waiting := some ⟨0x12, []⟩ }) (s (.sending 59) 81)).link.waiting = some ⟨0x12, []⟩
        ∧ parseRequest 0x12 [] = .request .hold)
      ∧ ((withLink (fun l => { l with waiting := some ⟨0x80, []⟩ }) (s (.sending 59) 81)).link.waiting = some ⟨0x80, []⟩
        ∧ parseRequest 0x80 [] = .unknownKind ∧ parseRequest 0x12 [0] = .badLength)
      ∧ (idleUnit.link.receiver = .initializing 20000 ∧ 20000 ≤ (atMicro 20000 idleUnit).uptime ∧ (atMicro 19999 idleUnit).uptime < 20000)
      ∧ (∀ u, listening.link.receiver ≠ .initializing u) := by
  and_intros <;> first | decide +kernel | (intro u h; cases h)

theorem witness_ResetsTakeTheirValues :
    let s := fun u => withSlot 2 (slotWith .active recordForce) (withLink (fun l => { l with resetDue := some 700 }) (atMicro u running))
    running.link.resetDue = none ∧ ((s 699).link.resetDue = some 700 ∧ (s 699).uptime < 700) ∧ 700 ≤ (s 700).uptime
      ∧ ((s 700).slot 3).state = .empty ∧ ((s 700).slot 2).state ≠ .empty ∧ (s 700).sup.shutdown ≠ .driver
      ∧ (withSup (fun u => { u with shutdown := .driver }) (s 700)).sup.shutdown = .driver
      ∧ (SupplyLaw (powered 2090000) ∧ (powered 2090000).sup.driver ≠ .off)
      ∧ ((withSup (fun u => { u with battCmd := true, drvReq := true }) (s 700)).sup.driver = .off) := by
  and_intros <;> decide +kernel

/-- A running unit in the middle of a run: slot 4 ACTIVE with P9 shorted to supply and slot 5 waiting behind it in the relay
list, a record in the log, a STREAM channel with a segment, a frame in progress. -/
def busyUnit : State :=
  let short : FaultRecord := { recordForce with action := .shortSupply 9, trigger := .atStart, measure := .time }
  let bridge : FaultRecord := { short with action := .bridge 10 11 }
  let s := (((running.setHolder 9 (some 4)).setHolder 10 (some 5)).setHolder 11 (some 5)).setPath 9 .shortSupply
  let s := withSlot 4 (slotWith .active short) (withSlot 5 (slotWith .pending bridge) s)
  let s := withPins (fun p => { p with drive := .busy ⟨5, .apply, .bridge 10 11, 0⟩ 0 }) s
  let s := withChan 3 (fun c => { streaming c with queue := [⟨2000, 4, 250, 2⟩] }) s
  let s := withRot (fun r => { r with acc := 80072000, speed := 12000, prevTheta := 1000, wheel := wheelStored wheel60,
                                      queue := [⟨192000, 16777215, 0⟩] }) s
  let s := raiseFault 7 (withLink (fun l => { l with receiver := .receiving false [5, 0x52] 0, inWork := some ⟨0xD2, [0], false, 0, .formed⟩ }) s)
  { s with trace := [(0, 1), (1048575, 2)], run := { s.run with clock := 9 },
           cap := { s.cap with log := [⟨1, .fall, 5, 9000, 1, true, false⟩] } }

theorem witness_StepKeepsMemoryRotationAndPatterns :
    step busyUnit = .next (idle busyUnit) ∧ TraceLaw busyUnit ∧ RotationLaw busyUnit ∧ PatternLaw busyUnit := by
  and_intros <;> (try unfold TraceLaw) <;> (try unfold WheelLaw) <;> (try unfold CamLaw) <;> (try unfold PointLaw)
    <;> first | decide +kernel | rfl

theorem witness_StepKeepsTheRunAndItsLog : step busyUnit = .next (idle busyUnit) ∧ RunLaw busyUnit ∧ LogLaw busyUnit := by
  and_intros <;> first | decide +kernel | rfl

theorem witness_StepKeepsTheFeedOrder :
    SupplyLaw (powered 2090000) ∧ step (powered 2090000) = .next (idle (powered 2090000)) := by
  and_intros <;> first | decide +kernel | rfl

theorem witness_StepKeepsQueuesGuardsNoticesAndLink :
    step busyUnit = .next (idle busyUnit) ∧ QueueLaw busyUnit ∧ GuardLaw busyUnit ∧ NoticeLaw busyUnit ∧ LinkLaw busyUnit := by
  refine ⟨rfl, by unfold QueueLaw SegmentLaw; decide +kernel, by unfold GuardLaw; decide +kernel,
    by unfold NoticeLaw; decide +kernel, by decide +kernel, by decide +kernel, by decide +kernel, by decide +kernel, ?_⟩
  intro bc l rest last h
  cases h
  decide

theorem witness_StepKeepsTheHolderTable : HolderLaw busyUnit ∧ step busyUnit = .next (idle busyUnit) := by
  and_intros <;> (try unfold holding recordTargets) <;> (try unfold WaitLaw recordTargets) <;> (try unfold transitions EntryLaw)
    <;> (try unfold transitions) <;> first | decide +kernel | rfl

end Sys2Proof.Tests
end

section
/-! PROOFS. The speed of a point (R7). The truncated quotient of integers is, on each side of S0, a quotient of natural numbers
taken off the distance |S1 − S0|; that distance bounds it, and every clause is read off these two equations. -/

namespace Sys2Proof.Machine

section Ramp

variable {p : SpeedPoint} {s0 k : Nat}

/-- The part of a distance `d` covered after `k` of `n` steps never exceeds it. -/
theorem rampPart_le {d k n : Nat} (h : k ≤ n) : d * k / n ≤ d :=
  Nat.div_le_of_le_mul (by simpa [Nat.mul_comm] using Nat.mul_le_mul_left d h)

/-- Toward a higher target truncation rounds the covered part down. -/
theorem rampSpeed_up {s1 n : Nat} (h : s0 ≤ s1) :
    (s0 : Int) + Int.tdiv (((s1 : Int) - s0) * k) n = ((s0 + (s1 - s0) * k / n : Nat) : Int) := by
  rw [← Int.ofNat_sub h, ← Int.natCast_mul, ← Int.ofNat_tdiv, Int.natCast_add]

/-- Toward a lower target truncation rounds the covered part down as well: the speed stays on the side of S0. -/
theorem rampSpeed_down {s1 n : Nat} (h : s1 ≤ s0) (hk : k ≤ n) :
    (s0 : Int) + Int.tdiv (((s1 : Int) - s0) * k) n = ((s0 - (s0 - s1) * k / n : Nat) : Int) := by
  have hle : (s0 - s1) * k / n ≤ s0 := (rampPart_le hk).trans (Nat.sub_le s0 s1)
  rw [← Int.neg_sub, ← Int.ofNat_sub h, Int.neg_mul, Int.neg_tdiv, ← Int.natCast_mul, ← Int.ofNat_tdiv,
    Int.ofNat_sub hle, Int.sub_eq_add_neg]

/-! ### The speed in the ramp and after it -/

theorem SpeedPoint.speedAt_hold (h : p.ramp < k) : p.speedAt s0 k = p.target :=
  if_neg fun hk => absurd hk.1 (Nat.not_le.mpr h)

theorem SpeedPoint.speedAt_up (hk : 1 ≤ k) (hr : k ≤ p.ramp) (h : s0 ≤ p.target) :
    p.speedAt s0 k = s0 + (p.target - s0) * k / p.ramp := by
  rw [SpeedPoint.speedAt, if_pos ⟨hr, hk.trans hr⟩, rampSpeed_up h, Int.toNat_natCast]

theorem SpeedPoint.speedAt_down (hk : 1 ≤ k) (hr : k ≤ p.ramp) (h : p.target ≤ s0) :
    p.speedAt s0 k = s0 - (s0 - p.target) * k / p.ramp := by
  rw [SpeedPoint.speedAt, if_pos ⟨hr, hk.trans hr⟩, rampSpeed_down h hr, Int.toNat_natCast]

/-- Through the ramp the model's `toNat` loses nothing: the formula of R7 is never negative. -/
theorem SpeedPoint.speedAt_ramp (hk : 1 ≤ k) (hr : k ≤ p.ramp) :
    (p.speedAt s0 k : Int) = s0 + Int.tdiv (((p.target : Int) - s0) * k) p.ramp := by
  rcases Nat.le_total s0 p.target with h | h
  · rw [speedAt_up hk hr h, rampSpeed_up h]
  · rw [speedAt_down hk hr h, rampSpeed_down h hr]

/-! ### What the speed reaches, and its bounds -/

theorem SpeedPoint.speedAt_ramp_end (hk : 1 ≤ k) (he : k = p.ramp) : p.speedAt s0 k = p.target := by
  have covered (d : Nat) : d * k / p.ramp = d := by rw [← he, Nat.mul_div_cancel d hk]
  rcases Nat.le_total s0 p.target with h | h
  · rw [speedAt_up hk he.le h, covered, Nat.add_sub_cancel' h]
  · rw [speedAt_down hk he.le h, covered, Nat.sub_sub_self h]

theorem SpeedPoint.speedAt_between (hk : 1 ≤ k) :
    min s0 p.target ≤ p.speedAt s0 k ∧ p.speedAt s0 k ≤ max s0 p.target := by
  rcases Nat.lt_or_ge p.ramp k with hh | hr
  · rw [speedAt_hold hh]
    exact ⟨Nat.min_le_right .., Nat.le_max_right ..⟩
  rcases Nat.le_total s0 p.target with h | h
  · rw [speedAt_up hk hr h, Nat.min_eq_left h, Nat.max_eq_right h]
    exact ⟨Nat.le_add_right .., Nat.add_le_of_le_sub' h (rampPart_le hr)⟩
  · rw [speedAt_down hk hr h, Nat.min_eq_right h, Nat.max_eq_left h]
    exact ⟨Nat.le_sub_of_add_le (Nat.add_le_of_le_sub' h (rampPart_le hr)), Nat.sub_le ..⟩

theorem SpeedPoint.speedAt_constant (hk : 1 ≤ k) (h : p.target = s0) : p.speedAt s0 k = s0 := by
  simpa [h, le_antisymm_iff, and_comm] using speedAt_between (p := p) (s0 := s0) hk

/-- Rising, the speed is at or below the straight line from S0 to S1. -/
theorem SpeedPoint.speedAt_up_rounds_toward_start (hk : 1 ≤ k) (h : s0 ≤ p.target) (hr : k ≤ p.ramp) :
    (p.speedAt s0 k - s0) * p.ramp ≤ (p.target - s0) * k := by
  rw [speedAt_up hk hr h, Nat.add_sub_cancel_left]
  exact Nat.div_mul_le_self _ _

/-- Falling, the speed is at or above the straight line from S0 to S1. -/
theorem SpeedPoint.speedAt_down_rounds_toward_start (hk : 1 ≤ k) (h : p.target ≤ s0) (hr : k ≤ p.ramp) :
    (s0 - p.speedAt s0 k) * p.ramp ≤ (s0 - p.target) * k := by
  rw [speedAt_down hk hr h, Nat.sub_sub_self ((rampPart_le hr).trans (Nat.sub_le s0 p.target))]
  exact Nat.div_mul_le_self _ _

theorem SpeedPoint.length_of_no_ramp (h : p.ramp = 0) : p.length = max p.hold 1 := by
  rw [SpeedPoint.length, h, Nat.zero_add, Nat.max_comm]

end Ramp

/-- Settles O8: the formula of R7 from its two equations in natural numbers, one for each direction of the ramp. -/
theorem speedRampIsExact : Obligations.SpeedRampIsExact := by
  intro p s0 k hk
  obtain ⟨lower, upper⟩ := SpeedPoint.speedAt_between (p := p) (s0 := s0) hk
  exact ⟨SpeedPoint.speedAt_ramp hk, SpeedPoint.speedAt_ramp_end hk, SpeedPoint.speedAt_hold,
    SpeedPoint.speedAt_constant hk, lower, upper, SpeedPoint.speedAt_up_rounds_toward_start hk,
    SpeedPoint.speedAt_down_rounds_toward_start hk, SpeedPoint.length_of_no_ramp⟩

end Sys2Proof.Machine
end

section
/-! PROOFS. Trace memory and windows (R48, R49, R69). A burst of writes reads back sample by sample because the first write of
the burst lies below all the others; a burst of reads is one read per place; a window is an interval of offsets from its
start, and every clause about coverage is arithmetic modulo the cycle on that one fact. -/

namespace Sys2Proof.Machine

open Sys2Proof.Safety

/-! ### The range checks of the trace requests -/

theorem traceRange_eq_true {a n : Nat} :
    traceRange a n = true ↔ a ≤ 1048575 ∧ 1 ≤ n ∧ n ≤ 120 ∧ a + n ≤ 1048576 := by
  simp only [traceRange, Bool.and_eq_true, decide_eq_true_eq, and_assoc]
  exact and_congr_left' Nat.lt_succ_iff

theorem traceRange_eq_false {a n : Nat} :
    traceRange a n = false ↔ 1048575 < a ∨ n = 0 ∨ 120 < n ∨ 1048576 < a + n := by
  rw [← Bool.not_eq_true, traceRange_eq_true]
  omega

/-! ### Bursts of samples -/

/-- Reading after a burst of writes: sample `b - a` of the burst inside it, the memory as before outside. -/
theorem Memory.read_writeMany {m : Memory} (h : m.wf = true) (a : Nat) (xs : List Sample)
    (ha : a + xs.length ≤ Config.traceSize) (b : Nat) :
    (m.writeMany a xs).read b = if a ≤ b ∧ b < a + xs.length then xs.getD (b - a) 0 else m.read b := by
  induction xs generalizing m a with
  | nil => rw [if_neg (by simp)]; rfl
  | cons x xs ih =>
    rw [List.length_cons] at ha ⊢
    have hw : (m.write a x).wf = true := Memory.write_wf h a x (by omega)
    rw [Memory.writeMany, ih hw (a + 1) (by omega), Memory.read_write h]
    rcases Nat.lt_trichotomy b a with below | rfl | above
    · rw [if_neg (by omega), if_neg (by omega), if_neg (by omega)]
    · rw [if_neg (by omega), if_pos rfl, if_pos (by omega), Nat.sub_self, List.getD_cons_zero]
    · obtain ⟨i, rfl⟩ : ∃ i, b = a + 1 + i := ⟨b - (a + 1), by omega⟩
      have place : a + 1 + i - a = i + 1 := by omega
      rw [place, List.getD_cons_succ, Nat.add_sub_cancel_left, if_neg (by omega : ¬ a + 1 + i = a)]
      exact if_congr (by omega) rfl rfl

theorem Memory.readMany_eq_map (m : Memory) (a n : Nat) :
    m.readMany a n = (List.range n).map (fun i => m.read (a + i)) := by
  induction n generalizing a with
  | zero => rfl
  | succ n ih =>
    rw [Memory.readMany, ih, List.range_succ_eq_map, List.map_cons, List.map_map]
    simp [Function.comp_def, Nat.add_right_comm, Nat.add_assoc]

/-! ### What TRACE-WRITE and TRACE-READ answer -/

theorem exec_traceWrite (a n : Nat) (xs : List Sample) (s : State) :
    exec (.traceWrite a n xs) s = .next (respond 0x30 (reqTraceWrite a n xs s)) := rfl

theorem exec_traceRead (a n : Nat) (s : State) :
    exec (.traceRead a n) s = .next (respond 0x31 (reqTraceRead a n s)) := rfl

theorem exec_traceWrite_badLength {a n : Nat} {xs : List Sample} (s : State) (hl : xs.length ≠ n) :
    exec (.traceWrite a n xs) s = .next (answered 0x30 .badLength [] s) := by
  rw [exec_traceWrite, reqTraceWrite, if_pos hl]
  exact congrArg _ (respond_badLength ..)

theorem exec_traceWrite_badField {a n : Nat} {xs : List Sample} (s : State) (hl : xs.length = n)
    (hr : traceRange a n = false) :
    exec (.traceWrite a n xs) s = .next (answered 0x30 .badField [0, 0, 0, 0] s) := by
  rw [exec_traceWrite, reqTraceWrite, if_neg (not_not_intro hl), hr]
  exact congrArg _ (respond_answered 0x30 .badField _ s (by decide) (by decide))

theorem exec_traceWrite_ok {a n : Nat} {xs : List Sample} (s : State) (hl : xs.length = n)
    (hr : traceRange a n = true) :
    exec (.traceWrite a n xs) s
      = .next (answered 0x30 .ok (le 3 a ++ le 1 n) { s with trace := s.trace.writeMany a xs }) := by
  rw [exec_traceWrite, reqTraceWrite, if_neg (not_not_intro hl), if_pos hr]
  exact congrArg _ (respond_answered 0x30 .ok _ _ (by decide) (by decide))

theorem exec_traceRead_badField {a n : Nat} (s : State) (hr : traceRange a n = false) :
    exec (.traceRead a n) s = .next (answered 0x31 .badField (le 3 a ++ [0]) s) := by
  rw [exec_traceRead, reqTraceRead, hr]
  exact congrArg _ (respond_answered 0x31 .badField _ s (by decide) (by decide))

theorem exec_traceRead_ok {a n : Nat} (s : State) (hr : traceRange a n = true) :
    exec (.traceRead a n) s = .next (answered 0x31 .ok
      (le 3 a ++ le 1 n ++ (List.range n).flatMap (fun i => le 2 (s.trace.read (a + i)).toNat)) s) := by
  rw [exec_traceRead, reqTraceRead, if_pos hr, Memory.readMany_eq_map, List.map_map, ← List.flatMap_def]
  exact congrArg _ (respond_answered 0x31 .ok _ s (by decide) (by decide))

/-- Settles O18: the canonical memory after the burst reads as R48 says. -/
theorem traceWriteStoresItsSamples : Obligations.TraceWriteStoresItsSamples := by
  intro a n xs s hcanon
  refine ⟨exec_traceWrite_badLength s, fun hl bad => exec_traceWrite_badField s hl (traceRange_eq_false.mpr bad),
    fun hl ha h1 h120 hend => ⟨s.trace.writeMany a xs,
      exec_traceWrite_ok s hl (traceRange_eq_true.mpr ⟨ha, h1, h120, hend⟩), fun b => ?_⟩⟩
  subst hl
  exact Memory.read_writeMany hcanon a xs hend b

/-- Settles O19: the burst read is one read per place, in ascending order. -/
theorem traceReadReturnsTheSamples : Obligations.TraceReadReturnsTheSamples := fun _ _ s =>
  ⟨fun bad => exec_traceRead_badField s (traceRange_eq_false.mpr bad),
    fun ha h1 h120 hend => exec_traceRead_ok s (traceRange_eq_true.mpr ⟨ha, h1, h120, hend⟩)⟩

/-! ### Windows -/

section Window

variable {w : Window} {theta : Nat}

theorem Window.covers_disabled (h : w.enable = false) : w.covers theta = false := by
  rw [Window.covers, h, Bool.false_and]

theorem Window.covers_iff :
    w.covers theta = true ↔ w.enable = true ∧ w.offset theta ≤ (w.stop + 72000 - w.start) % 72000 := by
  rw [Window.covers, Bool.and_eq_true, decide_eq_true_eq, Config.cycleAngle]

/-- Within the cycle the offset is the way up from start, one cycle longer when the angle lies below start. -/
theorem Window.offset_eq (hs : w.start < 72000) (ht : theta < 72000) :
    w.offset theta = if w.start ≤ theta then theta - w.start else theta + 72000 - w.start := by
  rw [Window.offset, Config.cycleAngle]
  split <;> omega

theorem Window.offset_eq_emod (hs : w.start < 72000) :
    (w.offset theta : Int) = ((theta : Int) - w.start) % 72000 := by
  rw [Window.offset, Config.cycleAngle]
  omega

/-- The angle that lies `i` above start has offset `i`, and no other angle has. -/
theorem Window.offset_eq_iff {i : Nat} (hs : w.start < 72000) (ht : theta < 72000) (hi : i < 72000) :
    w.offset theta = i ↔ theta = (w.start + i) % 72000 := by
  rw [Window.offset_eq hs ht]
  split <;> omega

/-- An enabled window covers the angles from start through stop, going on from 0 where stop lies below start. -/
theorem Window.covers_iff_between (hen : w.enable = true) (hs : w.start < 72000) (hp : w.stop < 72000)
    (ht : theta < 72000) :
    w.covers theta = true ↔
      if w.start ≤ w.stop then w.start ≤ theta ∧ theta ≤ w.stop else w.start ≤ theta ∨ theta ≤ w.stop := by
  rw [Window.covers_iff, and_iff_right hen, Window.offset_eq hs ht]
  split <;> split <;> omega

/-- An enabled window covers the angles that its span reaches counting upward from start. -/
theorem Window.covers_iff_counted (hen : w.enable = true) (hs : w.start < 72000) (ht : theta < 72000) :
    w.covers theta = true ↔ ∃ i, i ≤ (w.stop + 72000 - w.start) % 72000 ∧ theta = (w.start + i) % 72000 := by
  rw [Window.covers_iff, and_iff_right hen]
  constructor
  · intro h
    exact ⟨w.offset theta, h, (Window.offset_eq_iff hs ht (by omega)).mp rfl⟩
  · rintro ⟨i, hi, h⟩
    rwa [(Window.offset_eq_iff hs ht (by omega)).mpr h]

end Window

/-- Settles O21: coverage bounds the offset, which runs once through the cycle from start; the special spans are intervals. -/
theorem windowCoversItsSpan : Obligations.WindowCoversItsSpan := by
  intro w theta hstart hstop htheta
  refine ⟨Window.covers_disabled, Window.offset_eq_emod hstart, fun h => (Window.covers_iff.mp h).2, fun hen => ?_⟩
  have inside := Window.covers_iff_between hen hstart hstop htheta
  refine ⟨Window.covers_iff_counted hen hstart htheta, ?single, ?full, fun h => by rwa [if_pos h] at inside,
    fun h => by rwa [if_neg (Nat.not_le.mpr h)] at inside⟩
  case single =>
    intro h
    rw [inside, if_pos h.le]
    omega
  case full =>
    intro h
    rw [inside]
    split <;> omega

end Sys2Proof.Machine
end

section
/-! PROOFS. CHANNEL-READ (R91). The model composes its report from shared field encoders; each of them is read here once as
the bytes R91 and R200 name, and the report is their concatenation. -/

namespace Sys2Proof.Machine

open Sys2Proof.Safety

/-! ### Indices and signed fields -/

theorem index?_val {n : Nat} (k : Fin n) : index? n k.val = some k := dif_pos k.isLt

theorem index?_eq_none {n v : Nat} (h : n ≤ v) : index? n v = none := dif_neg (Nat.not_lt.mpr h)

/-- A field of `n` bytes carries its number modulo `256 ^ n`. -/
theorem le_mod (n v : Nat) : le n (v % 256 ^ n) = le n v := by
  induction n generalizing v with
  | zero => rfl
  | succ n ih =>
    have low : BitVec.ofNat 8 (v % 256 ^ (n + 1)) = BitVec.ofNat 8 v :=
      BitVec.eq_of_toNat_eq (Nat.mod_mod_of_dvd v (Dvd.intro_left (256 ^ n) (Nat.pow_succ ..).symm))
    have high : v % 256 ^ (n + 1) / 256 = v / 256 % 256 ^ n := by
      rw [Nat.pow_succ, Nat.mul_comm, Nat.mod_mul_right_div_self]
    rw [le, le, low, high, ih]

/-- A number that is not negative has the same bytes in a signed field. -/
theorem leInt_natCast (n v : Nat) : leInt n v = le n v := by
  rw [leInt, ← Int.natCast_emod, Int.toNat_natCast, le_mod]

/-! ### The fields of the report -/

theorem levelCode_some (b : Bool) : levelCode (some b) = flagByte b := by cases b <;> rfl

/-- The segment-active flag, the pass and the sample index: all 0 with no active segment (R200). -/
theorem Channel.activeBytes_eq (c : Channel) :
    flagByte c.active.isSome :: c.progressBytes = match c.active with
      | some a => 1 :: (le 2 a.pass ++ le 2 a.index)
      | none => [0, 0, 0, 0, 0] := by
  rw [Channel.progressBytes]
  cases c.active <;> rfl

/-- The modifier's kind and value: NONE carries 0, and the values of FREEZE and FORCE are never negative (R91). -/
theorem ChanMod.bytes_eq (m : Option ChanMod) :
    ChanMod.bytes m = match m with
      | none => [0, 0, 0, 0, 0]
      | some (.freeze v) => 1 :: le 4 v
      | some (.force v) => 2 :: le 4 v
      | some (.offset d) => 3 :: leInt 4 d := by
  rcases m with _ | ⟨v⟩ | ⟨v⟩ | ⟨d⟩
  · rfl
  · exact congrArg _ (leInt_natCast 4 v)
  · exact congrArg _ (leInt_natCast 4 v)
  · rfl

/-- A level is reported for the pulse channels, 12 and up; a DAC channel reports 0. -/
theorem lineByte_eq (n : Nat) (line : Bool) :
    levelCode (some (decide (12 ≤ n) && line)) = if 12 ≤ n ∧ line = true then 1 else 0 := by
  rw [levelCode_some, flagByte]
  exact if_congr (by rw [Bool.and_eq_true, decide_eq_true_eq]) rfl rfl

/-! ### What CHANNEL-READ answers -/

theorem exec_channelRead (ch : Nat) (s : State) :
    exec (.channelRead ch) s = .next (respond 0x36 (reqChannelRead ch s)) := rfl

theorem exec_channelRead_ok (n : Fin 16) (s : State) :
    exec (.channelRead n.val) s = .next (answered 0x36 .ok (s.channelBytes n) s) := by
  rw [exec_channelRead, reqChannelRead, index?_val]
  exact congrArg _ (respond_answered 0x36 .ok _ s (by decide) (by decide))

theorem exec_channelRead_badField {ch : Nat} (s : State) (h : 16 ≤ ch) :
    exec (.channelRead ch) s = .next (answered 0x36 .badField (unstatedBytes 0x36 20) s) := by
  rw [exec_channelRead, reqChannelRead, index?_eq_none h]
  exact congrArg _ (respond_answered 0x36 .badField _ s (by decide) (by decide))

/-- Settles O27: the model's report is R91's field list once the active-segment, line and modifier fields are read. -/
theorem channelReadReportsTheChannel : Obligations.ChannelReadReportsTheChannel := by
  intro ch s
  refine ⟨?ok, fun h => ⟨unstatedBytes 0x36 20, exec_channelRead_badField s h, ?len⟩⟩
  case ok =>
    rintro n rfl
    rw [exec_channelRead_ok, State.channelBytes]
    dsimp only
    rw [lineByte_eq, ChanMod.bytes_eq, List.append_assoc _ [flagByte _], List.singleton_append,
      Channel.activeBytes_eq]
    rfl
  case len => rw [unstatedBytes, List.length_map, List.length_range]

end Sys2Proof.Machine
end

section
/-! PROOFS. The reports FAULT-QUERY, TARGET-QUERY, IDENTIFY and STATUS (R136, R138, R194, R195). The field encoders of the
reports are read as the bytes of the rules, and each request as one answer with the model's report as its body. -/

namespace Sys2Proof.Machine

open Sys2Proof.Safety

/-! ### Field encoders -/

@[simp] theorem length_le (n v : Nat) : (le n v).length = n := by
  induction n generalizing v with
  | zero => rfl
  | succ n ih => rw [le, List.length_cons, ih]

theorem le_one_toNat {w : Nat} (b : BitVec w) : le 1 b.toNat = [b.zeroExtend 8] :=
  congrArg (· :: []) (BitVec.ofNat_toNat 8 b)

theorem length_unstatedBytes (kind n : Nat) : (unstatedBytes kind n).length = n := by
  rw [unstatedBytes, List.length_map, List.length_range]

theorem flag?_eq_none {f : Nat} (h : 1 < f) : flag? f = none := by
  obtain ⟨n, rfl⟩ : ∃ n, f = n + 2 := ⟨f - 2, by omega⟩
  rfl

/-! ### The fields of a slot (R136) -/

/-- ENDLESS shows as the largest count of its two bytes. -/
theorem Reps.bytes_eq (r : Reps) :
    r.bytes = le 2 (match r with | .finite n => n | .endless => 65535) := by
  cases r <;> rfl

/-- The record's presence flag and its 23 bytes: all 0 with no record. -/
theorem flagByte_cons_recordBytes (r : Option FaultRecord) :
    flagByte r.isSome :: (r.map FaultRecord.bytes).getD (le 23 0) = match r with
      | some r => 1 :: r.bytes
      | none => List.replicate 24 0 := by
  cases r <;> rfl

/-- The Remaining field is one number of four bytes. -/
theorem Slot.remainingBytes_eq (x : Slot) :
    x.remainingBytes = le 4 (match x.state, x.record with
      | .waiting, some r => r.delay - x.progress
      | .active, some r => if r.width = 0 then 0xFFFFFFFF else r.width - x.progress
      | _, _ => 0) := by
  rw [Slot.remainingBytes]
  cases x.record with
  | none => cases x.state <;> rfl
  | some r =>
    cases x.state with
    | active => exact (apply_ite (le 4) ..).symm
    | _ => rfl

/-! ### FAULT-QUERY and TARGET-QUERY -/

theorem exec_faultQuery (k : Nat) (s : State) :
    exec (.faultQuery k) s = .next (respond 0x54 (reqFaultQuery k s)) := rfl

theorem exec_faultQuery_ok (k : Fin 32) (s : State) :
    exec (.faultQuery k.val) s = .next (answered 0x54 .ok (s.slotBytes k) s) := by
  rw [exec_faultQuery, reqFaultQuery, index?_val]
  exact congrArg _ (respond_answered 0x54 .ok _ s (by decide) (by decide))

theorem exec_faultQuery_badField {k : Nat} (s : State) (h : 32 ≤ k) :
    exec (.faultQuery k) s = .next (answered 0x54 .badField (unstatedBytes 0x54 36) s) := by
  rw [exec_faultQuery, reqFaultQuery, index?_eq_none h]
  exact congrArg _ (respond_answered 0x54 .badField _ s (by decide) (by decide))

/-- The slot's number, or 0xFF where nothing holds the target (R138). -/
theorem holderByte_eq (h : Option (Fin 32)) :
    holderByte h = match h with | some k => BitVec.ofNat 8 k.val | none => 0xFF := by
  cases h <;> rfl

theorem exec_targetQuery (s : State) :
    exec .targetQuery s = .next (answered 0x55 .ok
      (allTargets.map (fun t => holderByte (s.holder t)) ++ allPins.flatMap (fun p => (s.path p).bytes)) s) :=
  congrArg Host.Outcome.next (respond_answered 0x55 .ok _ s (by decide) (by decide))

/-! ### IDENTIFY and STATUS -/

/-- The four flags of a set have bits of their own, so the byte is their sum. -/
theorem EventSet.byte_eq (e : EventSet) :
    e.byte = (if e.resume then 1 else 0) + (if e.line then 2 else 0) + (if e.capture then 4 else 0)
      + (if e.timeout then 8 else 0) := by
  obtain ⟨resume, line, capture, timeout⟩ := e
  revert resume line capture timeout
  decide

/-- Pending flags show the same bits, without the timeout's. -/
theorem PendingFlags.events_byte (f : PendingFlags) :
    f.events.byte = (if f.resume then 1 else 0) + (if f.line then 2 else 0) + (if f.capture then 4 else 0) := by
  rw [EventSet.byte_eq]
  exact BitVec.add_zero _

theorem State.statusBytes_eq (s : State) :
    s.statusBytes = [s.run.state.code, s.run.endReason.code] ++ le 5 s.run.clock
      ++ [(if s.run.flags.resume then 1 else 0) + (if s.run.flags.line then 2 else 0)
            + (if s.run.flags.capture then 4 else 0), s.run.last.kind.code,
          (if s.run.last.events.resume then 1 else 0) + (if s.run.last.events.line then 2 else 0)
            + (if s.run.last.events.capture then 4 else 0) + (if s.run.last.events.timeout then 8 else 0)]
      ++ le 5 s.run.last.clock ++ le 3 s.theta ++ le 2 s.rot.cycle ++ le 3 s.rot.speed ++ le 1 s.rot.queue.length
      ++ [s.rot.active.isSome, s.sup.battCmd, s.sup.battAct, s.sup.ignCmd, s.sup.ignAct, s.sup.drvReq].map
          (fun b => if b then (1 : Byte) else 0)
      ++ [s.sup.driver.code, s.sup.conn.code, s.sup.mode.code, s.sup.shutdown.code] ++ le 2 s.link.framing
      ++ le 2 s.link.crc ++ le 2 s.link.overrun := by
  rw [State.statusBytes, PendingFlags.events_byte, EventSet.byte_eq, List.append_assoc _ (List.map ..)]
  rfl

theorem exec_identify (s : State) : exec .identify s = .next (respond 0x01 (reqIdentify s)) := rfl

theorem exec_identify_ok (s : State) :
    exec .identify s = .next (answered 0x01 .ok
      [0x0A, 0x16, 0x24, 1, s.link.address.zeroExtend 8, 0, 0, 0x10, 0, 16, 12, 4, 4, 8, 16, 24, 32, 45, 32, 0, 2, 8,
        2, 4, 250] s) := by
  rw [exec_identify, reqIdentify, le_one_toNat]
  exact congrArg _ (respond_answered 0x01 .ok _ s (by decide) (by decide))

theorem exec_status (f : Nat) (s : State) : exec (.status f) s = .next (respond 0x02 (reqStatus f s)) := rfl

theorem exec_status_keep (s : State) : exec (.status 0) s = .next (answered 0x02 .ok s.statusBytes s) :=
  congrArg Host.Outcome.next (respond_answered 0x02 .ok _ s (by decide) (by decide))

/-- The report is formed before the three counts are cleared (R192). -/
theorem exec_status_clear (s : State) :
    exec (.status 1) s = .next (answered 0x02 .ok s.statusBytes
      { s with link := { s.link with framing := 0, crc := 0, overrun := 0 } }) :=
  congrArg Host.Outcome.next (respond_answered 0x02 .ok _ _ (by decide) (by decide))

theorem exec_status_badField {f : Nat} (s : State) (h : 1 < f) :
    exec (.status f) s = .next (answered 0x02 .badField s.statusBytes s) := by
  rw [exec_status, reqStatus, flag?_eq_none h]
  exact congrArg _ (respond_answered 0x02 .badField _ s (by decide) (by decide))

theorem State.length_statusBytes (s : State) : s.statusBytes.length = 40 := by
  simp [State.statusBytes]

/-- Settles O38: each request answers the model's report, whose encoders are read above. The equation of Remaining needs
no premise: the model's subtraction truncates at 0 (log entry 24). -/
theorem reportsShowTheState : Obligations.ReportsShowTheState := by
  intro s
  refine ⟨fun k => ⟨(s.slot k).remainingBytes, ?leftLength, fun _ => Slot.remainingBytes_eq _, ?slot⟩,
    fun k h => ⟨unstatedBytes 0x54 36, exec_faultQuery_badField s h, length_unstatedBytes ..⟩,
    ?targets, exec_identify_ok s, ?status⟩
  case leftLength => rw [Slot.remainingBytes_eq, length_le]
  case slot =>
    rw [exec_faultQuery_ok, State.slotBytes, Reps.bytes_eq, List.append_assoc _ [flagByte _], List.singleton_append,
      flagByte_cons_recordBytes]
    rfl
  case targets =>
    rw [exec_targetQuery]
    simp only [holderByte_eq]
    rfl
  case status =>
    dsimp only
    rw [← State.statusBytes_eq]
    exact ⟨State.length_statusBytes s, exec_status_keep s, exec_status_clear s, fun f => exec_status_badField s⟩

end Sys2Proof.Machine
end

section
/-! PROOFS. What the shared operations of the run, the slots, the pins, the feeds and the channels may do, as one relation
between the state before and the state after. It is reflexive and transitive, so an operation made of others is calm because
they are. -/

namespace Sys2Proof.Machine

open Sys2Proof.Safety

/-! ### The relation -/

/-- What no calm operation moves: the time, the memory, the capture log, the link, the queue of commands, the run's clock,
configuration and marks, the angle, the profile's queue, the patterns, the pin map and the notice configuration. -/
def State.fixed (s : State) :=
  (s.still, (s.run.clock, s.run.config, s.run.begun, s.run.inMicro, s.run.wrapDue),
    (s.rot.acc, s.rot.cycle, s.rot.queue, s.rot.prevTheta, s.rot.cycleEvent, s.rot.wheel, s.rot.cams),
    (s.pins.map, s.pins.routed), s.ntc.enables, s.ntc.threshold, s.ntc.routes)

/-- What a channel's configuration is made of. -/
def Channel.config (c : Channel) :=
  ((c.enable, c.mode, c.restCode, c.restLevel, c.reference), (c.gmin, c.gmax, c.guardMode, c.cause),
    c.constCode, c.windows, c.pinEnable, c.pinRef)

/-- A calm operation plays a channel: its configuration stays, and segments only leave its queue. -/
structure Channel.Plays (a b : Channel) : Prop where
  config : b.config = a.config
  queue : b.queue <:+ a.queue

/-- A calm operation from `s` to `t`. -/
structure Calm (s t : State) : Prop where
  fixed : t.fixed = s.fixed
  speed : t.rot.speed = s.rot.speed ∨ t.rot.speed = 0
  active : t.rot.active = s.rot.active ∨ t.rot.active = none
  chan : ∀ n, (s.chan n).Plays (t.chan n)
  run : RunLaw s → RunLaw t
  supply : SupplyLaw s → SupplyLaw t
  notice : NoticeLaw s → NoticeLaw t

theorem Channel.Plays.refl (a : Channel) : a.Plays a := ⟨rfl, List.suffix_refl _⟩

theorem Channel.Plays.trans {a b c : Channel} (h : a.Plays b) (h' : b.Plays c) : a.Plays c :=
  ⟨h'.config.trans h.config, h'.queue.trans h.queue⟩

theorem Calm.refl (s : State) : Calm s s :=
  ⟨rfl, .inl rfl, .inl rfl, fun _ => .refl _, id, id, id⟩

theorem Calm.trans {s t u : State} (h : Calm s t) (h' : Calm t u) : Calm s u where
  fixed := h'.fixed.trans h.fixed
  speed := h'.speed.elim (fun e => e ▸ h.speed) .inr
  active := h'.active.elim (fun e => e ▸ h.active) .inr
  chan n := (h.chan n).trans (h'.chan n)
  run := h'.run ∘ h.run
  supply := h'.supply ∘ h.supply
  notice := h'.notice ∘ h.notice

/-- A loop of calm passes is calm. -/
theorem Calm.forEach {α : Type} {f : α → State → State} (h : ∀ x s, Calm s (f x s)) (xs : List α) (s : State) :
    Calm s (forEach xs f s) :=
  forEach_keeps (Calm s) xs f (fun x _ t ht => ht.trans (h x t)) s (.refl s)

theorem Calm.ite {c : Prop} [Decidable c] {s t u : State} (h : Calm s t) (h' : Calm s u) : Calm s (if c then t else u) := by
  split
  · exact h
  · exact h'

theorem Calm.still {s t : State} (h : Calm s t) : t.still = s.still := congrArg (·.1) h.fixed
theorem Calm.clock {s t : State} (h : Calm s t) : t.run.clock = s.run.clock := congrArg (·.2.1.1) h.fixed
theorem Calm.runConfig {s t : State} (h : Calm s t) : t.run.config = s.run.config := congrArg (·.2.1.2.1) h.fixed
theorem Calm.begun {s t : State} (h : Calm s t) : t.run.begun = s.run.begun := congrArg (·.2.1.2.2.1) h.fixed
theorem Calm.inMicro {s t : State} (h : Calm s t) : t.run.inMicro = s.run.inMicro := congrArg (·.2.1.2.2.2.1) h.fixed
theorem Calm.wrapDue {s t : State} (h : Calm s t) : t.run.wrapDue = s.run.wrapDue := congrArg (·.2.1.2.2.2.2) h.fixed
theorem Calm.acc {s t : State} (h : Calm s t) : t.rot.acc = s.rot.acc := congrArg (·.2.2.1.1) h.fixed
theorem Calm.cycle {s t : State} (h : Calm s t) : t.rot.cycle = s.rot.cycle := congrArg (·.2.2.1.2.1) h.fixed
theorem Calm.rotQueue {s t : State} (h : Calm s t) : t.rot.queue = s.rot.queue := congrArg (·.2.2.1.2.2.1) h.fixed
theorem Calm.prevTheta {s t : State} (h : Calm s t) : t.rot.prevTheta = s.rot.prevTheta :=
  congrArg (·.2.2.1.2.2.2.1) h.fixed
theorem Calm.cycleEvent {s t : State} (h : Calm s t) : t.rot.cycleEvent = s.rot.cycleEvent :=
  congrArg (·.2.2.1.2.2.2.2.1) h.fixed
theorem Calm.wheel {s t : State} (h : Calm s t) : t.rot.wheel = s.rot.wheel := congrArg (·.2.2.1.2.2.2.2.2.1) h.fixed
theorem Calm.cams {s t : State} (h : Calm s t) : t.rot.cams = s.rot.cams := congrArg (·.2.2.1.2.2.2.2.2.2) h.fixed
theorem Calm.map {s t : State} (h : Calm s t) : t.pins.map = s.pins.map := congrArg (·.2.2.2.1.1) h.fixed
theorem Calm.routed {s t : State} (h : Calm s t) : t.pins.routed = s.pins.routed := congrArg (·.2.2.2.1.2) h.fixed
theorem Calm.routes {s t : State} (h : Calm s t) : t.ntc.routes = s.ntc.routes := congrArg (·.2.2.2.2.2.2) h.fixed
theorem Calm.uptime {s t : State} (h : Calm s t) : t.uptime = s.uptime := State.still_uptime h.still

/-! ### Setters -/

theorem calm_setSlot (k : Fin 32) (x : Slot) (s : State) : Calm s (s.setSlot k x) :=
  ⟨rfl, .inl rfl, .inl rfl, fun _ => .refl _, id, id, id⟩
theorem calm_setHolder (g : Fin 45) (h : Option (Fin 32)) (s : State) : Calm s (s.setHolder g h) :=
  ⟨rfl, .inl rfl, .inl rfl, fun _ => .refl _, id, id, id⟩
theorem calm_setPath (p : Fin 24) (x : Path) (s : State) : Calm s (s.setPath p x) :=
  ⟨rfl, .inl rfl, .inl rfl, fun _ => .refl _, id, id, id⟩
theorem calm_setWait (p : Fin 24) (w : Option AlignWait) (s : State) : Calm s (s.setWait p w) :=
  ⟨rfl, .inl rfl, .inl rfl, fun _ => .refl _, id, id, id⟩
theorem calm_setWaitList (l : List RelayEntry) (s : State) : Calm s (s.setWaitList l) :=
  ⟨rfl, .inl rfl, .inl rfl, fun _ => .refl _, id, id, id⟩
theorem calm_setDrive (d : Drive) (s : State) : Calm s (s.setDrive d) :=
  ⟨rfl, .inl rfl, .inl rfl, fun _ => .refl _, id, id, id⟩
theorem calm_driveSettled (s : State) : Calm s (driveSettled s) :=
  ⟨rfl, .inl rfl, .inl rfl, fun _ => .refl _, id, id, id⟩
theorem calm_setWork (l : List WorkItem) (s : State) : Calm s (s.setWork l) :=
  ⟨rfl, .inl rfl, .inl rfl, fun _ => .refl _, id, id, id⟩
theorem calm_setTimer (l : Fin 4) (t : Option Nat) (s : State) : Calm s (s.setTimer l t) :=
  ⟨rfl, .inl rfl, .inl rfl, fun _ => .refl _, id, id, id⟩

theorem calm_setChan {n : Fin 16} {c : Channel} {s : State} (h : (s.chan n).Plays c) : Calm s (s.setChan n c) := by
  refine ⟨rfl, .inl rfl, .inl rfl, fun m => ?_, id, id, id⟩
  rw [State.chan_setChan]
  split
  · next e => exact e ▸ h
  · exact .refl _

/-! ### Notices -/

theorem isPending_raise (k j : NoticeKind) (s : State) :
    (raise k s).isPending j = (s.isPending j || decide (j = k)) := by
  unfold State.isPending raise
  rw [BitVec.getLsbD_or, BitVec.getLsbD_twoPow]
  congr 1
  cases j <;> cases k <;> rfl

theorem isPending_raise_of {k j : NoticeKind} {s : State} (h : s.isPending j = true) : (raise k s).isPending j = true := by
  rw [isPending_raise, h, Bool.true_or]

theorem isPending_raise_self (k : NoticeKind) (s : State) : (raise k s).isPending k = true := by
  rw [isPending_raise, decide_eq_true rfl, Bool.or_true]

theorem calm_raise (k : NoticeKind) (s : State) : Calm s (raise k s) :=
  ⟨rfl, .inl rfl, .inl rfl, fun _ => .refl _, id, id, fun ⟨low, high, channel, grd, fault⟩ =>
    ⟨low, high, fun h => isPending_raise_of (channel h), fun h => isPending_raise_of (grd h),
      fun h => isPending_raise_of (fault h)⟩⟩

theorem calm_raiseRun (r : RunState) (e : EndReason) (s : State) : Calm s (raiseRun r e s) :=
  (calm_raise .run s).trans ⟨rfl, .inl rfl, .inl rfl, fun _ => .refl _, id, id, id⟩

theorem calm_raiseChannel (n : Fin 16) (s : State) : Calm s (raiseChannel n s) :=
  (calm_raise .channel s).trans ⟨rfl, .inl rfl, .inl rfl, fun _ => .refl _, id, id, fun ⟨low, high, _, grd, fault⟩ =>
    ⟨low, high, fun _ => isPending_raise_self .channel s, grd, fault⟩⟩

theorem calm_raiseGuard (n : Fin 16) (s : State) : Calm s (raiseGuard n s) :=
  (calm_raise .guardTrip s).trans ⟨rfl, .inl rfl, .inl rfl, fun _ => .refl _, id, id, fun ⟨low, high, channel, _, fault⟩ =>
    ⟨low, high, channel, fun _ => isPending_raise_self .guardTrip s, fault⟩⟩

theorem calm_raiseFault (k : Fin 32) (s : State) : Calm s (raiseFault k s) :=
  (calm_raise .fault s).trans ⟨rfl, .inl rfl, .inl rfl, fun _ => .refl _, id, id, fun ⟨low, high, channel, grd, _⟩ =>
    ⟨low, high, channel, grd, fun _ => isPending_raise_self .fault s⟩⟩

theorem calm_raiseIf (b : Bool) (k : NoticeKind) (s : State) : Calm s (raiseIf b k s) :=
  .ite (calm_raise k s) (.refl s)

theorem calm_raiseCause (n : Fin 16) (c : CauseSel) (s : State) : Calm s (raiseCause n c s) :=
  .ite (calm_raiseChannel n s) (.refl s)

theorem calm_pulseEvent (on : Route → Bool) (s : State) : Calm s (pulseEvent on s) :=
  .forEach (fun l s => .ite (calm_setTimer l _ s) (.refl s)) _ s

theorem calm_runPulses (s : State) : Calm s (runPulses s) :=
  .ite ((calm_pulseEvent _ s).trans (calm_pulseEvent _ _)) (calm_pulseEvent _ s)

/-! ### Feeds -/

/-- The part of SupplyLaw that deciding the feeds does not bring about: the battery-first wait and the debounce. -/
def SupplyWaits (u : Supply) (now : Nat) : Prop :=
  (u.waitStart.isSome = (u.battCmd && u.ignCmd)) ∧ (u.waitDone = true → u.waitStart.isSome = true)
    ∧ debounceStart u.conn ≤ now

theorem supplyWaits_of_law {s : State} (h : SupplyLaw s) : SupplyWaits s.sup s.uptime := h.2.2.2

/-- Feeds decided from lawful waits are lawful. -/
theorem calm_settleFeeds_of {s : State} {u : Supply} (h : SupplyLaw s → SupplyWaits u s.uptime) :
    Calm s (settleFeeds { s with sup := u }) := by
  have settled : Calm s { s with sup := u.settled s.uptime } :=
    ⟨rfl, .inl rfl, .inl rfl, fun _ => .refl _, id, fun law => by
      obtain ⟨battery, ignition, driver⟩ := settled_obeys u s.uptime
      exact ⟨battery, ignition, driver, h law⟩, id⟩
  exact settled.trans (calm_raiseIf _ .supply _)

theorem calm_commandFeeds_of {s : State} {u : Supply} (b i d : Bool) (h : SupplyLaw s → SupplyWaits u s.uptime) :
    Calm s (commandFeeds b i d { s with sup := u }) :=
  calm_settleFeeds_of (s := s) (u := { u.command b i s.uptime with drvReq := d }) fun law => by
    obtain ⟨started, done, conn⟩ := h law
    obtain ⟨started', done'⟩ := command_wait u b i s.uptime started done
    exact ⟨started', done', conn⟩

theorem calm_setBattDrop (b : Bool) (s : State) : Calm s (setBattDrop b s) := calm_settleFeeds_of supplyWaits_of_law
theorem calm_setIgnDrop (b : Bool) (s : State) : Calm s (setIgnDrop b s) := calm_settleFeeds_of supplyWaits_of_law
theorem calm_driverStage (s : State) : Calm s (driverStage s) := calm_settleFeeds_of supplyWaits_of_law
theorem calm_relayCompleted (s : State) : Calm s (relayCompleted s) := .ite (calm_driverStage s) (.refl s)

theorem calm_feedStage (s : State) : Calm s (feedStage s) :=
  .ite (calm_commandFeeds_of false false _ supplyWaits_of_law) (.refl s)

theorem calm_ignitionWaitEnd (s : State) : Calm s (ignitionWaitEnd s) := by
  unfold ignitionWaitEnd
  split
  · next due =>
    refine calm_settleFeeds_of fun law => ?_
    obtain ⟨started, -, conn⟩ := supplyWaits_of_law law
    have : s.sup.waitStart.isSome = true := by
      cases hw : s.sup.waitStart with
      | none => simp [State.ignitionDue, hw] at due
      | some _ => rfl
    exact ⟨started, fun _ => this, conn⟩
  · exact .refl s

theorem calm_wakeWaitEnd (s : State) : Calm s (wakeWaitEnd s) := by
  unfold wakeWaitEnd
  split
  · next due =>
    have waking : s.sup.driver ≠ .off := fun off => by simp [State.wakeDue, off] at due
    exact (calm_raise .supply s).trans ⟨rfl, .inl rfl, .inl rfl, fun _ => .refl _, id,
      fun ⟨batt, ign, driver, waits⟩ => ⟨batt, ign, ⟨fun _ => driver.mp waking, fun _ => by simp⟩, waits⟩, id⟩
  · exact .refl s

/-! ### Slots -/

theorem calm_setModifier (n : Fin 16) (m : Option ChanMod) (s : State) : Calm s (setModifier n m s) :=
  calm_setChan ⟨rfl, List.suffix_refl _⟩
theorem calm_setCrankMod (m : Option CrankMod) (s : State) : Calm s (setCrankMod m s) :=
  ⟨rfl, .inl rfl, .inl rfl, fun _ => .refl _, id, id, id⟩
theorem calm_setCamMod (c : Fin 2) (m : Option CamMod) (s : State) : Calm s (setCamMod c m s) :=
  ⟨rfl, .inl rfl, .inl rfl, fun _ => .refl _, id, id, id⟩

theorem calm_takeAway (a : Action) (s : State) : Calm s (takeAway a s) := by
  cases a with
  | openPin p | shortGnd p => exact calm_setPath p .normal s
  | freeze n | force n | offset n => exact calm_setModifier n none s
  | toothDrop | crankShift => exact calm_setCrankMod none s
  | camHold c | camShift c => exact calm_setCamMod c none s
  | battDrop => exact calm_setBattDrop false s
  | ignDrop => exact calm_setIgnDrop false s
  | shortSupply | bridge | holdRun | endRun => exact .refl s

theorem calm_clearHolders (k : Fin 32) (s : State) : Calm s (clearHolders k s) :=
  .forEach (fun g s => .ite (calm_setHolder g none s) (.refl s)) _ s
theorem calm_takeHolders (k : Fin 32) (ts : List (Fin 45)) (s : State) : Calm s (takeHolders k ts s) :=
  .forEach (fun g s => calm_setHolder g (some k) s) _ s
theorem calm_closeWait (k : Fin 32) (s : State) : Calm s (closeWait k s) :=
  .forEach (fun p s => .ite (calm_setWait p none s) (.refl s)) _ s
theorem calm_withdrawApply (k : Fin 32) (s : State) : Calm s (withdrawApply k s) := calm_setWaitList _ s

theorem calm_relayGrant (s : State) : Calm s (relayGrant s) := by
  unfold relayGrant
  split
  · split
    · exact (calm_setWaitList _ s).trans (calm_setDrive _ _)
    · exact .refl s
  · exact .refl s

theorem calm_reopenGrant (s : State) : Calm s (reopenGrant s) := by
  unfold reopenGrant
  split
  · exact (calm_setWaitList _ s).trans (calm_setDrive _ _)
  all_goals exact .refl s

theorem calm_regrant {f : State → State} (h : ∀ s, Calm s (f s)) (s : State) : Calm s (regrant f s) :=
  .ite (((calm_reopenGrant s).trans (h _)).trans (calm_relayGrant _)) (h s)

theorem calm_handRelay (e : RelayEntry) (s : State) : Calm s (handRelay e s) :=
  calm_regrant (fun s => calm_setWaitList (s.pins.waitList ++ [e]) s) s

theorem calm_toLoaded (k : Fin 32) (s : State) : Calm s (toLoaded k s) := calm_setSlot k _ s
theorem calm_rearm (k : Fin 32) (s : State) : Calm s (rearm k s) := calm_setSlot k _ s

theorem calm_toDone (k : Fin 32) (s : State) : Calm s (toDone k s) :=
  (calm_raiseFault k s).trans (.ite (calm_toLoaded k _) (calm_setSlot k _ _))

theorem calm_countRepetition (k : Fin 32) (s : State) : Calm s (countRepetition k s) :=
  (calm_setSlot k _ s).trans (.ite (calm_toDone k _) (calm_rearm k _))

theorem calm_releaseDone (k : Fin 32) (s : State) : Calm s (releaseDone k s) := by
  unfold releaseDone
  dsimp only
  split
  · exact (calm_clearHolders k s).trans (calm_countRepetition k _)
  · exact (calm_clearHolders k s).trans (calm_toLoaded k _)

theorem calm_handRelease (k : Fin 32) (s : State) : Calm s (handRelease k s) := by
  unfold handRelease
  split
  · exact calm_releaseDone k s
  · split
    · exact calm_handRelay _ s
    · exact (calm_takeAway _ s).trans (calm_releaseDone k _)

theorem calm_returnSlot (o : SlotOutcome) (k : Fin 32) (s : State) : Calm s (returnSlot o k s) := by
  unfold returnSlot
  refine .ite ((calm_setSlot k { s.slot k with outcome := o } s).trans ?_) (.refl s)
  dsimp only
  split
  case h_1 | h_2 => exact calm_toLoaded k _
  case h_3 => exact ((calm_closeWait k _).trans (calm_clearHolders k _)).trans (calm_toLoaded k _)
  case h_4 =>
    exact .ite (calm_setSlot k _ _)
      (((calm_withdrawApply k _).trans (calm_clearHolders k _)).trans (calm_toLoaded k _))
  case h_5 => exact (calm_setSlot k _ _).trans (calm_handRelease k _)
  case h_6 => exact calm_setSlot k _ _
  all_goals exact .refl _

theorem calm_cancelSlot (k : Fin 32) (s : State) : Calm s (cancelSlot k s) :=
  .ite (calm_regrant (calm_returnSlot .cancelled k) s) (calm_returnSlot .cancelled k s)

theorem calm_returnGranted (s : State) : Calm s (returnGranted s) := by
  unfold returnGranted
  split
  · exact calm_returnSlot .runEnded _ s
  all_goals exact .refl s

theorem calm_returnSlots (s : State) : Calm s (returnSlots s) :=
  have all := Calm.forEach (calm_returnSlot .runEnded) allSlots
  .ite ((calm_returnGranted s).trans (all _)) (calm_regrant all s)

/-! ### The run's end -/

theorem calm_starve (n : Fin 16) (v : Nat) (s : State) : Calm s (starve n v s) :=
  calm_setChan ⟨rfl, List.suffix_refl _⟩
theorem calm_enterStarved (n : Fin 16) (v : Nat) (s : State) : Calm s (enterStarved n v s) :=
  (calm_starve n v s).trans (calm_raiseCause n .starved _)

theorem calm_sourceEnd (n : Fin 16) (s : State) : Calm s (sourceEnd n s) := by
  unfold sourceEnd
  dsimp only
  refine Calm.trans (.ite (calm_raiseCause n .starved s) (.refl s)) (calm_setChan ⟨rfl, List.suffix_refl _⟩)

theorem calm_rotationEnd (s : State) : Calm s (rotationEnd s) :=
  ⟨rfl, .inr rfl, .inr rfl, fun _ => .refl _, id, id, id⟩

theorem calm_enterEnded {r : EndReason} (hr : r ≠ .none) (s : State) : Calm s (enterEnded r s) := by
  have ended : Calm s { s with run := { s.run with state := .ended, endReason := r, holdTimer := none } } :=
    ⟨rfl, .inl rfl, .inl rfl, fun _ => .refl _, fun ⟨_, _, _, clock⟩ => ⟨by simpa using hr, by simp, by simp, clock⟩,
      id, id⟩
  exact (((ended.trans (calm_raiseRun .ended r _)).trans (calm_rotationEnd _)).trans
    (.forEach calm_sourceEnd allChannels _)).trans (calm_returnSlots _)

theorem calm_endCause {r : EndReason} (hr : r ≠ .none) (s : State) : Calm s (endCause r s) :=
  .ite (calm_enterEnded hr s) (.refl s)
theorem calm_runningCause {r : EndReason} (hr : r ≠ .none) (s : State) : Calm s (runningCause r s) :=
  .ite (calm_enterEnded hr s) (.refl s)
theorem calm_disconnectCause (s : State) : Calm s (disconnectCause s) := .ite (calm_enterEnded (by simp) s) (.refl s)
theorem calm_drainedTest (s : State) : Calm s (drainedTest s) := .ite (calm_enterEnded (by simp) s) (.refl s)
theorem calm_underrunCause (s : State) : Calm s (underrunCause s) := .ite (calm_runningCause (by simp) s) (.refl s)

theorem calm_profileDrained (s : State) : Calm s (profileDrained s) :=
  (calm_raise .speed s).trans ⟨rfl, .inl rfl, .inl rfl, fun _ => .refl _, id, id, id⟩
theorem calm_profileEmptied (s : State) : Calm s (profileEmptied s) :=
  .ite ((calm_profileDrained s).trans (calm_drainedTest _)) (.refl s)
theorem calm_drainAtStart (s : State) : Calm s (drainAtStart s) :=
  .ite (calm_profileEmptied s) (.ite (calm_raise .speed s) (.refl s))
theorem calm_handStarved (s : State) : Calm s (handStarved s) := (calm_underrunCause s).trans (calm_drainedTest _)

/-! ### Holds, applies and firings -/

/-- A hold entered from RUNNING with no flag pending; the run had not ended, so it had no end reason. -/
theorem calm_enterHeld {s : State} (running : s.run.state = .running) (clear : s.run.flags.any = false) :
    Calm s (enterHeld s) :=
  (calm_raiseRun .held .none s).trans ⟨rfl, .inl rfl, .inl rfl, fun _ => .refl _,
    fun ⟨reason, _, _, clock⟩ =>
      ⟨⟨fun _ => nofun, fun _ => reason.mpr (show s.run.state ≠ .ended by simp [running])⟩, fun _ => clear,
        fun _ => rfl, clock⟩, id, id⟩

theorem calm_skipHold (s : State) : Calm s (skipHold s) :=
  ⟨rfl, .inl rfl, .inl rfl, fun _ => .refl _,
    fun ⟨reason, _, timer, clock⟩ => ⟨reason, fun _ => rfl, timer, clock⟩, id, id⟩

theorem calm_takeHold (s : State) : Calm s (takeHold s) := by
  rcases takeHold_cases s with ⟨-, e⟩ | ⟨-, -, e⟩ | ⟨running, clear, e⟩ <;> rw [e]
  · exact .refl s
  · exact calm_skipHold s
  · exact calm_enterHeld running clear

theorem calm_releaseEvent (e : ReleaseEvent) (s : State) : Calm s (releaseEvent e s) := by
  by_cases held : s.run.state = .held
  · rw [releaseEvent_of_held e s held]
    exact (calm_raiseRun .running .none s).trans ⟨rfl, .inl rfl, .inl rfl, fun _ => .refl _,
      fun ⟨reason, _, _, clock⟩ =>
        ⟨⟨fun _ => by simp, fun _ => reason.mpr (show s.run.state ≠ .ended by simp [held])⟩, nofun, nofun, clock⟩,
      id, id⟩
  · by_cases running : s.run.state = .running
    · rw [releaseEvent_of_running e s running]
      exact ⟨rfl, .inl rfl, .inl rfl, fun _ => .refl _,
        fun ⟨reason, _, timer, clock⟩ => ⟨reason, fun h => absurd h held, timer, clock⟩, id, id⟩
    · rw [releaseEvent_of_neither e s held running]
      exact .refl s

theorem calm_enterActive (k : Fin 32) (o : SlotOutcome) (s : State) : Calm s (enterActive k o s) := calm_setSlot k _ s
theorem calm_conflict (k : Fin 32) (s : State) : Calm s (conflict k s) :=
  ((calm_setSlot k _ s).trans (calm_raiseFault k _)).trans (calm_countRepetition k _)
theorem calm_runAction (k : Fin 32) (s : State) : Calm s (runAction k s) :=
  (calm_setSlot k _ s).trans (calm_countRepetition k _)

theorem calm_applySwitch (k : Fin 32) (p : Fin 24) (ground aligned : Bool) (s : State) :
    Calm s (applySwitch k p ground aligned s) :=
  .ite ((calm_setWait p _ s).trans (calm_setSlot k _ _)) ((calm_setPath p _ s).trans (calm_enterActive k _ _))

theorem calm_applyRelay (k : Fin 32) (path : RelayPath) (s : State) : Calm s (applyRelay k path s) :=
  (calm_setSlot k _ s).trans (calm_handRelay _ _)

theorem calm_proceed (k : Fin 32) (r : FaultRecord) (s : State) : Calm s (proceed k r s) := by
  unfold proceed
  dsimp only
  split
  case h_1 | h_2 => exact calm_applySwitch k _ _ _ s
  case h_3 | h_4 => exact calm_applyRelay k _ s
  case h_5 | h_6 | h_7 => exact (calm_setModifier _ _ s).trans (calm_enterActive k _ _)
  case h_8 | h_9 => exact (calm_setCrankMod _ s).trans (calm_enterActive k _ _)
  case h_10 | h_11 => exact (calm_setCamMod _ _ s).trans (calm_enterActive k _ _)
  case h_12 => exact (calm_setBattDrop true s).trans (calm_enterActive k _ _)
  case h_13 => exact (calm_setIgnDrop true s).trans (calm_enterActive k _ _)
  case h_14 => exact (calm_runAction k s).trans (calm_takeHold _)
  case h_15 => exact (calm_runAction k s).trans (calm_endCause (by simp) _)

theorem calm_applySlot (k : Fin 32) (s : State) : Calm s (applySlot k s) := by
  unfold applySlot
  split
  · exact .refl s
  · exact .ite (calm_conflict k s) ((calm_takeHolders k _ s).trans (calm_proceed k _ _))

theorem calm_takeStaged (k : Fin 32) (s : State) : Calm s (takeStaged k s) := by
  unfold takeStaged
  dsimp only
  split <;> exact calm_setSlot k _ s

theorem calm_fire (k : Fin 32) (s : State) : Calm s (fire k s) := by
  unfold fire
  dsimp only
  split
  · exact calm_takeStaged k s
  · exact (calm_takeStaged k s).trans (.ite (calm_applySlot k _) (calm_setSlot k _ _))

theorem calm_markLate (k : Fin 32) (s : State) : Calm s (markLate k s) := by
  unfold markLate
  split
  · exact calm_setSlot k _ s
  all_goals exact .refl s

theorem calm_runTrigger (k : Fin 32) (s : State) : Calm s (runTrigger k s) :=
  .ite ((calm_markLate k s).trans (calm_fire k _)) (.refl s)

theorem calm_offerEdge (i : Fin 10) (d : Edge) (k : Fin 32) (s : State) : Calm s (offerEdge i d k s) := by
  unfold offerEdge
  refine .ite ?_ (.refl s)
  split
  · exact .ite ((calm_setSlot k _ s).trans (.ite (calm_fire k _) (.refl _))) (.refl s)
  · exact .ite (calm_fire k s) (.refl s)
  all_goals exact .refl s

theorem calm_followSlot (j k : Fin 32) (s : State) : Calm s (followSlot j k s) := .ite (calm_fire k s) (.refl s)

theorem calm_setAligned (p : Fin 24) (timeout : Bool) (s : State) : Calm s (setAligned p timeout s) := by
  unfold setAligned
  split
  · exact .refl s
  · exact ((calm_setPath p _ s).trans (calm_setWait p none _)).trans (calm_enterActive _ _ _)

theorem calm_offerChange (src : LineSource) (p : Fin 24) (s : State) : Calm s (offerChange src p s) :=
  .ite (calm_setAligned p false s) (.refl s)
theorem calm_levelChange (src : LineSource) (s : State) : Calm s (levelChange src s) := .forEach (calm_offerChange src) _ s
theorem calm_offerLine (old : Bool) (n : Fin 16) (s : State) : Calm s (offerLine old n s) :=
  .ite (.refl s) (calm_levelChange _ s)
theorem calm_alignExpire (p : Fin 24) (s : State) : Calm s (alignExpire p s) := .ite (calm_setAligned p true s) (.refl s)
theorem calm_delayEnd (k : Fin 32) (s : State) : Calm s (delayEnd k s) := .ite (calm_applySlot k s) (.refl s)

theorem calm_widthItem (j : Fin 32) (w : WorkItem) (s : State) : Calm s (widthItem j w s) := by
  unfold widthItem
  split
  · exact .ite (calm_handRelease j s) (.refl s)
  · exact calm_followSlot j _ s
  all_goals exact .refl s

theorem calm_widthEnd (k : Fin 32) (order : List WorkItem) (s : State) : Calm s (widthEnd k order s) :=
  .ite ((calm_setSlot k _ s).trans (.forEach (calm_widthItem k) _ _)) (.refl s)

theorem calm_countProgress (k : Fin 32) (s : State) : Calm s (countProgress k s) := by
  unfold countProgress
  dsimp only
  split
  · exact .ite (calm_setSlot k _ s) (.refl s)
  · exact .refl s

theorem calm_holdTimeout (s : State) : Calm s (holdTimeout s) := .ite (calm_releaseEvent .timeout s) (.refl s)

/-! ### The relay drive -/

theorem calm_setRelayPath (r : RelayPath) (s : State) : Calm s (setRelayPath r s) := by
  cases r
  · exact calm_setPath _ _ s
  · exact (calm_setPath _ _ s).trans (calm_setPath _ _ _)

theorem calm_clearRelayPath (r : RelayPath) (s : State) : Calm s (clearRelayPath r s) := by
  cases r
  · exact calm_setPath _ _ s
  · exact (calm_setPath _ _ s).trans (calm_setPath _ _ _)

theorem calm_applyCompleted (e : RelayEntry) (s : State) : Calm s (applyCompleted e s) := by
  unfold applyCompleted
  split
  · exact calm_enterActive _ _ s
  · exact (calm_setSlot _ _ s).trans (calm_handRelay _ _)

theorem calm_relayApplyComplete (s : State) : Calm s (relayApplyComplete s) := by
  unfold relayApplyComplete
  split
  · exact (((calm_driveSettled s).trans (calm_setRelayPath _ _)).trans (calm_applyCompleted _ _)).trans
      (calm_relayCompleted _)
  · exact .refl s

theorem calm_relayReleaseComplete (s : State) : Calm s (relayReleaseComplete s) := by
  unfold relayReleaseComplete
  split
  · exact (((calm_driveSettled s).trans (calm_clearRelayPath _ _)).trans (calm_releaseDone _ _)).trans
      (calm_relayCompleted _)
  · exact .refl s

theorem calm_relayRecoveryEnd (s : State) : Calm s (relayRecoveryEnd s) := .ite (calm_setDrive .free s) (.refl s)

/-! ### Sources and outputs -/

theorem calm_takeSegment {n : Fin 16} {g : Segment} {rest : List Segment} {s : State} (h : (s.chan n).queue = g :: rest) :
    Calm s (takeSegment n g rest s) :=
  calm_setChan ⟨rfl, h ▸ List.suffix_cons g rest⟩

theorem calm_starveAtStart (n : Fin 16) (s : State) : Calm s (starveAtStart n s) :=
  (calm_starve n _ s).trans (calm_setWork _ _)

theorem calm_flushChannel (n : Fin 16) (abort : Bool) (s : State) : Calm s (flushChannel n abort s) := by
  unfold flushChannel
  dsimp only
  refine Calm.trans (calm_setChan (s := s) (n := n) (c := { s.chan n with queue := [] }) ⟨rfl, List.nil_suffix⟩) ?_
  refine .ite (.ite ((calm_enterStarved n _ _).trans (calm_handStarved _)) (calm_setChan ⟨rfl, List.suffix_refl _⟩))
    (.ite (calm_drainedTest _) (.ite (calm_starveAtStart n _) (.refl _)))

theorem calm_segmentEnd (n : Fin 16) (v : Nat) (s : State) : Calm s (segmentEnd n v s) := by
  unfold segmentEnd
  split
  · next g rest h => exact (calm_takeSegment h).trans (calm_raiseCause n .taken _)
  · exact (calm_enterStarved n v s).trans (calm_handStarved _)

theorem calm_sampleEnd (n : Fin 16) (s : State) : Calm s (sampleEnd n s) := by
  unfold sampleEnd
  refine .ite ?_ (.refl s)
  dsimp only
  split
  · exact .refl s
  · exact .ite (calm_setChan ⟨rfl, List.suffix_refl _⟩)
      (.ite (calm_setChan ⟨rfl, List.suffix_refl _⟩) (calm_segmentEnd n _ s))

theorem calm_streamTake (n : Fin 16) (s : State) : Calm s (streamTake n s) := by
  unfold streamTake
  dsimp only
  split
  · next h => exact calm_takeSegment h
  · exact .ite (.refl s) (calm_starve n _ s)
  · exact .refl s

theorem calm_streamPlay (n : Fin 16) (s : State) : Calm s (streamPlay n s) := by
  unfold streamPlay
  dsimp only
  split <;> exact calm_setChan ⟨rfl, List.suffix_refl _⟩

theorem calm_formSource (flushed : List (Fin 16)) (n : Fin 16) (s : State) : Calm s (formSource flushed n s) := by
  unfold formSource
  dsimp only
  refine .ite ?_ (.refl s)
  split
  · exact calm_setChan ⟨rfl, List.suffix_refl _⟩
  · exact Calm.trans (.ite (.refl s) (calm_streamTake n s)) (calm_streamPlay n _)
  · exact calm_setChan ⟨rfl, List.suffix_refl _⟩

/-- The pulse generator moves only the half and the line. -/
theorem Channel.plays_pulse (c : Channel) (now : Nat) : c.Plays (c.pulse now) := by
  unfold Channel.pulse
  split
  · exact ⟨rfl, List.suffix_refl _⟩
  · split <;> exact ⟨rfl, List.suffix_refl _⟩

theorem Channel.plays_driven (n : Fin 16) (c : Channel) (now : Nat) : c.Plays (c.driven n now) := by
  unfold Channel.driven
  dsimp only
  split
  · exact ⟨rfl, List.suffix_refl _⟩
  · obtain ⟨config, queue⟩ :=
      Channel.plays_pulse { c with output := c.guarded c.modified, clamped := c.outside c.modified } now
    exact ⟨config, queue⟩

theorem calm_formOutput (n : Fin 16) (s : State) : Calm s (formOutput n s) := by
  refine calm_setChan ?_
  split
  · exact Channel.plays_driven n _ s.uptime
  · exact ⟨rfl, List.suffix_refl _⟩

theorem calm_halfEnd (n : Fin 16) (s : State) : Calm s (halfEnd n s) := by
  refine .ite (Calm.trans (calm_setChan ?_) (calm_offerLine _ n _)) (.refl s)
  unfold Channel.turned
  split <;> exact ⟨rfl, List.suffix_refl _⟩

theorem calm_pointEnd (s : State) : Calm s (pointEnd s) :=
  have ended : Calm s { s with rot := { s.rot with active := none } } :=
    ⟨rfl, .inl rfl, .inr rfl, fun _ => .refl _, id, id, id⟩
  .ite (ended.trans (calm_profileEmptied _)) (.refl s)

/-! ### The items of a run microsecond -/

theorem calm_workItem (w : WorkItem) (s : State) : Calm s (workItem w s) := by
  unfold workItem
  split
  case h_1 => exact calm_runPulses s
  case h_2 => exact calm_levelChange _ s
  case h_3 => exact calm_raiseChannel _ s
  case h_4 => exact calm_raiseGuard _ s
  case h_5 => exact calm_drainAtStart s
  case h_6 => exact calm_runningCause (by simp) s
  case h_7 => exact calm_handStarved s
  case h_8 => exact calm_runTrigger _ s
  all_goals exact .refl s

theorem calm_takeItem (w : WorkItem) (s : State) : Calm s (takeItem w s) :=
  .ite ((calm_setWork _ s).trans (calm_workItem w _)) (.refl s)

theorem calm_finishWork (s : State) : Calm s (finishWork s) := (calm_setWork [] s).trans (.forEach calm_workItem _ _)

theorem calm_namedItem (w : WorkItem) (s : State) : Calm s (namedItem w s) := by
  unfold namedItem
  split
  case h_1 => exact calm_pointEnd s
  case h_2 => exact calm_sampleEnd _ s
  case h_3 => exact calm_halfEnd _ s
  case h_4 => exact calm_delayEnd _ s
  case h_5 => exact calm_widthEnd _ [] s
  all_goals exact calm_takeItem _ s

theorem calm_takeWork (order : List WorkItem) (s : State) : Calm s (takeWork order s) :=
  have named := Calm.forEach calm_namedItem (order.takeWhile (fun w => w != .pause)) s
  named.trans (.ite (.refl _) (calm_finishWork _))

/-! ### Connect sense -/

theorem calm_disconnect (s : State) : Calm s (disconnect s) := by
  have opened : Calm s { s with sup := { s.sup with conn := .disconnected } } :=
    ⟨rfl, .inl rfl, .inl rfl, fun _ => .refl _, id,
      fun ⟨batt, ign, driver, start, done, _⟩ => ⟨batt, ign, driver, start, done, Nat.zero_le s.uptime⟩, id⟩
  have cut := (opened.trans (calm_raise .supply _)).trans (calm_disconnectCause _)
  unfold disconnect
  dsimp only
  refine .ite (cut.trans (.ite ?_ (calm_driverStage _))) cut
  exact ⟨rfl, .inl rfl, .inl rfl, fun _ => .refl _, id, id, id⟩

theorem calm_readSense (s : State) : Calm s (readSense s) := by
  have read : Calm s { s with sup := { s.sup with sensed := true } } :=
    ⟨rfl, .inl rfl, .inl rfl, fun _ => .refl _, id, id, id⟩
  unfold readSense
  dsimp only
  split
  case h_1 => exact ⟨rfl, .inl rfl, .inl rfl, fun _ => .refl _, id,
    fun ⟨batt, ign, driver, start, done, _⟩ => ⟨batt, ign, driver, start, done, Nat.le_refl _⟩, id⟩
  case h_2 => exact ⟨rfl, .inl rfl, .inl rfl, fun _ => .refl _, id,
    fun ⟨batt, ign, driver, start, done, _⟩ => ⟨batt, ign, driver, start, done, Nat.zero_le _⟩, id⟩
  case h_3 => exact read.trans (calm_disconnect _)
  all_goals exact read

theorem calm_senseChange (high : Bool) (s : State) : Calm s (senseChange high s) := by
  have set : Calm s { s with sup := { s.sup with connPin := high } } :=
    ⟨rfl, .inl rfl, .inl rfl, fun _ => .refl _, id, id, id⟩
  exact .ite set (set.trans (calm_readSense _))

theorem calm_connectionAccepted (s : State) : Calm s (connectionAccepted s) := by
  have accepted (law : SupplyLaw s) :
      SupplyWaits { s.sup with conn := .connected, sensed := true } s.uptime := by
    obtain ⟨start, done, -⟩ := supplyWaits_of_law law
    exact ⟨start, done, Nat.zero_le _⟩
  have closed : Calm s (raise .supply { s with sup := { s.sup with conn := .connected, sensed := true } }) :=
    (calm_raise .supply s).trans ⟨rfl, .inl rfl, .inl rfl, fun _ => .refl _, id,
      fun law => ⟨law.1, law.2.1, law.2.2.1, accepted law⟩, id⟩
  refine .ite ?_ (.refl s)
  dsimp only
  exact .ite (closed.trans (calm_commandFeeds_of true true true supplyWaits_of_law)) closed

end Sys2Proof.Machine
end

section
/-! PROOFS. The laws of the device over one step. `Lawful s t` says that every law but the holder table's carries over from `s`
to `t`; calm operations are lawful, and the operations that write a law's own fields are lawful because they check them. -/

namespace Sys2Proof.Machine

open Sys2Proof.Safety

/-! ### Lawful changes -/

/-- Each law that `s` obeys `t` obeys, and the commands that wait are the same. -/
structure Lawful (s t : State) : Prop where
  pending : t.pending = s.pending
  trace : TraceLaw s → TraceLaw t
  rotation : RotationLaw s → RotationLaw t
  pattern : PatternLaw s → PatternLaw t
  run : RunLaw s → RunLaw t
  log : RunLaw s → LogLaw s → LogLaw t
  supply : SupplyLaw s → SupplyLaw t
  queue : QueueLaw s → QueueLaw t
  guards : GuardLaw s → GuardLaw t
  notice : NoticeLaw s → NoticeLaw t
  link : LinkLaw s → LinkLaw t

theorem Lawful.refl (s : State) : Lawful s s := ⟨rfl, id, id, id, id, fun _ => id, id, id, id, id, id⟩

theorem Lawful.trans {s t u : State} (h : Lawful s t) (h' : Lawful t u) : Lawful s u where
  pending := h'.pending.trans h.pending
  trace := h'.trace ∘ h.trace
  rotation := h'.rotation ∘ h.rotation
  pattern := h'.pattern ∘ h.pattern
  run := h'.run ∘ h.run
  log law logged := h'.log (h.run law) (h.log law logged)
  supply := h'.supply ∘ h.supply
  queue := h'.queue ∘ h.queue
  guards := h'.guards ∘ h.guards
  notice := h'.notice ∘ h.notice
  link := h'.link ∘ h.link

theorem Lawful.ite {c : Prop} [Decidable c] {s t u : State} (h : Lawful s t) (h' : Lawful s u) :
    Lawful s (if c then t else u) := by
  split
  · exact h
  · exact h'

theorem Lawful.forEach {α : Type} {f : α → State → State} (h : ∀ x s, Lawful s (f x s)) (xs : List α) (s : State) :
    Lawful s (forEach xs f s) :=
  forEach_keeps (Lawful s) xs f (fun x _ t ht => ht.trans (h x t)) s (.refl s)

/-! ### Calm operations are lawful -/

/-- The law of one channel's segment queue (R53, R55). -/
def Channel.QueueOk (c : Channel) : Prop :=
  c.queue.length ≤ 8 ∧ (∀ g ∈ c.queue, SegmentLaw g) ∧ (c.mode ≠ .stream → c.queue = [])

/-- The law of one channel's guard (R74). -/
def Channel.GuardOk (n : Fin 16) (c : Channel) : Prop :=
  c.gmin ≤ c.gmax ∧ c.gmax ≤ (if n.val < 12 then 4095 else 65535)
    ∧ (n.val < 12 → c.gmin ≤ c.restCode ∧ c.restCode ≤ c.gmax)

theorem Channel.Plays.queueOk {a b : Channel} (h : a.Plays b) : a.QueueOk → b.QueueOk := by
  have mode : b.mode = a.mode := congrArg (·.1.2.1) h.config
  rintro ⟨len, legal, other⟩
  refine ⟨h.queue.length_le.trans len, fun g hg => legal g (h.queue.subset hg), fun hm => ?_⟩
  have := other (mode ▸ hm)
  exact List.suffix_nil.mp (this ▸ h.queue)

theorem Channel.Plays.guardOk {n : Fin 16} {a b : Channel} (h : a.Plays b) : a.GuardOk n → b.GuardOk n := by
  have rest : b.restCode = a.restCode := congrArg (·.1.2.2.1) h.config
  have gmin : b.gmin = a.gmin := congrArg (·.2.1.1) h.config
  have gmax : b.gmax = a.gmax := congrArg (·.2.1.2.1) h.config
  unfold Channel.GuardOk
  rw [rest, gmin, gmax]
  exact id

theorem Calm.lawful {s t : State} (h : Calm s t) : Lawful s t where
  pending := State.still_pending h.still
  trace := by unfold TraceLaw; rw [State.still_trace h.still]; exact id
  rotation := by
    rintro ⟨acc, cycle, speed, prev, len, points, active, start⟩
    unfold RotationLaw
    rw [h.acc, h.cycle, h.prevTheta, h.rotQueue, h.runConfig]
    refine ⟨acc, cycle, ?_, prev, len, points, ?_, start⟩
    · rcases h.speed with e | e <;> omega
    · rcases h.active with e | e <;> rw [e]
      · exact active
      · nofun
  pattern := by unfold PatternLaw; rw [h.wheel, h.cams]; exact id
  run := h.run
  log _ := by unfold LogLaw; rw [State.still_cap h.still, h.wrapDue, h.clock]; exact id
  supply := h.supply
  queue law n := (h.chan n).queueOk (law n)
  guards law n := (h.chan n).guardOk (law n)
  notice := h.notice
  link := by unfold LinkLaw; rw [State.still_link h.still]; exact id

/-! ### Changes of one block -/

theorem lawful_link {s : State} {l : Link} (h : LinkLaw s → LinkLaw { s with link := l }) :
    Lawful s { s with link := l } :=
  ⟨rfl, id, id, id, id, fun _ => id, id, id, id, id, h⟩

theorem lawful_cap {s : State} {c : Capture} (h : LogLaw s → LogLaw { s with cap := c }) :
    Lawful s { s with cap := c } :=
  ⟨rfl, id, id, id, id, fun _ => h, id, id, id, id, id⟩

theorem lawful_rot {s : State} {r : Rotation} (h : RotationLaw s → RotationLaw { s with rot := r })
    (h' : PatternLaw s → PatternLaw { s with rot := r }) : Lawful s { s with rot := r } :=
  ⟨rfl, id, h, h', id, fun _ => id, id, id, id, id, id⟩

theorem lawful_trace {s : State} {m : Memory} (h : TraceLaw s → TraceLaw { s with trace := m }) :
    Lawful s { s with trace := m } :=
  ⟨rfl, h, id, id, id, fun _ => id, id, id, id, id, id⟩

theorem lawful_sup {s : State} {u : Supply} (h : SupplyLaw s → SupplyLaw { s with sup := u }) :
    Lawful s { s with sup := u } :=
  ⟨rfl, id, id, id, id, fun _ => id, h, id, id, id, id⟩

theorem lawful_ntc {s : State} {n : Notices} (h : NoticeLaw s → NoticeLaw { s with ntc := n }) :
    Lawful s { s with ntc := n } :=
  ⟨rfl, id, id, id, id, fun _ => id, id, id, id, h, id⟩

theorem lawful_pins {s : State} {p : PinMatrix} : Lawful s { s with pins := p } :=
  ⟨rfl, id, id, id, id, fun _ => id, id, id, id, id, id⟩

theorem lawful_setChan {n : Fin 16} {c : Channel} {s : State} (hq : (s.chan n).QueueOk → c.QueueOk)
    (hg : (s.chan n).GuardOk n → c.GuardOk n) : Lawful s (s.setChan n c) := by
  refine ⟨rfl, id, id, id, id, fun _ => id, id, fun law m => ?_, fun law m => ?_, id, id⟩ <;> rw [State.chan_setChan]
  · split
    · exact hq (law n)
    · exact law m
  · split
    · next e => subst e; exact hg (law m)
    · exact law m

theorem lawful_setInput (k : Fin 10) (x : Input) (s : State) : Lawful s (s.setInput k x) := lawful_cap id

/-! ### What the checks of a request find -/

theorem index?_eq_some {n v : Nat} {k : Fin n} (h : index? n v = some k) : k.val = v := by
  unfold index? at h
  split at h
  · cases h; rfl
  · cases h

theorem flag?_eq_some {v : Nat} {b : Bool} (h : flag? v = some b) : v = if b then 1 else 0 := by
  match v, h with
  | 0, h => cases h; rfl
  | 1, h => cases h; rfl

theorem wheelGaps_length (w : RawWheel) : (wheelGaps w).length ≤ 2 := by
  exact List.length_take_le' _ _

theorem parseWheel_law {w : RawWheel} {x : Wheel} (h : parseWheel w = some x) : WheelLaw x := by
  unfold parseWheel at h
  dsimp only at h
  split at h
  · cases h; exact .inl rfl
  · split at h
    · next ok =>
      obtain ⟨four, most, whole, offset, duty, low, -, gaps, -⟩ := ok
      cases h
      refine .inr ⟨four, most, whole, offset, duty, low, wheelGaps_length w, fun g hg => ?_⟩
      have := List.all_eq_true.mp gaps g hg
      simpa [Gap.ok, and_assoc] using this
    · cases h

theorem isChain_of_spaced {es : List CamEdge} (h : spaced es = true) :
    es.IsChain (fun e f => e.angle + 8 ≤ f.angle) := by
  induction es with
  | nil => exact .nil
  | cons e es ih =>
    cases es with
    | nil => exact .singleton e
    | cons f rest =>
      rw [spaced, Bool.and_eq_true, decide_eq_true_eq] at h
      exact .cons_cons h.1 (ih h.2)

theorem camListOk_law {es : List CamEdge} (h : camListOk es = true) : CamLaw es := by
  simp only [camListOk, Bool.and_eq_true, decide_eq_true_eq, List.all_eq_true, Config.cycleAngle] at h
  obtain ⟨⟨⟨len, space⟩, wrap⟩, angles⟩ := h
  refine ⟨len, fun e he => of_decide_eq_true (angles e he), isChain_of_spaced space, fun f hf l hl => ?_⟩
  rw [Option.mem_def] at hf hl
  rw [spacedWrap, hf, hl] at wrap
  exact of_decide_eq_true wrap

theorem parseCam_law {es : List RawEdge} {xs : List CamEdge} (h : parseCam es = some xs) : CamLaw xs := by
  unfold parseCam at h
  split at h
  · split at h
    · next ok => cases h; exact camListOk_law ok
    · cases h
  · cases h

theorem parseRunConfig_law {c : RawRunConfig} {x : RunConfig} (h : parseRunConfig c = some x) :
    x.startAngle < 72000 ∧ x.startSpeed ≤ 192000 := by
  unfold parseRunConfig at h
  split at h
  · split at h
    · next ok => cases h; exact ⟨ok.1, Nat.min_le_right _ _⟩
    · cases h
  · cases h

theorem parseSegment_law {g : RawSegment} {n : Fin 16} {x : Segment} (h : parseSegment g = some (n, x)) :
    SegmentLaw x := by
  unfold parseSegment at h
  split at h
  · split at h
    · next ok => cases h; exact ok
    · cases h
  · cases h

theorem storedPoint_law {p : RawPoint} (h : pointInRange p = true) : PointLaw (storedPoint p) := by
  simp only [pointInRange, Bool.and_eq_true, decide_eq_true_eq] at h
  exact ⟨Nat.min_le_right _ _, h.1, h.2⟩

theorem Channel.configured_queueOk {c : Channel} (en : Bool) (m : SourceMode) (rest : Nat × Bool) (ref : Reference)
    (gmin gmax : Nat) (gm : GuardMode) (cause : CauseSel) (h : c.QueueOk) :
    (c.configured en m rest ref gmin gmax gm cause).QueueOk := by
  by_cases hm : m = .stream
  · subst hm
    exact ⟨h.1, h.2.1, fun no => absurd rfl no⟩
  · refine ⟨?_, ?_, fun _ => if_neg hm⟩ <;> simp [Channel.configured, hm]

theorem parseRest_within {n : Fin 16} {rest gmin gmax : Nat} {x : Nat × Bool} (h : parseRest n rest gmin gmax = some x)
    (analog : n.val < 12) : gmin ≤ x.1 ∧ x.1 ≤ gmax := by
  rw [parseRest, if_pos analog] at h
  split at h
  · next ok => cases h; exact ok
  · cases h

/-- What an accepted CHANNEL-CONFIG makes of its channel obeys both laws of a channel. -/
theorem parseChannel_law {r : RawChannelConfig} {n : Fin 16} {f : Channel → Channel} (h : parseChannel r = some (n, f))
    (c : Channel) : (c.QueueOk → (f c).QueueOk) ∧ (f c).GuardOk n := by
  unfold parseChannel at h
  split at h
  · cases h
  · split at h
    · next rest _ _ _ hrest _ _ _ =>
      split at h
      · next ok =>
        cases h
        exact ⟨Channel.configured_queueOk _ _ _ _ _ _ _ _, ok.1, ok.2, parseRest_within hrest⟩
      · cases h
    · cases h

/-! ### The requests -/

theorem lawful_reqRunConfig (c : RawRunConfig) (s : State) : Lawful s (reqRunConfig c s).1 := by
  unfold reqRunConfig
  split
  · split
    · exact .refl s
    · next x hx =>
      have law := parseRunConfig_law hx
      exact ⟨rfl, id, fun ⟨acc, cycle, speed, prev, len, points, active, _⟩ =>
        ⟨acc, cycle, speed, prev, len, points, active, law⟩, id, id, fun _ => id, id, id, id, id, id⟩
  · exact .refl s

theorem lawful_startRun (s : State) : Lawful s (startRun s) := by
  have begun (t : State) :
      Lawful t { t with run := runStart t.run, rot := rotationStart t.run.config t.rot, cap := { t.cap with log := [] } } := by
    refine ⟨rfl, id, ?rotation, id, fun _ => ?run, fun _ _ => ?log, id, id, id, id, id⟩
    case rotation =>
      rintro ⟨-, -, -, -, len, points, -, angle, speed⟩
      refine ⟨?_, Nat.zero_lt_succ _, speed, angle, len, points, nofun, angle, speed⟩
      show t.run.config.startAngle * 80000 < 5760000000
      omega
    case run =>
      refine ⟨?_, fun _ => rfl, nofun, Nat.two_pow_pos 40⟩
      show (EndReason.none = .none) ↔ (if t.run.config.startMode = .immediate then RunState.running else .armed) ≠ .ended
      split <;> simp
    case log => exact ⟨Nat.zero_le _, fun _ => ⟨.nil, nofun⟩⟩
  refine ((calm_finishWork s).lawful.trans (begun _)).trans (Lawful.trans
    (.forEach (f := fun n s => s.setChan n { s.chan n with clamped := false })
      (fun n t => lawful_setChan id id) allChannels _) ?_)
  exact .ite (calm_pulseEvent _ _).lawful (.refl _)

theorem lawful_reqStart (s : State) : Lawful s (reqStart s).1 := by
  unfold reqStart runAnswer
  split
  · exact lawful_startRun s
  · exact .refl s

theorem calm_reqHold (s : State) : Calm s (reqHold s).1 := by
  unfold reqHold runAnswer
  split
  · exact calm_takeHold s
  · exact .refl s

theorem calm_reqResume (s : State) : Calm s (reqResume s).1 := by
  unfold reqResume runAnswer
  split
  · exact calm_releaseEvent .resume s
  · exact .refl s

theorem calm_reqEnd (s : State) : Calm s (reqEnd s).1 := by
  unfold reqEnd runAnswer
  split
  · dsimp only
    exact calm_enterEnded (by simp) s
  · exact .refl s

theorem calm_reqClear (s : State) : Calm s (reqClear s).1 := by
  unfold reqClear runAnswer
  split
  · next ok =>
    have notHeld : s.run.state ≠ .held := fun held => by simp [State.betweenRuns, held] at ok
    refine ⟨rfl, .inl rfl, .inl rfl, fun _ => .refl _, fun ⟨_, _, timer, clock⟩ => ?_, id, id⟩
    exact ⟨⟨fun _ => nofun, fun _ => rfl⟩, nofun, fun h => absurd (timer h) notHeld, clock⟩
  · exact .refl s

theorem lawful_reqWheelSet (w : RawWheel) (s : State) : Lawful s (reqWheelSet w s).1 := by
  unfold reqWheelSet
  split
  · split
    · exact .refl s
    · next x hx => exact lawful_rot id fun law => ⟨parseWheel_law hx, law.2⟩
  · exact .refl s

theorem lawful_reqCamSet (cam count : Nat) (es : List RawEdge) (s : State) : Lawful s (reqCamSet cam count es s).1 := by
  unfold reqCamSet
  split
  · exact .refl s
  · split
    · split
      · next c xs _ hxs =>
        refine lawful_rot id fun law => ⟨law.1, fun d => ?_⟩
        rw [getAt_setAt]
        split
        · exact parseCam_law hxs
        · exact law.2 d
      · exact .refl s
    · exact .refl s

theorem lawful_reqSpeedPush (count : Nat) (ps : List RawPoint) (s : State) : Lawful s (reqSpeedPush count ps s).1 := by
  unfold reqSpeedPush
  split
  · exact .refl s
  · next len =>
    split
    · exact .refl s
    · next fields =>
      split
      · exact .refl s
      · next room =>
        refine lawful_rot ?_ id
        rintro ⟨acc, cycle, speed, prev, -, points, rest⟩
        refine ⟨acc, cycle, speed, prev, ?_, fun p hp => ?_, rest⟩
        · simp only [List.length_append, List.length_map, Config.speedQueue] at room ⊢
          omega
        · rcases List.mem_append.mp hp with old | new
          · exact points p old
          · obtain ⟨q, hq, rfl⟩ := List.mem_map.mp new
            have all : ps.all pointInRange = true := by simpa using fun h => fields (.inr (.inr h))
            exact storedPoint_law (List.all_eq_true.mp all q hq)

theorem lawful_reqSpeedFlush (f : Nat) (s : State) : Lawful s (reqSpeedFlush f s).1 := by
  unfold reqSpeedFlush
  split
  · exact .refl s
  · next also _ =>
    have emptied : Lawful s { s with rot := { s.rot with queue := [], active := if also then none else s.rot.active } } := by
      refine lawful_rot ?_ id
      rintro ⟨acc, cycle, speed, prev, -, -, active, start⟩
      refine ⟨acc, cycle, speed, prev, Nat.zero_le _, nofun, ?_, start⟩
      show ∀ a ∈ (if also then none else s.rot.active), _
      split
      · nofun
      · exact active
    exact .ite (emptied.trans (calm_profileEmptied _).lawful) emptied

theorem lawful_reqTraceWrite (a n : Nat) (xs : List Sample) (s : State) : Lawful s (reqTraceWrite a n xs s).1 := by
  unfold reqTraceWrite
  split
  · exact .refl s
  · next len =>
    split
    · next ok =>
      obtain ⟨-, -, -, fits⟩ := traceRange_eq_true.mp ok
      exact lawful_trace fun law => Memory.writeMany_wf law a xs (by rw [not_not.mp len]; exact fits)
    · exact .refl s

theorem lawful_reqChannelConfig (r : RawChannelConfig) (s : State) : Lawful s (reqChannelConfig r s).1 := by
  unfold reqChannelConfig
  split
  · split
    · next h => exact lawful_setChan (parseChannel_law h _).1 fun _ => (parseChannel_law h _).2
    · exact .refl s
  · exact .refl s

theorem lawful_reqWindowSet (w : RawWindow) (s : State) : Lawful s (reqWindowSet w s).1 := by
  unfold reqWindowSet
  split
  · split
    · exact lawful_setChan id id
    · exact .refl s
  · exact .refl s

theorem lawful_reqSegmentPush (g : RawSegment) (s : State) : Lawful s (reqSegmentPush g s).1 := by
  unfold reqSegmentPush
  split
  · exact .refl s
  · next n x hx =>
    dsimp only
    split
    · exact .refl s
    · next stream =>
      split
      · exact .refl s
      · next room =>
        refine lawful_setChan (fun ⟨_, legal, _⟩ => ⟨?_, fun y hy => ?_, fun no => absurd no stream⟩) id
        · simp only [Config.segmentQueue, List.length_append, List.length_singleton] at room ⊢
          omega
        · rcases List.mem_append.mp hy with old | new
          · exact legal y old
          · exact List.mem_singleton.mp new ▸ parseSegment_law hx

theorem calm_reqSegmentFlush (n f : Nat) (s : State) : Calm s (reqSegmentFlush n f s).1 := by
  unfold reqSegmentFlush
  split
  · dsimp only
    split
    · exact calm_flushChannel _ _ s
    · exact .refl s
  · exact .refl s

theorem lawful_reqChannelSet (n code : Nat) (s : State) : Lawful s (reqChannelSet n code s).1 := by
  unfold reqChannelSet
  split
  · split
    · exact lawful_setChan id id
    · exact .refl s
  · exact .refl s

theorem lawful_configInput (k : Option (Fin 10)) (c : RawInputConfig) (s : State) : Lawful s (configInput k c s).1 := by
  unfold configInput
  split
  · split
    · exact lawful_setInput _ _ s
    · exact .refl s
  · exact .refl s

/-- A part of a lawful log is lawful. -/
theorem logLaw_of_sublist {s : State} {l : List CaptureRecord} (h : l.Sublist s.cap.log) (law : LogLaw s) :
    LogLaw { s with cap := { s.cap with log := l } } :=
  ⟨h.length_le.trans law.1, fun due =>
    ⟨(law.2 due).1.sublist h, fun r hr => (law.2 due).2 r (h.subset hr)⟩⟩

theorem lawful_reqCaptureRead (n : Nat) (s : State) : Lawful s (reqCaptureRead n s).1 := by
  unfold reqCaptureRead
  split
  · exact lawful_cap (logLaw_of_sublist (List.drop_sublist n _))
  · exact .refl s

theorem lawful_reqPinMap (codes : List Nat) (s : State) : Lawful s (reqPinMap codes s).1 := by
  unfold reqPinMap
  split
  · exact .refl s
  · split
    · exact .refl s
    · split
      · exact .refl s
      · split
        · exact .refl s
        · exact lawful_pins

theorem calm_reqFaultLoad (slot : Nat) (r : RawRecord) (s : State) : Calm s (reqFaultLoad slot r s).1 := by
  unfold reqFaultLoad
  split
  · dsimp only
    split <;> exact calm_setSlot _ _ s
  · exact .refl s

theorem calm_armSlot (k : Fin 32) (s : State) : Calm s (armSlot k s) := .ite (calm_setSlot k _ s) (.refl s)

theorem calm_reqFaultArm (m : SlotMask) (s : State) : Calm s (reqFaultArm m s).1 := by
  unfold reqFaultArm
  dsimp only
  refine .forEach (fun k s => ?_) allSlots s
  exact .ite (calm_armSlot k s) (.refl s)

theorem calm_reqFaultCancel (m : SlotMask) (s : State) : Calm s (reqFaultCancel m s).1 := by
  unfold reqFaultCancel
  dsimp only
  refine .forEach (fun k s => ?_) allSlots s
  exact .ite (calm_cancelSlot k s) (.refl s)

theorem lawful_reqSupplyConfig (m : Nat) (s : State) : Lawful s (reqSupplyConfig m s).1 := by
  unfold reqSupplyConfig
  split
  · exact lawful_sup id
  · exact .refl s

theorem calm_reqSupplySet (b i d : Nat) (s : State) : Calm s (reqSupplySet b i d s).1 := by
  unfold reqSupplySet
  split
  · exact calm_commandFeeds_of _ _ _ supplyWaits_of_law
  · exact .refl s

theorem lawful_reqNoticeConfig (es : List Nat) (th : Nat) (s : State) : Lawful s (reqNoticeConfig es th s).1 := by
  unfold reqNoticeConfig
  split
  · exact .refl s
  · split
    · split
      · next ok => exact lawful_ntc fun ⟨_, _, masks⟩ => ⟨ok.1, ok.2, masks⟩
      · exact .refl s
    · exact .refl s

theorem lawful_reqNoticeRead (s : State) : Lawful s (reqNoticeRead s).1 :=
  lawful_ntc fun ⟨low, high, _⟩ => ⟨low, high, fun h => absurd rfl h, fun h => absurd rfl h, fun h => absurd rfl h⟩

theorem lawful_reqTriggerRoute (l src p : Nat) (s : State) : Lawful s (reqTriggerRoute l src p s).1 := by
  unfold reqTriggerRoute
  split
  · exact lawful_ntc id
  · exact .refl s

theorem lawful_reqStatus (f : Nat) (s : State) : Lawful s (reqStatus f s).1 := by
  unfold reqStatus
  split
  · exact lawful_link fun ⟨_, _, _, rest⟩ => ⟨Nat.zero_le _, Nat.zero_le _, Nat.zero_le _, rest⟩
  all_goals exact .refl s

/-! ### The port and the receiver -/

/-- The request in work takes nothing from a frame that waits. -/
theorem lawful_respond (kind : Byte) {s : State} {r : State × Answer} (h : Lawful s r.1) : Lawful s (respond kind r) :=
  h.trans (lawful_link fun ⟨framing, crc, overrun, _, frame⟩ => ⟨framing, crc, overrun, fun _ => rfl, frame⟩)

theorem lawful_serve (c : Instr) (s : State) : Lawful s (serve c s) := by
  cases c with
  | identify => exact lawful_respond 0x01 (.refl s)
  | status f => exact lawful_respond 0x02 (lawful_reqStatus f s)
  | unitReset => exact lawful_respond 0x03 (.refl s)
  | runConfig c => exact lawful_respond 0x10 (lawful_reqRunConfig c s)
  | start => exact lawful_respond 0x11 (lawful_reqStart s)
  | hold => exact lawful_respond 0x12 (calm_reqHold s).lawful
  | resume => exact lawful_respond 0x13 (calm_reqResume s).lawful
  | endRun => exact lawful_respond 0x14 (calm_reqEnd s).lawful
  | clear => exact lawful_respond 0x15 (calm_reqClear s).lawful
  | wheelSet w => exact lawful_respond 0x20 (lawful_reqWheelSet w s)
  | camSet c n es => exact lawful_respond 0x21 (lawful_reqCamSet c n es s)
  | speedPush n ps => exact lawful_respond 0x22 (lawful_reqSpeedPush n ps s)
  | speedFlush f => exact lawful_respond 0x23 (lawful_reqSpeedFlush f s)
  | traceWrite a n xs => exact lawful_respond 0x30 (lawful_reqTraceWrite a n xs s)
  | traceRead a n => exact lawful_respond 0x31 (by unfold reqTraceRead; split <;> exact .refl s)
  | channelConfig c => exact lawful_respond 0x32 (lawful_reqChannelConfig c s)
  | windowSet w => exact lawful_respond 0x33 (lawful_reqWindowSet w s)
  | segmentPush g => exact lawful_respond 0x34 (lawful_reqSegmentPush g s)
  | segmentFlush n f => exact lawful_respond 0x35 (calm_reqSegmentFlush n f s).lawful
  | channelRead n => exact lawful_respond 0x36 (by unfold reqChannelRead; split <;> exact .refl s)
  | channelSet n v => exact lawful_respond 0x37 (lawful_reqChannelSet n v s)
  | captureConfig c => exact lawful_respond 0x40 (lawful_configInput _ c s)
  | captureRead n => exact lawful_respond 0x41 (lawful_reqCaptureRead n s)
  | lineConfig c => exact lawful_respond 0x42 (lawful_configInput _ c s)
  | pinMap cs => exact lawful_respond 0x50 (lawful_reqPinMap cs s)
  | faultLoad k r => exact lawful_respond 0x51 (calm_reqFaultLoad k r s).lawful
  | faultArm m => exact lawful_respond 0x52 (calm_reqFaultArm m s).lawful
  | faultCancel m => exact lawful_respond 0x53 (calm_reqFaultCancel m s).lawful
  | faultQuery k => exact lawful_respond 0x54 (by unfold reqFaultQuery; split <;> exact .refl s)
  | targetQuery => exact lawful_respond 0x55 (.refl s)
  | supplyConfig m => exact lawful_respond 0x60 (lawful_reqSupplyConfig m s)
  | supplySet b i d => exact lawful_respond 0x61 (calm_reqSupplySet b i d s).lawful
  | noticeConfig es t => exact lawful_respond 0x70 (lawful_reqNoticeConfig es t s)
  | noticeRead => exact lawful_respond 0x71 (lawful_reqNoticeRead s)
  | triggerRoute l src p => exact lawful_respond 0x72 (lawful_reqTriggerRoute l src p s)
  | _ => exact .refl s

theorem lawful_handFrame (f : Frame) (s : State) : Lawful s (handFrame f s) := by
  unfold handFrame
  split
  · exact lawful_respond _ (.refl s)
  · exact lawful_respond _ (.refl s)
  · exact lawful_serve _ s

theorem lawful_takeBroadcast (f : Frame) (s : State) : Lawful s (takeBroadcast f s) := by
  unfold takeBroadcast
  split
  case h_1 => exact lawful_reqStart s
  case h_2 => exact (calm_reqHold s).lawful
  case h_3 => exact (calm_reqResume s).lawful
  case h_4 => exact (calm_reqEnd s).lawful
  case h_5 => exact (calm_reqClear s).lawful
  case h_6 => exact (calm_reqFaultArm _ s).lawful
  all_goals exact .refl s

theorem bump_le (n : Nat) : bump n ≤ 65535 := Nat.min_le_right _ _

theorem lawful_countFraming (s : State) : Lawful s (countFraming s) :=
  lawful_link fun ⟨_, crc, overrun, rest⟩ => ⟨bump_le _, crc, overrun, rest⟩
theorem lawful_countCrc (s : State) : Lawful s (countCrc s) :=
  lawful_link fun ⟨framing, _, overrun, rest⟩ => ⟨framing, bump_le _, overrun, rest⟩
theorem lawful_countOverrun (s : State) : Lawful s (countOverrun s) :=
  lawful_link fun ⟨framing, crc, _, rest⟩ => ⟨framing, crc, bump_le _, rest⟩

/-- A receiver that holds no part of a frame has nothing to complete. -/
theorem lawful_hunting (s : State) : Lawful s (setReceiver .hunting s) :=
  lawful_link fun ⟨framing, crc, overrun, waits, _⟩ => ⟨framing, crc, overrun, waits, fun _ _ _ _ e => by cases e⟩

theorem lawful_beginFrame (bc : Bool) (gap : Nat) (s : State) : Lawful s (setReceiver (.receiving bc [] gap) s) :=
  lawful_link fun ⟨framing, crc, overrun, waits, _⟩ => ⟨framing, crc, overrun, waits, fun _ _ _ _ e => by cases e⟩

theorem lawful_arrive (f : Frame) (s : State) : Lawful s (arrive f s) := by
  unfold arrive
  split
  · exact lawful_handFrame f s
  · next work _ =>
    exact lawful_link fun ⟨framing, crc, overrun, _, frame⟩ =>
      ⟨framing, crc, overrun, fun _ => by simp [work], frame⟩
  · exact lawful_countOverrun s

theorem lawful_takeLength (bc : Bool) (c : RxChar) (s : State) : Lawful s (takeLength bc c s) := by
  unfold takeLength
  split
  · exact (lawful_hunting s).trans (lawful_countCrc _)
  · next range =>
    refine lawful_link fun ⟨framing, crc, overrun, waits, _⟩ => ⟨framing, crc, overrun, waits, fun bc' l rest gap e => ?_⟩
    cases e
    simp only [Config.maxLength, not_or] at range
    exact ⟨by omega, by omega, by simp⟩

theorem lawful_completeFrame (bc : Bool) (data : List Byte) (s : State) : Lawful s (completeFrame bc data s) := by
  refine (lawful_hunting s).trans (.ite ?_ (lawful_countCrc _))
  exact .ite (lawful_takeBroadcast _ _) (lawful_arrive _ _)

theorem lawful_takeData (c : RxChar) (s : State) : Lawful s (takeData c s) := by
  unfold takeData
  split
  case h_1 | h_2 => exact .refl s
  case h_3 => exact lawful_takeLength _ c s
  case h_4 bc l rest gap receiving =>
    dsimp only
    split
    · exact lawful_completeFrame bc _ s
    · next more =>
      refine lawful_link fun ⟨framing, crc, overrun, waits, frame⟩ => ⟨framing, crc, overrun, waits, fun bc' l' rest' gap' e => ?_⟩
      obtain ⟨low, high, short⟩ := frame bc l rest gap receiving
      cases e
      refine ⟨low, high, ?_⟩
      have grown : (l :: rest ++ [c.data]).length = rest.length + 2 := by simp
      have grown' : (rest ++ [c.data]).length = rest.length + 1 := by simp
      show (rest ++ [c.data]).length + 1 < _
      omega

theorem lawful_abandonFrame (s : State) : Lawful s (abandonFrame s) := by
  unfold abandonFrame
  split
  · exact (lawful_hunting s).trans (lawful_countFraming _)
  all_goals exact .refl s

theorem lawful_huntAddress (c : RxChar) (s : State) : Lawful s (huntAddress c s) := by
  unfold huntAddress
  exact .ite (lawful_beginFrame _ _ s) (.refl s)

theorem lawful_receiveAddress (c : RxChar) (s : State) : Lawful s (receiveAddress c s) := by
  unfold receiveAddress
  split
  · exact .refl s
  · exact lawful_huntAddress c s
  · exact (lawful_abandonFrame s).trans (lawful_huntAddress c _)

theorem lawful_receiveLength (c : RxChar) (s : State) : Lawful s (receiveLength c s) := by
  unfold receiveLength
  split
  · exact lawful_takeLength _ c s
  all_goals exact .refl s

theorem lawful_setInWork (w : InWork) (s : State) : Lawful s (setInWork (some w) s) :=
  lawful_link fun ⟨framing, crc, overrun, _, frame⟩ => ⟨framing, crc, overrun, fun _ => rfl, frame⟩

theorem lawful_replyStart (s : State) : Lawful s (replyStart s) := by
  unfold replyStart
  split
  · exact .ite (lawful_setInWork _ s) (.refl s)
  · exact .refl s

/-- The request in work makes way, with no frame left behind it. -/
theorem lawful_makeWay {s : State} {l : Link} (h : l.waiting = none)
    (same : { l with inWork := s.link.inWork, waiting := s.link.waiting } = s.link) : Lawful s { s with link := l } := by
  refine lawful_link fun ⟨framing, crc, overrun, _, frame⟩ => ?_
  rw [← same] at framing crc overrun frame
  refine ⟨framing, crc, overrun, fun waits => ?_, frame⟩
  rw [show ({ s with link := l } : State).link.waiting = none from h] at waits
  cases waits

theorem lawful_replyEnd (s : State) : Lawful s (replyEnd s) := by
  unfold replyEnd
  split
  · exact .refl s
  · split
    · exact (lawful_setInWork _ s).trans (lawful_link id)
    · split
      · next none => exact lawful_makeWay none rfl
      · exact (lawful_makeWay (l := { s.link with inWork := none, waiting := none }) rfl rfl).trans (lawful_handFrame _ _)

/-! ### The capture log -/

theorem logLaw_snoc {s : State} {l : List CaptureRecord} {r : CaptureRecord} (law : LogLaw s) (h : l.Sublist s.cap.log)
    (len : l.length + 1 ≤ 512) (clock : r.clock = s.run.clock) :
    LogLaw { s with cap := { s.cap with log := l ++ [r] } } := by
  refine ⟨by simpa using len, fun due => ?_⟩
  obtain ⟨sorted, below⟩ := law.2 due
  have below' (x : CaptureRecord) (hx : x ∈ l) : x.clock ≤ s.run.clock := below x (h.subset hx)
  refine ⟨List.pairwise_append.mpr ⟨sorted.sublist h, List.pairwise_singleton _ r, fun x hx y hy => ?_⟩, fun x hx => ?_⟩
  · rw [List.mem_singleton.mp hy, clock]
    exact below' x hx
  · rcases List.mem_append.mp hx with old | new
    · exact below' x old
    · exact (List.mem_singleton.mp new ▸ clock).le

theorem lawful_writeRecord {r : CaptureRecord} {s : State} (clock : r.clock = s.run.clock) :
    Lawful s (writeRecord r s) := by
  unfold writeRecord
  split
  · next room =>
    exact (lawful_cap fun law => logLaw_snoc law (List.Sublist.refl _) room clock).trans (calm_raiseIf _ _ _).lawful
  · next full =>
    have replaced : Lawful s { s with cap := { s.cap with log := s.cap.log.dropLast ++ [{ r with replaced := true }] } } := by
      refine lawful_cap fun law => logLaw_snoc (r := { r with replaced := true }) law (List.dropLast_sublist _) ?_ clock
      have := law.1
      simp only [Config.captureLog] at full
      simp only [List.length_dropLast]
      omega
    exact replaced.trans (calm_raise _ _).lawful

theorem lawful_logEdge (k : Fin 10) (d : Edge) (s : State) : Lawful s (logEdge k d s) := by
  unfold logEdge
  split
  · exact .ite (lawful_writeRecord rfl) (.refl s)
  · exact .refl s

/-- The start edge, taken in ARMED: no end reason stands there. -/
theorem calm_startEdge {s : State} (armed : s.run.state = .armed) : Calm s (startEdge s) := by
  have running : Calm s { s with run := { s.run with state := .running } } :=
    ⟨rfl, .inl rfl, .inl rfl, fun _ => .refl _, fun ⟨reason, _, timer, clock⟩ =>
      ⟨⟨fun _ => nofun, fun _ => reason.mpr (show s.run.state ≠ .ended by simp [armed])⟩, nofun,
        fun h => absurd (timer h) (by simp [armed]), clock⟩, id, id⟩
  unfold startEdge runStartEvent
  exact (running.trans (calm_raiseRun .running .none _)).trans (calm_pulseEvent _ _)

theorem calm_runEdge (k : Fin 10) (d : Edge) (s : State) : Calm s (runEdge k d s) := by
  unfold runEdge
  split
  · next armed => exact .ite (calm_startEdge armed) (.refl s)
  · exact .ite (calm_releaseEvent .line s) (.ite (calm_releaseEvent .capture s) (.refl s))

theorem calm_edgeItem (st : RunState) (k : Fin 10) (d : Edge) (w : WorkItem) (s : State) :
    Calm s (edgeItem st k d w s) := by
  unfold edgeItem
  split
  · exact calm_runEdge k d s
  · exact .ite (calm_offerEdge k d _ s) (.refl s)
  all_goals exact .refl s

theorem lawful_deliverEdge (k : Fin 10) (d : Edge) (order : List WorkItem) (s : State) :
    Lawful s (deliverEdge k d order s) :=
  (lawful_logEdge k d s).trans (Calm.forEach (calm_edgeItem s.run.state k d) _ _).lawful

theorem lawful_sampleInput (k : Fin 10) (line : Bool) (order : List WorkItem) (s : State) :
    Lawful s (sampleInput k line order s) := by
  unfold sampleInput
  split
  · dsimp only
    split
    · exact .ite ((lawful_setInput k _ s).trans (lawful_deliverEdge k _ order _)) (lawful_setInput k _ s)
    · exact lawful_setInput k _ s
  · exact .refl s

theorem lawful_clockWrap (s : State) : Lawful s (clockWrap s) := by
  unfold clockWrap
  split
  · have wrapped : Lawful s { s with cap := { s.cap with log := s.cap.log.filter (fun r => r.clock == 0) }
                                     run := { s.run with wrapDue := false } } := by
      refine ⟨rfl, id, id, id, id, fun _ law => ?_, id, id, id, id, id⟩
      have zero (r : CaptureRecord) (hr : r ∈ s.cap.log.filter (fun r => r.clock == 0)) : r.clock = 0 := by
        simpa using (List.mem_filter.mp hr).2
      refine ⟨(List.length_filter_le _ _).trans law.1, fun _ => ⟨?_, fun r hr => (zero r hr).trans_le (Nat.zero_le _)⟩⟩
      exact List.pairwise_of_forall_mem_list fun a ha b _ => (zero a ha).trans_le (Nat.zero_le _)
    exact wrapped.trans (calm_raiseIf _ _ _).lawful
  · exact .refl s

/-! ### Resets -/

theorem Channel.queueOk_of_empty {c : Channel} (h : c.queue = []) : c.QueueOk := by
  unfold Channel.QueueOk
  rw [h]
  exact ⟨Nat.zero_le 8, nofun, fun _ => rfl⟩

/-- The supply after a warm reset before its feeds and drivers are decided. -/
def Supply.undropped (u : Supply) (now : Nat) : Supply :=
  { u with
    battDrop := false
    ignDrop := false
    drvReq := if u.shutdown = .driver then false else u.drvReq
    shutdown := if u.shutdown = .driver then .feed (now + Config.feedStageDelay) else u.shutdown }

theorem Supply.afterWarm_eq (u : Supply) (now : Nat) : u.afterWarm now = (u.undropped now).settled now := by
  unfold Supply.afterWarm Supply.undropped
  dsimp only
  split <;> rfl

theorem supplyLaw_afterWarm {s : State} {now : Nat} {u : Supply} (same : s.sup = u.afterWarm now) (time : s.uptime = now)
    (waits : SupplyWaits u now) : SupplyLaw s := by
  unfold SupplyLaw
  rw [same, time, u.afterWarm_eq]
  obtain ⟨battery, ignition, driver⟩ := settled_obeys (u.undropped now) now
  exact ⟨battery, ignition, driver, waits⟩

theorem lawful_warmBlocks (s : State) :
    Lawful s { s with
      run := .afterReset s.run.config
      rot := .afterReset s.rot.wheel s.rot.cams
      cap := { s.cap with log := [] }
      faults := { s.faults with holders := .replicate 45 none }
      pins := .afterReset s.uptime s.pins.map
      sup := s.sup.afterWarm s.uptime
      ntc := .afterReset s.ntc.enables s.ntc.threshold s.ntc.routes
      link := s.link.afterWarm s.uptime } where
  pending := rfl
  trace := id
  rotation := fun ⟨_, _, _, _, _, _, _, start⟩ =>
    ⟨Nat.zero_lt_succ _, Nat.zero_lt_succ _, Nat.zero_le _, Nat.zero_lt_succ _, Nat.zero_le _, nofun, nofun, start⟩
  pattern := id
  run _ := ⟨⟨fun _ => nofun, fun _ => rfl⟩, nofun, nofun, Nat.two_pow_pos 40⟩
  log _ _ := ⟨Nat.zero_le _, fun _ => ⟨.nil, nofun⟩⟩
  supply law := supplyLaw_afterWarm (u := s.sup) rfl rfl (supplyWaits_of_law law)
  queue := id
  guards := id
  notice := fun ⟨low, high, _⟩ => ⟨low, high, fun h => absurd rfl h, fun h => absurd rfl h, fun h => absurd rfl h⟩
  link := fun ⟨framing, crc, overrun, _, _⟩ => ⟨framing, crc, overrun, nofun, fun _ _ _ _ e => by cases e⟩

theorem lawful_chanAfterWarm (n : Fin 16) (s : State) : Lawful s (s.setChan n ((s.chan n).afterWarm n)) :=
  have empty : ((s.chan n).afterWarm n).queue = [] := rfl
  lawful_setChan (fun _ => Channel.queueOk_of_empty empty) (fun h => h)

theorem lawful_takeWarm (s : State) : Lawful s (takeWarm s) := by
  have channels := Lawful.forEach lawful_chanAfterWarm allChannels
  have inputs := Lawful.forEach (fun k t => lawful_setInput k ((t.input k).afterWarm t.uptime) t) allInputs
  have slots := Lawful.forEach (fun k t => (calm_setSlot k (t.slot k).afterWarm t).lawful) allSlots
  exact ((channels s).trans (inputs _)).trans ((slots _).trans (lawful_warmBlocks _))

theorem lawful_warmReset (s : State) : Lawful s (warmReset s) := .ite (lawful_takeWarm s) (.refl s)

end Sys2Proof.Machine
end

section
/-! PROOFS. The laws of the device over every step but the holder table's: cold reset, the beginning and the opening of a
microsecond, the events that fall due, the commands, the step. -/

namespace Sys2Proof.Machine

open Sys2Proof.Safety

/-! ### Cold reset -/

theorem getAt_coldChannels (n : Fin 16) : getAt coldChannels n = Channel.cold (if n.val < 12 then 4095 else 65535) := by
  revert n; decide

/-- A unit after a cold reset obeys every law but the holder table's, whatever its pins. -/
theorem laws_cold (now : Nat) (straps : BitVec 3) (inputs : Vector Input 10) (connPin : Bool) (l : List Instr) :
    let t : State := { State.cold now straps inputs connPin with pending := l }
    TraceLaw t ∧ RotationLaw t ∧ PatternLaw t ∧ RunLaw t ∧ SupplyLaw t ∧ QueueLaw t ∧ GuardLaw t ∧ LogLaw t ∧ NoticeLaw t
      ∧ LinkLaw t := by
  refine ⟨rfl, ⟨Nat.zero_lt_succ _, Nat.zero_lt_succ _, Nat.zero_le _, Nat.zero_lt_succ _, Nat.zero_le _, nofun, nofun,
      Nat.zero_lt_succ _, Nat.zero_le _⟩, ⟨.inl rfl, fun c => ?_⟩, ⟨⟨fun _ => nofun, fun _ => rfl⟩, nofun, nofun, Nat.two_pow_pos 40⟩,
    ⟨rfl, rfl, ⟨nofun, nofun⟩, rfl, nofun, Nat.zero_le _⟩, fun n => ?_, fun n => ?_, ⟨Nat.zero_le _, fun _ => ⟨.nil, nofun⟩⟩,
    ⟨Nat.le_add_left 1 511, Nat.le_refl 512, fun h => absurd rfl h, fun h => absurd rfl h, fun h => absurd rfl h⟩,
    ⟨Nat.zero_le _, Nat.zero_le _, Nat.zero_le _, nofun, fun _ _ _ _ e => by cases e⟩⟩
  · show CamLaw (getAt (.replicate 2 []) c)
    rw [getAt_replicate]
    exact ⟨Nat.zero_le _, nofun, .nil, nofun⟩
  · show (getAt coldChannels n).QueueOk
    rw [getAt_coldChannels]
    exact Channel.queueOk_of_empty rfl
  · show (getAt coldChannels n).GuardOk n
    rw [getAt_coldChannels]
    exact ⟨Nat.zero_le _, Nat.le_refl _, fun _ => ⟨Nat.zero_le _, Nat.zero_le _⟩⟩

theorem lawful_cold (s : State) (now : Nat) (straps : BitVec 3) (inputs : Vector Input 10) (connPin : Bool) :
    Lawful s { State.cold now straps inputs connPin with pending := s.pending } := by
  obtain ⟨trace, rotation, pattern, run, supply, queue, guards, log, notice, link⟩ := laws_cold now straps inputs connPin s.pending
  exact ⟨rfl, fun _ => trace, fun _ => rotation, fun _ => pattern, fun _ => run, fun _ _ => log, fun _ => supply, fun _ => queue,
    fun _ => guards, fun _ => notice, fun _ => link⟩

theorem lawful_coldReset (straps : BitVec 3) (s : State) : Lawful s (coldReset straps s) := lawful_cold s _ _ _ _

/-! ### The beginning of a microsecond -/

theorem lawful_beginChannel (n : Fin 16) (s : State) : Lawful s (beginChannel n s) := by
  unfold beginChannel
  dsimp only
  split <;> exact lawful_setChan id id

theorem lawful_beginInput (k : Fin 10) (s : State) : Lawful s (beginInput k s) := by
  unfold beginInput
  dsimp only
  split
  · exact .refl s
  · exact lawful_setInput k _ s

theorem lawful_beginMicro (s : State) : Lawful s (beginMicro s) := by
  have begun : Lawful s { s with
      uptime := s.uptime + 1
      run := { s.run with inMicro := false }
      pins := { s.pins with routed := s.pins.map }
      sup := { s.sup with sensed := false } } :=
    ⟨rfl, id, id, id, id, fun _ => id, fun ⟨batt, ign, driver, start, done, conn⟩ =>
      ⟨batt, ign, driver, start, done, Nat.le_succ_of_le conn⟩, id, id, id, id⟩
  exact (begun.trans (.forEach lawful_beginChannel _ _)).trans (.forEach lawful_beginInput _ _)

/-! ### The advance of a run microsecond -/

/-- The ranges of the generator's own fields in RotationLaw. -/
def Rotation.Ranges (r : Rotation) : Prop :=
  r.acc < 5760000000 ∧ r.cycle < 65536 ∧ r.speed ≤ 192000 ∧ r.prevTheta < 72000 ∧ r.queue.length ≤ 16
    ∧ (∀ p ∈ r.queue, PointLaw p) ∧ ∀ a ∈ r.active, PointLaw a.point ∧ a.s0 ≤ 192000

theorem rotationLaw_iff {s : State} :
    RotationLaw s ↔ s.rot.Ranges ∧ s.run.config.startAngle < 72000 ∧ s.run.config.startSpeed ≤ 192000 := by
  simp only [RotationLaw, Rotation.Ranges, and_assoc]

theorem Rotation.takePoint_ranges {r : Rotation} (h : r.Ranges) : r.takePoint.Ranges := by
  obtain ⟨acc, cycle, speed, prev, len, points, active⟩ := h
  unfold Rotation.takePoint
  split
  · next p rest _ hq =>
    rw [hq] at len points
    refine ⟨acc, cycle, speed, prev, Nat.le_of_succ_le len, fun q hq => points q (List.mem_cons_of_mem p hq), fun a ha => ?_⟩
    cases ha
    exact ⟨points p List.mem_cons_self, speed⟩
  all_goals exact ⟨acc, cycle, speed, prev, len, points, active⟩

theorem Rotation.playPoint_ranges {r : Rotation} (h : r.Ranges) : r.playPoint.Ranges := by
  obtain ⟨acc, cycle, speed, prev, len, points, active⟩ := h
  unfold Rotation.playPoint
  split
  · exact ⟨acc, cycle, speed, prev, len, points, active⟩
  · next a ha =>
    obtain ⟨point, from0⟩ := active a ha
    have top := (SpeedPoint.speedAt_between (p := a.point) (s0 := a.s0) (Nat.le_add_left 1 a.k)).2
    refine ⟨acc, cycle, top.trans (Nat.max_le.mpr ⟨from0, point.1⟩), prev, len, points, fun b hb => ?_⟩
    cases hb
    exact ⟨point, from0⟩

theorem Rotation.turn_ranges {r : Rotation} (h : r.Ranges) : r.turn.Ranges := by
  obtain ⟨acc, cycle, speed, rest⟩ := h
  unfold Rotation.turn
  dsimp only
  split
  · refine ⟨?_, Nat.mod_lt _ (by decide), speed, rest⟩
    simp only [Config.cycleGrains]
    omega
  · next short => exact ⟨Nat.not_le.mp short, cycle, speed, rest⟩

theorem Rotation.advance_ranges {r : Rotation} (h : r.Ranges) : r.advance.Ranges := by
  obtain ⟨acc, cycle, speed, -, rest⟩ := h
  exact turn_ranges (playPoint_ranges (takePoint_ranges
    ⟨acc, cycle, speed, Nat.div_lt_of_lt_mul (by simpa [Config.grainsPerCentidegree] using acc), rest⟩))

/-- The advance keeps the patterns. -/
theorem Rotation.advance_patterns (r : Rotation) :
    r.advance.withLines.wheel = r.wheel ∧ r.advance.withLines.cams = r.cams := by
  have taken (r : Rotation) : r.takePoint.wheel = r.wheel ∧ r.takePoint.cams = r.cams := by
    unfold Rotation.takePoint; split <;> exact ⟨rfl, rfl⟩
  have played (r : Rotation) : r.playPoint.wheel = r.wheel ∧ r.playPoint.cams = r.cams := by
    unfold Rotation.playPoint; split <;> exact ⟨rfl, rfl⟩
  have turned (r : Rotation) : r.turn.wheel = r.wheel ∧ r.turn.cams = r.cams := by
    unfold Rotation.turn; dsimp only; split <;> exact ⟨rfl, rfl⟩
  unfold Rotation.advance
  exact ⟨(turned _).1.trans ((played _).1.trans (taken _).1), (turned _).2.trans ((played _).2.trans (taken _).2)⟩

theorem Run.tick_clock_of_no_wrap {r : Run} (clock : r.clock < 2 ^ 40) (h : r.tick.wrapDue = false) :
    r.wrapDue = false ∧ r.tick.clock = r.clock + 1 := by
  obtain ⟨wrap, clock'⟩ := Bool.or_eq_false_iff.mp h
  refine ⟨wrap, ?_⟩
  have : (r.clock + 1) % 2 ^ 40 ≠ 0 := by simpa [Config.clockModulus] using clock'
  show (r.clock + 1) % 2 ^ 40 = _
  omega

theorem lawful_advance (s : State) : Lawful s (advance s) where
  pending := rfl
  trace := id
  rotation law := by
    obtain ⟨ranges, start⟩ := rotationLaw_iff.mp law
    exact rotationLaw_iff.mpr ⟨Rotation.advance_ranges ranges, start⟩
  pattern := by
    obtain ⟨wheel, cams⟩ := Rotation.advance_patterns s.rot
    unfold PatternLaw
    rw [show (advance s).rot.wheel = _ from wheel, show (advance s).rot.cams = _ from cams]
    exact id
  run := fun ⟨reason, flags, timer, _⟩ => ⟨reason, flags, timer, Nat.mod_lt _ (Nat.two_pow_pos 40)⟩
  log := fun ⟨_, _, _, clock⟩ ⟨len, ordered⟩ => by
    refine ⟨len, fun h => ?_⟩
    obtain ⟨wrap, next⟩ := Run.tick_clock_of_no_wrap clock h
    obtain ⟨sorted, below⟩ := ordered wrap
    refine ⟨sorted, fun r hr => (below r hr).trans ?_⟩
    rw [show (advance s).run.clock = _ from next]
    exact Nat.le_succ _
  supply := id
  queue := id
  guards := id
  notice := id
  link := id

theorem lawful_formMicro (flushed : List (Fin 16)) (s : State) : Lawful s (formMicro flushed s) := by
  have begun (t : State) : Lawful t { t with run := { t.run with begun := true } } :=
    ⟨rfl, id, id, id, id, fun _ => id, id, id, id, id, id⟩
  have sources := Calm.forEach (calm_formSource flushed) allChannels (advance s)
  have outputs := sources.trans (.forEach calm_formOutput allChannels _)
  have progress := outputs.trans (.forEach calm_countProgress allSlots _)
  exact ((lawful_advance s).trans progress.lawful).trans (begun _)

theorem lawful_openMicro (order : List WorkItem) (old s : State) : Lawful s (openMicro order old s) :=
  (lawful_formMicro _ s).trans (calm_setWork _ _).lawful

/-! ### The events that fall due -/

theorem lawful_takeDue (c : Instr) (s : State) : Lawful s (takeDue c s) := by
  cases c with
  | warmReset => exact lawful_warmReset s
  | initIntervalEnd => exact .ite (lawful_hunting s) (.refl s)
  | relayRecoveryEnd => exact (calm_relayRecoveryEnd s).lawful
  | runClockWrap => exact lawful_clockWrap s
  | halfPeriodEnd n => exact (calm_halfEnd n s).lawful
  | inputSample k line order => exact lawful_sampleInput k line order s
  | speedPointEnd => exact (calm_pointEnd s).lawful
  | sampleSlotEnd n => exact (calm_sampleEnd n s).lawful
  | delayElapse k => exact (calm_delayEnd k s).lawful
  | widthElapse k order => exact (calm_widthEnd k order s).lawful
  | relayApplyComplete => exact (calm_relayApplyComplete s).lawful
  | relayReleaseComplete => exact (calm_relayReleaseComplete s).lawful
  | alignmentTimeout p => exact (calm_alignExpire p s).lawful
  | ignitionWaitEnd => exact (calm_ignitionWaitEnd s).lawful
  | wakeWaitEnd => exact (calm_wakeWaitEnd s).lawful
  | connSenseChange high => exact (calm_senseChange high s).lawful
  | connectionAccepted => exact (calm_connectionAccepted s).lawful
  | feedStage => exact (calm_feedStage s).lawful
  | holdTimeout => exact (calm_holdTimeout s).lawful
  | pulseTimerEnd l => exact Lawful.ite (calm_setTimer l none s).lawful (.refl s)
  | replyStart => exact lawful_replyStart s
  | replyEnd => exact lawful_replyEnd s
  | characterGapTimeout => exact .ite (lawful_abandonFrame s) (.refl s)
  | relayGrant => exact (calm_relayGrant s).lawful
  | _ => exact .refl s

theorem lawful_runMicro (order : List WorkItem) (s : State) : Lawful s (runMicro order s) :=
  runMicro_keeps (Lawful s) order (fun c t _ h => h.trans (lawful_takeDue c t)) (fun t h => h.trans (lawful_beginMicro t))
    (fun o old t _ h => h.trans (lawful_openMicro o old t)) (fun t h => h.trans (calm_takeWork order t).lawful) s (.refl s)

theorem lawful_idle (s : State) : Lawful s (idle s) :=
  idle_keeps (Lawful s) (fun c t _ h => h.trans (lawful_takeDue c t)) (fun t h => h.trans (lawful_beginMicro t))
    (fun o old t _ h => h.trans (lawful_openMicro o old t)) (fun w t h => h.trans (calm_takeItem w t).lawful)
    (fun t h => h.trans (calm_takeWork [] t).lawful) s (.refl s)

/-! ### Every command -/

/-- The commands that are the block's own events, or a request. -/
theorem exec_event_or_request (c : Instr) (s : State) :
    exec c s = .next (takeDue c s) ∨ exec c s = .next (serve c s) ∨ (∃ chars, c = .frameReceived chars)
      ∨ c = .brokenCharacter ∨ (∃ x, c = .coldReset x) ∨ (∃ o, c = .runMicrosecond o)
      ∨ (∃ x, c = .addressCharacterReceived x) ∨ ∃ x, c = .lengthCharacterReceived x := by
  cases c
  case frameReceived x => exact .inr (.inr (.inl ⟨x, rfl⟩))
  case brokenCharacter => exact .inr (.inr (.inr (.inl rfl)))
  case coldReset x => exact .inr (.inr (.inr (.inr (.inl ⟨x, rfl⟩))))
  case runMicrosecond x => exact .inr (.inr (.inr (.inr (.inr (.inl ⟨x, rfl⟩)))))
  case addressCharacterReceived x => exact .inr (.inr (.inr (.inr (.inr (.inr (.inl ⟨x, rfl⟩))))))
  case lengthCharacterReceived x => exact .inr (.inr (.inr (.inr (.inr (.inr (.inr ⟨x, rfl⟩))))))
  case warmReset | initIntervalEnd | relayRecoveryEnd | runClockWrap | halfPeriodEnd | inputSample | speedPointEnd
      | sampleSlotEnd | delayElapse | widthElapse | relayApplyComplete | relayReleaseComplete | alignmentTimeout
      | ignitionWaitEnd | wakeWaitEnd | connSenseChange | connectionAccepted | feedStage | holdTimeout | pulseTimerEnd
      | replyStart | replyEnd | characterGapTimeout | relayGrant => exact .inl rfl
  all_goals exact .inr (.inl rfl)

/-- Every command answers a next state, and is lawful. -/
theorem exec_lawful (c : Instr) (s : State) : ∃ t, exec c s = .next t ∧ Lawful s t := by
  rcases exec_event_or_request c s with e | e | ⟨x, rfl⟩ | rfl | ⟨x, rfl⟩ | ⟨x, rfl⟩ | ⟨x, rfl⟩ | ⟨x, rfl⟩
  · exact ⟨_, e, lawful_takeDue c s⟩
  · exact ⟨_, e, lawful_serve c s⟩
  · exact ⟨_, rfl, .forEach lawful_takeData x s⟩
  · exact ⟨_, rfl, lawful_abandonFrame s⟩
  · exact ⟨_, rfl, lawful_coldReset x s⟩
  · exact ⟨_, rfl, lawful_runMicro x s⟩
  · exact ⟨_, rfl, lawful_receiveAddress x s⟩
  · exact ⟨_, rfl, lawful_receiveLength x s⟩

/-- A step is lawful from its state with the command taken off the queue, and the laws do not speak of the queue. -/
theorem step_lawful {s t : State} (h : step s = .next t) : ∃ rest, Lawful { s with pending := rest } t := by
  rcases step_cases h with ⟨c, rest, -, e⟩ | ⟨-, rfl⟩
  · obtain ⟨t', e', law⟩ := exec_lawful c { s with pending := rest }
    cases e.symm.trans e'
    exact ⟨rest, law⟩
  · exact ⟨s.pending, lawful_idle s⟩

/-- Settles O2: every arm of the dispatch answers next, and no operation of a command touches the queue. -/
theorem everyCommandAnswersAndKeepsTheQueue : Obligations.EveryCommandAnswersAndKeepsTheQueue := by
  intro c s
  obtain ⟨t, e, law⟩ := exec_lawful c s
  exact ⟨t, e, law.pending⟩

/-- Settles O56: each operation is lawful, and so is the step made of them. -/
theorem stepKeepsMemoryRotationAndPatterns : Obligations.StepKeepsMemoryRotationAndPatterns := by
  intro s t h
  obtain ⟨rest, law⟩ := step_lawful h
  exact ⟨law.trace, law.rotation, law.pattern⟩

/-- Settles O57, by the same lawfulness; the log's order turns on the clock's wrap mark, `Run.tick_clock_of_no_wrap`. -/
theorem stepKeepsTheRunAndItsLog : Obligations.StepKeepsTheRunAndItsLog := by
  intro s t h
  obtain ⟨rest, law⟩ := step_lawful h
  exact ⟨law.run, law.log⟩

/-- Settles O58, by the same lawfulness; every change of the supply decides its feeds from lawful waits. -/
theorem stepKeepsTheFeedOrder : Obligations.StepKeepsTheFeedOrder := by
  intro s t hs h
  obtain ⟨rest, law⟩ := step_lawful h
  exact law.supply hs

/-- Settles O59, by the same lawfulness. -/
theorem stepKeepsQueuesGuardsNoticesAndLink : Obligations.StepKeepsQueuesGuardsNoticesAndLink := by
  intro s t h
  obtain ⟨rest, law⟩ := step_lawful h
  exact ⟨law.queue, law.guards, law.notice, law.link⟩

end Sys2Proof.Machine
end

section
/-! PROOFS. The holder table and the harness over every step. The law is taken apart slot by slot: an operation of one slot
leaves what the law says of the others (`Elsewhere`), and is proved lawful for its own. -/

namespace Sys2Proof.Machine

open Sys2Proof.Safety

/-! ### The law slot by slot -/

/-- What HolderLaw says of one slot. -/
structure OwnLaw (s : State) (k : Fin 32) : Prop where
  holder : ∀ g, s.holder g = some k ↔ holding (s.slot k) ∧ g ∈ recordTargets (s.slot k)
  record : (s.slot k).state ≠ .empty → (s.slot k).record.isSome
  wait : ∀ p, ∀ w ∈ s.wait p, w.slot = k → WaitLaw s p w
  entry : ∀ e ∈ transitions s, e.slot = k → EntryLaw s e
  single : (transitions s).countP (fun e => e.slot == k) ≤ 1
  normal : ∀ p, s.holder (pinTarget p) = some k → (s.slot k).state = .aligning ∨ (s.slot k).state = .pending →
    s.path p = .normal

/-- A pin's path is other than NORMAL only while held (R142). -/
def PathLaw (s : State) : Prop := ∀ p, s.path p ≠ .normal → (s.holder (pinTarget p)).isSome

theorem holderLaw_iff {s : State} : HolderLaw s ↔ (∀ k, OwnLaw s k) ∧ PathLaw s := by
  have nodup : ((transitions s).map (·.slot)).Nodup ↔ ∀ k, (transitions s).countP (fun e => e.slot == k) ≤ 1 := by
    rw [List.nodup_iff_count_le_one]
    simp only [List.count_eq_countP, List.countP_map]
    rfl
  constructor
  · rintro ⟨holder, record, wait, entry, single, path, normal⟩
    exact ⟨fun k => ⟨fun g => holder g k, record k, fun p w hw _ => wait p w hw, fun e he _ => entry e he,
      nodup.mp single k, fun p => normal p k⟩, path⟩
  · rintro ⟨own, path⟩
    exact ⟨fun g k => (own k).holder g, fun k => (own k).record, fun p w hw => (own w.slot).wait p w hw rfl,
      fun e he => (own e.slot).entry e he rfl, nodup.mpr fun k => (own k).single, path, fun p k => (own k).normal p⟩

theorem not_holding {x : Slot} (h : ¬ holding x) :
    x.state ≠ .aligning ∧ x.state ≠ .pending ∧ x.state ≠ .active ∧ x.state ≠ .releasing := by
  simpa [holding, not_or] using h

theorem holding_congr {x y : Slot} (h : y.state = x.state) : holding y ↔ holding x := by
  unfold holding; rw [h]

theorem recordTargets_congr {x y : Slot} (h : y.record = x.record) : recordTargets y = recordTargets x := by
  unfold recordTargets; rw [h]

theorem recordTargets_of_record {x : Slot} {r : FaultRecord} (h : x.record = some r) :
    recordTargets x = r.action.targets := by
  unfold recordTargets; rw [h]; rfl

theorem OwnLaw.no_holder {s : State} {k : Fin 32} (h : OwnLaw s k) (idle : ¬ holding (s.slot k)) (g : Fin 45) :
    s.holder g ≠ some k := fun hg => idle ((h.holder g).mp hg).1

theorem OwnLaw.no_wait {s : State} {k : Fin 32} (h : OwnLaw s k) (state : (s.slot k).state ≠ .aligning) (p : Fin 24)
    (w : AlignWait) (hw : w ∈ s.wait p) : w.slot ≠ k := fun e => state (e ▸ (h.wait p w hw e).1)

theorem OwnLaw.no_entry {s : State} {k : Fin 32} (h : OwnLaw s k) (pending : (s.slot k).state ≠ .pending)
    (releasing : (s.slot k).state ≠ .releasing) (e : RelayEntry) (he : e ∈ transitions s) : e.slot ≠ k := by
  rintro rfl
  have state := (h.entry e he rfl).1
  split at state
  · exact pending state
  · exact releasing state

/-- A slot that stands in no holding state obeys its law when nothing names it. -/
theorem OwnLaw.idle {t : State} {k : Fin 32} (idle : ¬ holding (t.slot k))
    (record : (t.slot k).state ≠ .empty → (t.slot k).record.isSome) (holder : ∀ g, t.holder g ≠ some k)
    (wait : ∀ p, ∀ w ∈ t.wait p, w.slot ≠ k) (entry : ∀ e ∈ transitions t, e.slot ≠ k) : OwnLaw t k where
  holder g := ⟨fun h => absurd h (holder g), fun h => absurd h.1 idle⟩
  record := record
  wait p w hw e := absurd e (wait p w hw)
  entry x hx e := absurd e (entry x hx)
  single := by
    rw [List.countP_eq_zero.mpr fun e he => by simpa using entry e he]
    exact Nat.zero_le 1
  normal p h := absurd h (holder _)

/-! ### What an operation of one slot leaves of the others -/

/-- From `s` to `t` what the law says of the slots other than `k` stays; waits may only go. -/
structure Elsewhere (k : Fin 32) (s t : State) : Prop where
  state : ∀ j ≠ k, (t.slot j).state = (s.slot j).state
  record : ∀ j ≠ k, (t.slot j).record = (s.slot j).record
  holder : ∀ j ≠ k, ∀ g, t.holder g = some j ↔ s.holder g = some j
  wait : ∀ p, ∀ w ∈ t.wait p, w.slot ≠ k → w ∈ s.wait p
  entry : ((transitions t).filter (fun e => e.slot ≠ k)).Perm ((transitions s).filter (fun e => e.slot ≠ k))
  path : ∀ p, ∀ j ≠ k, s.holder (pinTarget p) = some j → t.path p = s.path p

/-- From `s` to `t` nothing moves that the law speaks of; the drive and its list may hold the same entries in another order. -/
structure SameHold (s t : State) : Prop where
  state : ∀ j, (t.slot j).state = (s.slot j).state
  record : ∀ j, (t.slot j).record = (s.slot j).record
  holder : ∀ g, t.holder g = s.holder g
  wait : ∀ p, t.wait p = s.wait p
  entry : (transitions t).Perm (transitions s)
  path : ∀ p, t.path p = s.path p

variable {s t u : State} {k : Fin 32} {hot : Option (Fin 32)}

theorem SameHold.refl (s : State) : SameHold s s := ⟨fun _ => rfl, fun _ => rfl, fun _ => rfl, fun _ => rfl, .refl _, fun _ => rfl⟩

theorem SameHold.trans (h : SameHold s t) (h' : SameHold t u) : SameHold s u :=
  ⟨fun j => (h'.state j).trans (h.state j), fun j => (h'.record j).trans (h.record j), fun g => (h'.holder g).trans (h.holder g),
    fun p => (h'.wait p).trans (h.wait p), h'.entry.trans h.entry, fun p => (h'.path p).trans (h.path p)⟩

theorem Elsewhere.of_same (h : SameHold s t) : Elsewhere k s t :=
  ⟨fun j _ => h.state j, fun j _ => h.record j, fun j _ g => by rw [h.holder g], fun p w hw _ => h.wait p ▸ hw,
    h.entry.filter _, fun p _ _ _ => h.path p⟩

theorem Elsewhere.trans (h : Elsewhere k s t) (h' : Elsewhere k t u) : Elsewhere k s u where
  state j hj := (h'.state j hj).trans (h.state j hj)
  record j hj := (h'.record j hj).trans (h.record j hj)
  holder j hj g := (h'.holder j hj g).trans (h.holder j hj g)
  wait p w hw hk := h.wait p w (h'.wait p w hw hk) hk
  entry := h'.entry.trans h.entry
  path p j hj hp := (h'.path p j hj ((h.holder j hj _).mpr hp)).trans (h.path p j hj hp)

theorem Elsewhere.mem_entry (h : Elsewhere k s t) {e : RelayEntry} (hk : e.slot ≠ k) :
    e ∈ transitions t ↔ e ∈ transitions s := by
  simpa [hk] using h.entry.mem_iff (a := e)

theorem OwnLaw.elsewhere {j : Fin 32} (own : OwnLaw s j) (h : Elsewhere k s t) (hj : j ≠ k) : OwnLaw t j where
  holder g := by
    rw [h.holder j hj g, holding_congr (h.state j hj), recordTargets_congr (h.record j hj)]
    exact own.holder g
  record := by rw [h.state j hj, h.record j hj]; exact own.record
  wait p w hw e := by
    obtain ⟨state, targets⟩ := own.wait p w (h.wait p w hw (e ▸ hj)) e
    subst e
    exact ⟨(h.state _ hj).trans state, (recordTargets_congr (h.record _ hj)).trans targets⟩
  entry x hx e := by
    subst e
    obtain ⟨state, path⟩ := own.entry x ((h.mem_entry hj).mp hx) rfl
    exact ⟨(h.state _ hj).trans state, by rw [h.record _ hj]; exact path⟩
  single := by
    have others (l : List RelayEntry) :
        l.countP (fun e => e.slot == j) = (l.filter (fun e => e.slot ≠ k)).countP (fun e => e.slot == j) := by
      rw [List.countP_filter]
      refine List.countP_congr fun e _ => ?_
      by_cases he : e.slot = j
      · simp [he, hj]
      · simp [he]
    rw [others, h.entry.countP_eq, ← others]
    exact own.single
  normal p hp st := by
    have hp := (h.holder j hj _).mp hp
    rw [h.path p j hj hp]
    exact own.normal p hp (by rw [← h.state j hj]; exact st)

/-! ### The law with one release still to be handed over -/

/-- HolderLaw, and slot `hot`, if there is one, stands in RELEASING with no transition handed over yet. -/
structure Held (hot : Option (Fin 32)) (s : State) : Prop where
  own : ∀ k, OwnLaw s k
  path : PathLaw s
  fresh : ∀ k ∈ hot, (s.slot k).state = .releasing ∧ ∀ e ∈ transitions s, e.slot ≠ k

theorem held_iff : Held none s ↔ HolderLaw s :=
  ⟨fun h => holderLaw_iff.mpr ⟨h.own, h.path⟩, fun h => ⟨(holderLaw_iff.mp h).1, (holderLaw_iff.mp h).2, nofun⟩⟩

theorem Held.cool (h : Held hot s) : Held none s := ⟨h.own, h.path, nofun⟩

/-- Only a slot in RELEASING is the one whose release is still to be handed over. -/
theorem Held.not_hot (h : Held hot s) (state : (s.slot k).state ≠ .releasing) : k ∉ hot := fun hk => state (h.fresh k hk).1

theorem Held.elsewhere (h : Held hot s) (e : Elsewhere k s t) (cold : k ∉ hot) (own : OwnLaw t k)
    (path : ∀ p, t.path p ≠ .normal → s.holder (pinTarget p) = none ∨ s.holder (pinTarget p) = some k →
      (t.holder (pinTarget p)).isSome) : Held hot t where
  own j := if hj : j = k then hj ▸ own else (h.own j).elsewhere e hj
  path p hp := by
    cases hh : s.holder (pinTarget p) with
    | none => exact path p hp (.inl hh)
    | some j =>
      by_cases hj : j = k
      · exact path p hp (.inr (hj ▸ hh))
      · rw [(e.holder j hj _).mpr hh]; rfl
  fresh j hj := by
    have hk : j ≠ k := fun e => cold (e ▸ hj)
    obtain ⟨state, none⟩ := h.fresh j hj
    refine ⟨(e.state j hk).trans state, fun x hx ex => ?_⟩
    exact none x ((e.mem_entry (ex ▸ hk)).mp hx) ex

theorem Held.same (h : Held hot s) (e : SameHold s t) : Held hot t where
  own j := by
    by_cases hj : j = 0
    · exact (h.own j).elsewhere (k := 1) (.of_same e) (by rw [hj]; decide)
    · exact (h.own j).elsewhere (.of_same e) hj
  path p hp := by
    rw [e.holder]
    exact h.path p (e.path p ▸ hp)
  fresh j hj := by
    obtain ⟨state, none⟩ := h.fresh j hj
    exact ⟨(e.state j).trans state, fun x hx => none x (e.entry.mem_iff.mp hx)⟩

/-! ### Operations that touch neither the slots nor the pins -/

/-- The two blocks that HolderLaw speaks of. -/
def State.harness (s : State) : Faults × PinMatrix := (s.faults, s.pins)

theorem SameHold.of_harness (h : t.harness = s.harness) : SameHold s t := by
  obtain ⟨faults, pins⟩ := Prod.mk.inj h
  refine ⟨fun j => ?_, fun j => ?_, fun g => ?_, fun p => ?_, ?_, fun p => ?_⟩
  · unfold State.slot; rw [faults]
  · unfold State.slot; rw [faults]
  · unfold State.holder; rw [faults]
  · unfold State.wait; rw [pins]
  · unfold transitions; rw [pins]
  · unfold State.path; rw [pins]

theorem Held.of_harness (h : Held hot s) (e : t.harness = s.harness) : Held hot t := h.same (.of_harness e)

@[simp] theorem harness_settleFeeds (s : State) : (settleFeeds s).harness = s.harness := by
  rw [State.harness, settleFeeds_faults, settleFeeds_pins]; rfl

@[simp] theorem harness_relayCompleted (s : State) : (relayCompleted s).harness = s.harness := by
  unfold relayCompleted
  split
  · exact harness_settleFeeds _
  · rfl

@[simp] theorem harness_raiseIf (b : Bool) (k : NoticeKind) (s : State) : (raiseIf b k s).harness = s.harness := by
  unfold raiseIf; split <;> rfl

@[simp] theorem harness_raiseCause (n : Fin 16) (c : CauseSel) (s : State) : (raiseCause n c s).harness = s.harness := by
  unfold raiseCause; split <;> rfl

@[simp] theorem harness_pulseEvent (on : Route → Bool) (s : State) : (pulseEvent on s).harness = s.harness :=
  forEach_view State.harness _ _ (fun l _ s => by split <;> rfl) s

@[simp] theorem harness_sourceEnd (n : Fin 16) (s : State) : (sourceEnd n s).harness = s.harness := by
  unfold sourceEnd
  dsimp only
  split
  · exact harness_raiseCause n _ s
  · rfl

@[simp] theorem harness_takeHold (s : State) : (takeHold s).harness = s.harness := by
  rcases takeHold_cases s with ⟨-, e⟩ | ⟨-, -, e⟩ | ⟨-, -, e⟩ <;> rw [e] <;> rfl

@[simp] theorem harness_releaseEvent (e : ReleaseEvent) (s : State) : (releaseEvent e s).harness = s.harness := by
  unfold releaseEvent; split <;> rfl

/-! ### Slots that hold nothing -/

theorem Elsewhere.of_slot (slot : ∀ j ≠ k, t.slot j = s.slot j) (holders : t.faults.holders = s.faults.holders)
    (pins : t.pins = s.pins) : Elsewhere k s t where
  state j hj := by rw [slot j hj]
  record j hj := by rw [slot j hj]
  holder j _ g := by unfold State.holder; rw [holders]
  wait p w hw _ := by unfold State.wait at hw ⊢; rwa [← pins]
  entry := by unfold transitions; rw [pins]
  path p _ _ _ := by unfold State.path; rw [pins]

/-- A slot that holds nothing moves to another state in which it holds nothing, its record kept or replaced. -/
theorem Held.idle (h : Held hot s) (idle : ¬ holding (s.slot k)) (slot : ∀ j ≠ k, t.slot j = s.slot j)
    (holders : t.faults.holders = s.faults.holders) (pins : t.pins = s.pins) (idle' : ¬ holding (t.slot k))
    (record : (t.slot k).state ≠ .empty → (t.slot k).record.isSome) : Held hot t := by
  obtain ⟨aligning, pending, active, releasing⟩ := not_holding idle
  refine h.elsewhere (.of_slot slot holders pins) (h.not_hot releasing) ?_ fun p hp _ => ?_
  · refine .idle idle' record (fun g => ?_) (fun p w hw => ?_) (fun e he => ?_)
    · rw [State.holder, holders]; exact (h.own k).no_holder idle g
    · rw [State.wait, pins] at hw; exact (h.own k).no_wait aligning p w hw
    · rw [transitions, pins] at he; exact (h.own k).no_entry pending releasing e he
  · rw [State.holder, holders]
    exact h.path p (by rw [State.path, ← pins]; exact hp)

theorem Held.idle_setSlot {x : Slot} (h : Held hot s) (idle : ¬ holding (s.slot k)) (idle' : ¬ holding x)
    (record : x.state ≠ .empty → x.record.isSome) : Held hot (s.setSlot k x) :=
  h.idle idle (fun j hj => State.slot_setSlot_other s k x j hj) rfl rfl (by rwa [State.slot_setSlot_same])
    (by rwa [State.slot_setSlot_same])

theorem holding_of_state {x : Slot} {st : SlotState} (h : x.state = st) :
    holding x ↔ st = .aligning ∨ st = .pending ∨ st = .active ∨ st = .releasing := by rw [← h]; exact Iff.rfl

/-- A counted activation leaves its slot LOADED with its staged record, DONE or ARMED (R129, R115). -/
theorem counted_cases (now : Nat) (x : Slot) :
    ((counted now x).state = .loaded ∧ (counted now x).record.isSome = true)
      ∨ ((counted now x).state = .done ∧ (counted now x).record = x.record)
      ∨ ((counted now x).state = .armed ∧ (counted now x).record = x.record) := by
  cases hr : x.remaining with
  | endless => exact .inr (.inr (by simp [counted, hr]))
  | finite n =>
    by_cases last : Reps.finite (n - 1) = .finite 0
    · cases hs : x.staged with
      | some r => exact .inl (by simp [counted, hr, hs, last])
      | none => exact .inr (.inl (by simp [counted, hr, hs, last]))
    · exact .inr (.inr (by simp [counted, hr, last]))

theorem not_holding_counted (now : Nat) (x : Slot) : ¬ holding (counted now x) := by
  rcases counted_cases now x with ⟨e, -⟩ | ⟨e, -⟩ | ⟨e, -⟩ <;> rw [holding_of_state e] <;> decide

theorem isSome_counted_record (now : Nat) {x : Slot} (h : x.record.isSome) : (counted now x).record.isSome := by
  rcases counted_cases now x with ⟨-, e⟩ | ⟨-, e⟩ | ⟨-, e⟩
  · exact e
  all_goals rw [e]; exact h

theorem Held.countRepetition (h : Held hot s) (idle : ¬ holding (s.slot k)) (record : (s.slot k).record.isSome) :
    Held hot (countRepetition k s) := by
  obtain ⟨-, -, -, pins, -, holders, -⟩ := countRepetition_rest k s
  refine h.idle idle (fun j hj => countRepetition_slot_other k s j hj) holders pins ?_ fun _ => ?_ <;>
    rw [countRepetition_slot_same]
  · exact not_holding_counted _ _
  · exact isSome_counted_record _ record

/-- The state and record of one slot kept, its other fields free. -/
theorem SameHold.setSlot {x : Slot} (state : x.state = (s.slot k).state) (record : x.record = (s.slot k).record) :
    SameHold s (s.setSlot k x) := by
  refine ⟨fun j => ?_, fun j => ?_, fun _ => rfl, fun _ => rfl, .refl _, fun _ => rfl⟩ <;> rw [State.slot_setSlot] <;> split
  · next e => rw [state, e]
  · rfl
  · next e => rw [record, e]
  · rfl

end Sys2Proof.Machine
end

section
/-! PROOFS. The holder table over the relay drive, the releases, the returns, the applies and the alignment waits. -/

namespace Sys2Proof.Machine

open Sys2Proof.Safety

variable {s t u : State} {k : Fin 32} {hot : Option (Fin 32)}

/-! ### The relay drive and its list -/

theorem mem_of_chooseEntry {e : RelayEntry} {l : List RelayEntry} (h : chooseEntry l = some e) : e ∈ l := by
  induction l with
  | nil => cases h
  | cons a l ih =>
    unfold chooseEntry at h
    split at h
    · cases h; exact List.mem_cons_self
    · next f hf =>
      split at h
      · cases h; exact List.mem_cons_of_mem a (ih hf)
      · cases h; exact List.mem_cons_self

theorem SameHold.of_drive (faults : t.faults = s.faults) (paths : t.pins.paths = s.pins.paths)
    (waits : t.pins.waits = s.pins.waits) (entry : (transitions t).Perm (transitions s)) : SameHold s t := by
  refine ⟨fun j => ?_, fun j => ?_, fun g => ?_, fun p => ?_, entry, fun p => ?_⟩
  · unfold State.slot; rw [faults]
  · unfold State.slot; rw [faults]
  · unfold State.holder; rw [faults]
  · unfold State.wait; rw [waits]
  · unfold State.path; rw [paths]

theorem same_relayGrant (s : State) : SameHold s (relayGrant s) := by
  unfold relayGrant
  split
  · next due =>
    have free : s.pins.drive = .free := by
      simp only [State.grantDue, Bool.and_eq_true, beq_iff_eq] at due
      exact due.1
    split
    · next e he =>
      refine .of_drive rfl rfl rfl ?_
      rw [show transitions s = s.pins.waitList by simp [transitions, free]]
      exact (List.perm_cons_erase (mem_of_chooseEntry he)).symm
    · exact .refl s
  · exact .refl s

theorem same_reopenGrant (s : State) : SameHold s (reopenGrant s) := by
  unfold reopenGrant
  split
  · next e _ busy =>
    refine .of_drive rfl rfl rfl ?_
    rw [show transitions s = e :: s.pins.waitList by simp [transitions, busy]]
    exact .refl _
  all_goals exact .refl s

/-- A change of the list keeps the law, also where the drive then chooses anew. -/
theorem held_regrant {f : State → State} (h : ∀ t, SameHold s t → Held hot (f t)) : Held hot (regrant f s) := by
  unfold regrant
  split
  · exact (h _ (same_reopenGrant s)).same (same_relayGrant _)
  · exact h s (.refl s)

theorem entryLaw_same {e : RelayEntry} (h : EntryLaw s e) (same : SameHold s t) : EntryLaw t e := by
  unfold EntryLaw
  rw [same.state, same.record]
  exact h

/-- A slot hands over its first transition. -/
theorem Held.handRelay {e : RelayEntry} (h : Held hot s) (law : EntryLaw s e) (first : ∀ x ∈ transitions s, x.slot ≠ e.slot)
    (cold : e.slot ∉ hot) : Held hot (handRelay e s) := by
  refine held_regrant fun t same => ?_
  have ht := h.same same
  have law := entryLaw_same law same
  have first (x : RelayEntry) (hx : x ∈ transitions t) : x.slot ≠ e.slot := first x (same.entry.mem_iff.mp hx)
  have joined : transitions (t.setWaitList (t.pins.waitList ++ [e])) = transitions t ++ [e] :=
    (List.append_assoc _ t.pins.waitList [e]).symm
  have others : Elsewhere e.slot t (t.setWaitList (t.pins.waitList ++ [e])) := by
    refine ⟨fun _ _ => rfl, fun _ _ => rfl, fun _ _ _ => Iff.rfl, fun _ _ hw _ => hw, ?_, fun _ _ _ _ => rfl⟩
    rw [joined, List.filter_append, List.filter_cons_of_neg (by simp), List.filter_nil, List.append_nil]
  refine ht.elsewhere others cold ?_ fun p hp _ => ht.path p hp
  obtain ⟨holder, record, wait, -, -, normal⟩ := ht.own e.slot
  refine ⟨holder, record, wait, fun x hx hk => ?_, ?_, normal⟩
  · rw [joined, List.mem_append, List.mem_singleton] at hx
    rcases hx with old | rfl
    · exact absurd hk (first x old)
    · exact law
  · rw [joined, List.countP_append, List.countP_eq_zero.mpr fun x hx => by simpa using first x hx]
    simp

/-! ### Releases -/

theorem Held.record (h : Held hot s) (state : (s.slot k).state ≠ .empty) : ∃ r, (s.slot k).record = some r :=
  Option.isSome_iff_exists.mp ((h.own k).record state)

theorem clearHolders_pins (k : Fin 32) (s : State) : (clearHolders k s).pins = s.pins := by
  have rest := clearHolders_rest k s
  simp only [Prod.mk.injEq] at rest
  exact rest.2.2.2.1

theorem toLoaded_pins (k : Fin 32) (s : State) : (toLoaded k s).pins = s.pins := rfl

theorem releaseDone_pins (k : Fin 32) (s : State) : (releaseDone k s).pins = s.pins := by
  unfold releaseDone
  dsimp only
  split
  · rw [(countRepetition_rest k _).2.2.2.1, clearHolders_pins]
  · rw [toLoaded_pins, clearHolders_pins]

/-- Slot k comes to hold nothing: its holders are cleared, its pins stand at NORMAL and nothing else names it. -/
theorem Held.let_go (h : Held hot s) (cold : k ∉ hot) (normal : ∀ p, s.holder (pinTarget p) = some k → s.path p = .normal)
    (slot : ∀ j ≠ k, t.slot j = s.slot j)
    (holder : ∀ g, t.holder g = if s.holder g = some k then none else s.holder g)
    (paths : t.pins.paths = s.pins.paths) (wait : ∀ p, ∀ w ∈ t.wait p, w ∈ s.wait p ∧ w.slot ≠ k)
    (entry : transitions t = (transitions s).filter (fun e => e.slot ≠ k)) (idle : ¬ holding (t.slot k))
    (record : (t.slot k).state ≠ .empty → (t.slot k).record.isSome) : Held hot t := by
  have path (p : Fin 24) : t.path p = s.path p := by unfold State.path; rw [paths]
  have others : Elsewhere k s t := by
    refine ⟨fun j hj => by rw [slot j hj], fun j hj => by rw [slot j hj], fun j hj g => ?_, fun p w hw _ => (wait p w hw).1,
      ?_, fun p _ _ _ => path p⟩
    · rw [holder]
      split
      · next e => rw [e]; exact ⟨nofun, fun e => absurd (Option.some.inj e).symm hj⟩
      · exact Iff.rfl
    · rw [entry, List.filter_filter]
      simp
  refine h.elsewhere others cold (.idle idle record (fun g hg => ?_) (fun p w hw => (wait p w hw).2) fun e he => ?_) ?_
  · rw [holder] at hg
    split at hg
    · cases hg
    · next no => exact no hg
  · rw [entry] at he
    simpa using (List.mem_filter.mp he).2
  · rintro p hp (free | own)
    · exact absurd (h.path p (path p ▸ hp)) (by rw [free]; decide)
    · exact absurd (normal p own) (path p ▸ hp)

theorem filter_eq_self_of_no_entry {l : List RelayEntry} (h : ∀ e ∈ l, e.slot ≠ k) : l.filter (fun e => e.slot ≠ k) = l :=
  List.filter_eq_self.mpr fun e he => by simpa using h e he

/-- A release is done: the pins of the slot stand at NORMAL and no transition of it is left. -/
theorem Held.releaseDone (h : Held hot s) (cold : k ∉ hot) (normal : ∀ p, s.holder (pinTarget p) = some k → s.path p = .normal)
    (wait : ∀ p, ∀ w ∈ s.wait p, w.slot ≠ k) (entry : ∀ e ∈ transitions s, e.slot ≠ k) (record : (s.slot k).record.isSome) :
    Held hot (releaseDone k s) := by
  have pins := releaseDone_pins k s
  refine h.let_go cold normal (fun j hj => releaseDone_slot_other k s j hj) (releaseDone_holder k s) (by rw [pins])
    (fun p w hw => ?_) ?_ ?_ fun _ => ?_
  · rw [State.wait, pins] at hw
    exact ⟨hw, wait p w hw⟩
  · rw [transitions, pins]
    exact (filter_eq_self_of_no_entry entry).symm
  · rw [releaseDone_slot_same]
    split
    · exact not_holding_counted _ _
    · simp [holding]
  · rw [releaseDone_slot_same]
    split
    · exact isSome_counted_record _ record
    · cases hs : (s.slot k).staged <;> simp [record]

theorem pinTarget_injective : Function.Injective pinTarget := fun p q e => Fin.ext (by simpa [pinTarget] using e)

/-- An instant action that holds a pin is OPEN or SHORT_GND. -/
theorem Action.switch_of_pin {a : Action} {p : Fin 24} (instant : a.relay = none) (h : pinTarget p ∈ a.targets) :
    a = .openPin p ∨ a = .shortGnd p := by
  have apart (v : Nat) (hv : 24 ≤ v) (g : Fin 45) (hg : g.val = v) : pinTarget p ≠ g := fun e => by
    have := congrArg Fin.val e
    simp only [pinTarget] at this
    omega
  have pin {q : Fin 24} (e : pinTarget p = pinTarget q) : p = q := pinTarget_injective e
  cases a with
  | openPin q =>
    exact .inl (congrArg _ (pin (List.mem_singleton.mp h)).symm)
  | shortGnd q =>
    exact .inr (congrArg _ (pin (List.mem_singleton.mp h)).symm)
  | shortSupply | bridge => cases instant
  | freeze n | force n | offset n => exact absurd (List.mem_singleton.mp h) (apart (24 + n.val) (by omega) _ rfl)
  | toothDrop | crankShift => exact absurd (List.mem_singleton.mp h) (apart 40 (by omega) _ rfl)
  | camHold c | camShift c => exact absurd (List.mem_singleton.mp h) (apart (41 + c.val) (by omega) _ rfl)
  | battDrop => exact absurd (List.mem_singleton.mp h) (apart 43 (by omega) _ rfl)
  | ignDrop => exact absurd (List.mem_singleton.mp h) (apart 44 (by omega) _ rfl)
  | holdRun | endRun => cases h

/-- The pin of a switch action. -/
theorem Elsewhere.setPath {p : Fin 24} {x : Path} (h : ∀ j ≠ k, s.holder (pinTarget p) ≠ some j) :
    Elsewhere k s (s.setPath p x) := by
  refine ⟨fun _ _ => rfl, fun _ _ => rfl, fun _ _ _ => Iff.rfl, fun _ _ hw _ => hw, .refl _, fun q j hj hq => ?_⟩
  rw [State.path_setPath_other]
  rintro rfl
  exact h j hj hq

/-- A held pin returns to NORMAL. -/
theorem Held.setPath_normal {p : Fin 24} (h : Held hot s) (held : s.holder (pinTarget p) = some k) (cold : k ∉ hot) :
    Held hot (s.setPath p .normal) := by
  refine h.elsewhere (.setPath fun j hj => by rw [held]; simpa using Ne.symm hj) cold ?_ fun q hq _ => ?_
  · obtain ⟨holder, record, wait, entry, single, normal⟩ := h.own k
    refine ⟨holder, record, wait, entry, single, fun q hq st => ?_⟩
    by_cases e : q = p
    · rw [e, State.path_setPath_same]
    · rw [State.path_setPath_other _ _ _ _ e]
      exact normal q hq st
  · by_cases e : q = p
    · rw [e, State.path_setPath_same] at hq
      exact absurd rfl hq
    · rw [State.path_setPath_other _ _ _ _ e] at hq
      exact h.path q hq

/-- The owner of an action takes it away while the slot still holds its targets. -/
theorem Held.takeAway {a : Action} (h : Held hot s) (held : ∀ g ∈ a.targets, s.holder g = some k) (cold : k ∉ hot) :
    Held hot (takeAway a s) := by
  cases a with
  | openPin p | shortGnd p => exact h.setPath_normal (held _ List.mem_cons_self) cold
  | battDrop | ignDrop => exact h.of_harness (harness_settleFeeds _)
  | _ => exact h.of_harness rfl

theorem takeAway_path_of_instant {a : Action} {p : Fin 24} (instant : a.relay = none) (h : pinTarget p ∈ a.targets) :
    (takeAway a s).path p = .normal := by
  rcases Action.switch_of_pin instant h with rfl | rfl <;> exact State.path_setPath_same s p .normal

/-- A slot in RELEASING that has handed over no transition hands its release to its owner. -/
theorem Held.handRelease (h : Held hot s) (cold : k ∉ hot) (releasing : (s.slot k).state = .releasing)
    (entry : ∀ e ∈ transitions s, e.slot ≠ k) : Held hot (handRelease k s) := by
  obtain ⟨r, hr⟩ := h.record (k := k) (by rw [releasing]; decide)
  have targets (g : Fin 45) : s.holder g = some k ↔ g ∈ r.action.targets := by
    rw [(h.own k).holder, recordTargets_of_record hr, holding_of_state releasing]
    simp
  unfold Machine.handRelease
  rw [hr]
  dsimp only
  split
  · next path hpath => exact h.handRelay ⟨releasing, by rw [hr]; exact hpath⟩ entry cold
  · next instant =>
    have gone := h.takeAway (k := k) (fun g hg => (targets g).mpr hg) cold
    obtain ⟨faults, -, waits, waitList, drive, -⟩ := takeAway_rest r.action s
    have holder (g : Fin 45) : (Machine.takeAway r.action s).holder g = s.holder g := by unfold State.holder; rw [faults]
    refine gone.releaseDone cold (fun p hp => ?_) (fun p w hw => ?_) (fun e he => ?_) ?_
    · rw [holder, targets] at hp
      exact takeAway_path_of_instant instant hp
    · rw [State.wait, waits] at hw
      exact (h.own k).no_wait (by rw [releasing]; decide) p w hw
    · rw [transitions, drive, waitList] at he
      exact entry e he
    · rw [takeAway_slot, hr]; rfl

/-! ### Cancel and run end of one slot -/

theorem Held.relabel {x : Slot} (h : Held hot s) (state : x.state = (s.slot k).state) (record : x.record = (s.slot k).record) :
    Held hot (s.setSlot k x) := h.same (.setSlot state record)

/-- A holding slot moves to another holding state, in which no path need stand at NORMAL, and hands over nothing. -/
theorem Held.move {x : Slot} (h : Held hot s) (cold : k ∉ hot) (held : holding (s.slot k)) (held' : holding x)
    (record : x.record = (s.slot k).record) (wait : ∀ p, ∀ w ∈ s.wait p, w.slot ≠ k)
    (entry : ∀ e ∈ transitions s, e.slot ≠ k) (normal : x.state ≠ .aligning ∧ x.state ≠ .pending) :
    Held hot (s.setSlot k x) := by
  have others : Elsewhere k s (s.setSlot k x) := .of_slot (fun j hj => State.slot_setSlot_other s k x j hj) rfl rfl
  refine h.elsewhere others cold ?_ fun p hp _ => h.path p hp
  obtain ⟨holder, isSome, -, -, single, -⟩ := h.own k
  refine ⟨fun g => ?_, fun _ => ?_, fun p w hw e => absurd e (wait p w hw), fun e he hk => absurd hk (entry e he), single,
    fun p _ st => ?_⟩ <;> rw [State.slot_setSlot_same] at *
  · rw [recordTargets_congr record]
    refine (holder g).trans ?_
    simp [held, held']
  · rw [record]
    refine isSome fun e => ?_
    rw [holding_of_state e] at held
    revert held; decide
  · rcases st with e | e
    · exact absurd e normal.1
    · exact absurd e normal.2

theorem toLoaded_slot_same (k : Fin 32) (s : State) : (toLoaded k s).slot k =
    { s.slot k with state := .loaded, record := (s.slot k).staged.or (s.slot k).record, staged := none } := by
  simp [toLoaded]

theorem isSome_staged_or {x : Slot} (h : x.record.isSome) : (x.staged.or x.record).isSome := by
  cases hs : x.staged <;> simp [h]

theorem Held.toLoaded (h : Held hot s) (idle : ¬ holding (s.slot k)) (record : (s.slot k).record.isSome) :
    Held hot (toLoaded k s) :=
  h.idle_setSlot idle (by simp [holding]) fun _ => isSome_staged_or record

/-- A slot in ALIGNING or PENDING that has nothing in flight returns to LOADED. -/
theorem Held.unload {v : State} (h : Held hot s) (state : (s.slot k).state = .aligning ∨ (s.slot k).state = .pending)
    (slots : ∀ j, v.slot j = s.slot j) (holders : v.faults.holders = s.faults.holders) (paths : v.pins.paths = s.pins.paths)
    (wait : ∀ p, ∀ w ∈ v.wait p, w ∈ s.wait p ∧ w.slot ≠ k)
    (entry : transitions v = (transitions s).filter (fun e => e.slot ≠ k)) : Held hot (Machine.toLoaded k (clearHolders k v)) := by
  have releasing : (s.slot k).state ≠ .releasing := by rcases state with e | e <;> rw [e] <;> decide
  have occupied : (s.slot k).state ≠ .empty := by rcases state with e | e <;> rw [e] <;> decide
  have pins : (Machine.toLoaded k (clearHolders k v)).pins = v.pins := by
    rw [toLoaded_pins, clearHolders_pins]
  refine h.let_go (h.not_hot releasing) (fun p hp => (h.own k).normal p hp state) (fun j hj => ?_) (fun g => ?_)
    (by rw [pins, paths]) (fun p w hw => ?_) ?_ ?_ fun _ => ?_
  · rw [toLoaded_slot_other _ _ _ hj, clearHolders_slot, slots]
  · have toLoaded_holder (u : State) : (Machine.toLoaded k u).holder g = u.holder g := rfl
    have same : v.holder g = s.holder g := by unfold State.holder; rw [holders]
    rw [toLoaded_holder, clearHolders_holder, same]
  · rw [State.wait, pins] at hw
    exact wait p w hw
  · rw [transitions, pins]
    exact entry
  · rw [toLoaded_slot_same]; simp [holding]
  · rw [toLoaded_slot_same, clearHolders_slot, slots]
    exact isSome_staged_or ((h.own k).record occupied)

theorem closeWait_rest (k : Fin 32) (s : State) :
    ((closeWait k s).pins.paths, transitions (closeWait k s), (closeWait k s).faults)
      = (s.pins.paths, transitions s, s.faults) := by
  unfold closeWait
  exact forEach_view (fun s : State => (s.pins.paths, transitions s, s.faults)) _ _ (fun p _ s => by split <;> rfl) s

theorem Held.closeWait_unload (h : Held hot s) (state : (s.slot k).state = .aligning) :
    Held hot (Machine.toLoaded k (clearHolders k (closeWait k s))) := by
  have pins : (closeWait k s).pins.paths = s.pins.paths ∧ transitions (closeWait k s) = transitions s
      ∧ (closeWait k s).faults = s.faults := by
    have := closeWait_rest k s
    simp only [Prod.mk.injEq] at this
    exact this
  obtain ⟨paths, entries, faults⟩ := pins
  refine h.unload (.inl state) (closeWait_slot k s) (by rw [faults]) paths (fun p w hw => ?_) ?_
  · rw [closeWait_wait] at hw
    split at hw
    · cases hw
    · next no =>
      refine ⟨hw, fun e => no ?_⟩
      rw [Option.mem_def.mp hw]
      simpa using e
  · rw [entries]
    exact (filter_eq_self_of_no_entry fun e => (h.own k).no_entry (by rw [state]; decide) (by rw [state]; decide) e).symm

theorem Held.withdrawApply_unload (h : Held hot s) (state : (s.slot k).state = .pending) (waiting : s.inFlight k = false) :
    Held hot (Machine.toLoaded k (clearHolders k (withdrawApply k s))) := by
  refine h.unload (.inr state) (fun _ => rfl) rfl rfl (fun p w hw => ?_) ?_
  · exact ⟨hw, (h.own k).no_wait (by rw [state]; decide) p w hw⟩
  · have kinds (e : RelayEntry) (he : e ∈ s.pins.waitList) : (!(e.slot == k && e.kind == .apply)) = decide (e.slot ≠ k) := by
      by_cases hk : e.slot = k
      · have kind := ((h.own k).entry e (List.mem_append_right _ he) hk).1
        rw [hk, state] at kind
        cases hkind : e.kind
        · simp [hk]
        · rw [hkind] at kind; cases kind
      · simp [hk]
    unfold transitions
    rw [List.filter_append]
    refine congrArg₂ _ ?_ (List.filter_congr kinds)
    show (match s.pins.drive with | .busy e _ => [e] | .free | .recovering _ => []) = _
    unfold State.inFlight at waiting
    cases hd : s.pins.drive with
    | busy e u =>
      rw [hd] at waiting
      have : e.slot ≠ k := by simpa using waiting
      simp [this]
    | _ => rfl

theorem Held.returnSlot (h : Held hot s) (o : SlotOutcome) (k : Fin 32) : Held hot (returnSlot o k s) := by
  unfold Machine.returnSlot
  split
  · generalize hv : s.setSlot k { s.slot k with outcome := o } = v
    have h : Held hot v := by rw [← hv]; exact h.relabel rfl rfl
    dsimp only
    split
    case h_1 e | h_2 e =>
      exact h.toLoaded (by rw [holding_of_state e]; decide) ((h.own k).record (by rw [e]; decide))
    case h_3 e => exact h.closeWait_unload e
    case h_4 e =>
      split
      · exact h.relabel rfl rfl
      · next waiting => exact h.withdrawApply_unload e (by simpa using waiting)
    case h_5 e =>
      have cold := h.not_hot (k := k) (by rw [e]; decide)
      have entry := (h.own k).no_entry (by rw [e]; decide) (by rw [e]; decide)
      have moved : Held hot (v.setSlot k { v.slot k with state := .releasing, releaseEnd := .load }) :=
        h.move cold (by simp [holding, e]) (by simp [holding]) rfl ((h.own k).no_wait (by rw [e]; decide)) entry
          ⟨by simp, by simp⟩
      exact moved.handRelease cold (by rw [State.slot_setSlot_same]) entry
    case h_6 => exact h.relabel rfl rfl
    all_goals exact h
  · exact h

theorem Held.forEach {α : Type} {f : α → State → State} (h : Held hot s) (hf : ∀ x t, Held hot t → Held hot (f x t))
    (xs : List α) : Held hot (forEach xs f s) := forEach_keeps (Held hot) xs f (fun x _ t ht => hf x t ht) s h

theorem Held.cancelSlot (h : Held hot s) (k : Fin 32) : Held hot (cancelSlot k s) := by
  unfold Machine.cancelSlot
  split
  · exact held_regrant fun t same => (h.same same).returnSlot _ k
  · exact h.returnSlot _ k

theorem Held.returnSlots (h : Held hot s) : Held hot (returnSlots s) := by
  have all {t : State} (h : Held hot t) := h.forEach (f := Machine.returnSlot .runEnded) (fun k t h => h.returnSlot _ k) allSlots
  unfold Machine.returnSlots
  split
  · refine all ?_
    unfold returnGranted
    split
    · exact h.returnSlot _ _
    all_goals exact h
  · exact held_regrant fun t same => all (h.same same)

/-! ### The run's end -/

theorem Held.enterEnded (h : Held hot s) (r : EndReason) : Held hot (enterEnded r s) := by
  refine Held.returnSlots (h.of_harness ?_)
  exact forEach_view State.harness _ _ (fun n _ s => harness_sourceEnd n s) _

theorem Held.ite {c : Prop} [Decidable c] (h : Held hot s) (h' : Held hot t) : Held hot (if c then s else t) := by
  split
  · exact h
  · exact h'

theorem Held.runningCause (h : Held hot s) (r : EndReason) : Held hot (runningCause r s) := .ite (h.enterEnded r) h
theorem Held.drainedTest (h : Held hot s) : Held hot (drainedTest s) := .ite (h.enterEnded _) h
theorem Held.handStarved (h : Held hot s) : Held hot (handStarved s) :=
  Held.drainedTest (.ite (h.runningCause _) h)
theorem Held.profileEmptied (h : Held hot s) : Held hot (profileEmptied s) :=
  .ite (Held.drainedTest (h.of_harness rfl)) h
theorem Held.drainAtStart (h : Held hot s) : Held hot (drainAtStart s) :=
  .ite h.profileEmptied (.ite (h.of_harness rfl) h)

end Sys2Proof.Machine
end

section
/-! PROOFS. The holder table over the applies, the firings, the alignment waits and the completions of relay transitions, and so
over every step. -/

namespace Sys2Proof.Machine

open Sys2Proof.Safety

variable {s t u v : State} {k : Fin 32} {hot : Option (Fin 32)}

/-! ### Apply -/

/-- The slot stands where a trigger or a delay finds it. -/
def State.fires (s : State) (k : Fin 32) : Prop := (s.slot k).state = .armed ∨ (s.slot k).state = .waiting

theorem State.fires.idle (h : s.fires k) : ¬ holding (s.slot k) := by
  rcases h with e | e <;> rw [holding_of_state e] <;> decide

theorem State.fires.occupied (h : s.fires k) : (s.slot k).state ≠ .empty := by
  rcases h with e | e <;> rw [e] <;> decide

theorem takeHolders_pins (k : Fin 32) (ts : List (Fin 45)) (s : State) : (takeHolders k ts s).pins = s.pins := by
  have rest := takeHolders_rest k ts s
  simp only [Prod.mk.injEq] at rest
  exact rest.2.2.2.1

/-- A slot that holds nothing takes the free targets of its record and stands in a holding state. -/
theorem Held.seize {r : FaultRecord} (h : Held hot s) (idle : ¬ holding (s.slot k))
    (free : ∀ g ∈ r.action.targets, s.holder g = none)
    (slot : ∀ j ≠ k, t.slot j = s.slot j)
    (holder : ∀ g, t.holder g = if g ∈ r.action.targets then some k else s.holder g)
    (path : ∀ p, pinTarget p ∉ r.action.targets → t.path p = s.path p)
    (wait : ∀ p, ∀ w ∈ t.wait p, w ∈ s.wait p ∨ (w.slot = k ∧ WaitLaw t p w))
    (entry : transitions t = transitions s) (held : holding (t.slot k)) (kept : (t.slot k).record = some r)
    (normal : ∀ p, pinTarget p ∈ r.action.targets → (t.slot k).state = .aligning ∨ (t.slot k).state = .pending →
      t.path p = .normal) : Held hot t := by
  obtain ⟨aligning, pending, active, releasing⟩ := not_holding idle
  have own := h.own k
  have no_entry := own.no_entry pending releasing
  have mine (g : Fin 45) : t.holder g = some k ↔ g ∈ r.action.targets := by
    rw [holder]
    split
    · next hg => simp [hg]
    · next hg => simp [hg, own.no_holder idle g]
  have others : Elsewhere k s t := by
    refine ⟨fun j hj => by rw [slot j hj], fun j hj => by rw [slot j hj], fun j hj g => ?_, fun p w hw hk => ?_,
      by rw [entry], fun p j hj hp => path p fun hg => ?_⟩
    · rw [holder]
      split
      · next hg => rw [free g hg]; exact ⟨fun e => absurd (Option.some.inj e).symm hj, nofun⟩
      · exact Iff.rfl
    · exact (wait p w hw).elim id fun e => absurd e.1 hk
    · rw [free _ hg] at hp; cases hp
  refine h.elsewhere others (h.not_hot releasing) ?_ fun p hp _ => ?_
  · refine ⟨fun g => ?_, fun _ => by rw [kept]; rfl, fun p w hw e => ?_, fun e he hk => ?_, by rw [entry]; exact own.single,
      fun p hp => normal p ((mine _).mp hp)⟩
    · rw [mine, recordTargets_of_record kept]
      simp [held]
    · exact (wait p w hw).elim (fun old => absurd e (own.no_wait aligning p w old)) (·.2)
    · exact absurd hk (no_entry e (entry ▸ he))
  · by_cases hg : pinTarget p ∈ r.action.targets
    · rw [(mine _).mpr hg]; rfl
    · rw [holder, if_neg hg]
      exact h.path p (path p hg ▸ hp)

section Proceed

variable {r : FaultRecord}

/-- The slot is ACTIVE with its free targets taken; what its owner did touches no slot, no holder and no path but its pin's. -/
theorem Held.activate (h : Held hot s) (idle : ¬ holding (s.slot k)) (record : (s.slot k).record = some r)
    (free : ∀ g ∈ r.action.targets, s.holder g = none) (o : SlotOutcome)
    (faults : v.faults = (takeHolders k r.action.targets s).faults) (waits : v.pins.waits = s.pins.waits)
    (entry : transitions v = transitions s) (path : ∀ p, pinTarget p ∉ r.action.targets → v.path p = s.path p) :
    Held hot (enterActive k o v) := by
  have slots (j : Fin 32) : v.slot j = s.slot j := by
    rw [State.slot, faults]
    exact takeHolders_slot k r.action.targets s j
  refine h.seize (r := r) idle free (fun j hj => ?_) (fun g => ?_) path (fun p w hw => .inl ?_) entry ?_ ?_ fun p _ st => ?_
  · rw [enterActive_slot_other k o v j hj, slots]
  · show v.holder g = _
    rw [State.holder, faults]
    exact takeHolders_holder k r.action.targets s g
  · show w ∈ s.wait p
    rw [State.wait, ← waits]
    exact hw
  · simp [holding]
  · simp [slots, record]
  · simp at st

theorem Held.applySwitch {p : Fin 24} (h : Held hot s) (idle : ¬ holding (s.slot k)) (record : (s.slot k).record = some r)
    (free : ∀ g ∈ r.action.targets, s.holder g = none) (ground aligned : Bool) (pin : r.action.targets = [pinTarget p]) :
    Held hot (applySwitch k p ground aligned (takeHolders k r.action.targets s)) := by
  have pins := takeHolders_pins k r.action.targets s
  have other (q : Fin 24) (hq : pinTarget q ∉ r.action.targets) : q ≠ p := fun e => hq (by rw [pin, e]; exact List.mem_cons_self)
  unfold Machine.applySwitch
  split
  · have still : s.path p = .normal := by
      by_contra no
      have := h.path p no
      rw [free _ (by rw [pin]; exact List.mem_cons_self)] at this
      cases this
    refine h.seize (r := r) idle free (fun j hj => ?_) (fun g => takeHolders_holder k r.action.targets s g) (fun q _ => ?_)
      (fun q w hw => ?_) (show transitions (takeHolders k r.action.targets s) = _ by unfold transitions; rw [pins]) ?_ ?_ fun q hq _ => ?_
    · rw [State.slot_setSlot_other _ _ _ _ hj, State.setWait_slot, takeHolders_slot]
    · show (takeHolders k r.action.targets s).path q = _
      rw [State.path, pins]; rfl
    · rw [State.setSlot_wait] at hw
      by_cases e : q = p
      · subst e
        rw [State.wait_setWait_same, Option.mem_some_iff] at hw
        subst hw
        refine .inr ⟨rfl, ?_, ?_⟩ <;> dsimp only <;> rw [State.slot_setSlot_same]
        rw [recordTargets_of_record (r := r) (by simpa using record), pin]
      · rw [State.wait_setWait_other _ _ _ _ e, State.wait, pins] at hw
        exact .inl hw
    · simp [holding]
    · simp [record]
    · rw [pin, List.mem_singleton] at hq
      obtain rfl := pinTarget_injective hq
      show (takeHolders k r.action.targets s).path q = _
      rw [State.path, pins]
      exact still
  · refine h.activate idle record free _ rfl (by rw [← pins]; rfl) (by unfold transitions; rw [← pins]; rfl) fun q hq => ?_
    rw [State.path_setPath_other _ _ _ _ (other q hq), State.path, pins]; rfl

theorem Held.applyRelay {path : RelayPath} (h : Held hot s) (idle : ¬ holding (s.slot k)) (record : (s.slot k).record = some r)
    (free : ∀ g ∈ r.action.targets, s.holder g = none) (relay : r.action.relay = some path) :
    Held hot (applyRelay k path (takeHolders k r.action.targets s)) := by
  obtain ⟨-, pending, -, releasing⟩ := not_holding idle
  have pins := takeHolders_pins k r.action.targets s
  have entries : transitions (takeHolders k r.action.targets s) = transitions s := by unfold transitions; rw [pins]
  unfold Machine.applyRelay
  generalize hv : (takeHolders k r.action.targets s).setSlot k _ = v
  have slot : v.slot k = { s.slot k with state := .pending } := by rw [← hv]; simp
  have taken : Held hot v := by
    refine h.seize (r := r) idle free (fun j hj => ?_) (fun g => ?_) (fun q _ => ?_) (fun q w hw => .inl ?_) ?_ ?_ ?_
      fun q hq _ => ?_
    · rw [← hv]; simp [hj]
    · rw [← hv]; exact takeHolders_holder k r.action.targets s g
    · rw [← hv, State.setSlot_path, State.path, pins]; rfl
    · rw [← hv, State.setSlot_wait, State.wait, pins] at hw; exact hw
    · rw [← hv]; exact entries
    · rw [slot]; simp [holding]
    · rw [slot]; exact record
    · rw [← hv, State.setSlot_path, State.path, pins]
      by_contra no
      have := h.path q no
      rw [free _ hq] at this
      cases this
  refine taken.handRelay ⟨?_, ?_⟩ (fun x hx => ?_) (h.not_hot releasing)
  · simp [slot]
  · rw [slot]
    dsimp only
    rw [record]
    exact relay
  · rw [← hv] at hx
    exact (h.own k).no_entry pending releasing x (entries ▸ hx)

theorem Held.runAction (h : Held hot s) (idle : ¬ holding (s.slot k)) (record : (s.slot k).record.isSome) :
    Held hot (runAction k s) := by
  have written : Held hot (s.setSlot k { s.slot k with outcome := (s.slot k).applied }) := h.relabel rfl rfl
  exact written.countRepetition (by rw [State.slot_setSlot_same]; exact idle) (by rw [State.slot_setSlot_same]; exact record)

theorem Held.proceed (h : Held hot s) (idle : ¬ holding (s.slot k)) (record : (s.slot k).record = some r)
    (free : ∀ g ∈ r.action.targets, s.holder g = none) : Held hot (proceed k r (takeHolders k r.action.targets s)) := by
  have pins := takeHolders_pins k r.action.targets s
  have act {v : State} (faults : v.faults = (takeHolders k r.action.targets s).faults)
      (same : v.pins = (takeHolders k r.action.targets s).pins) (o : SlotOutcome) : Held hot (enterActive k o v) :=
    h.activate idle record free o faults (by rw [same, pins]) (by unfold transitions; rw [same, pins])
      fun p _ => by rw [State.path, same, pins]; rfl
  unfold Machine.proceed
  dsimp only
  split
  case h_1 e | h_2 e => exact h.applySwitch idle record free _ _ (by rw [e]; rfl)
  case h_3 e | h_4 e => exact h.applyRelay idle record free (by rw [e]; rfl)
  case h_12 | h_13 =>
    refine act ?_ ?_ _
    · exact settleFeeds_faults _
    · exact settleFeeds_pins _
  case h_14 e =>
    rw [e]
    exact (h.runAction idle (by rw [record]; rfl)).of_harness (harness_takeHold _)
  case h_15 e =>
    rw [e]
    have counted := h.runAction idle (by rw [record]; rfl)
    exact .ite (counted.enterEnded _) counted
  all_goals refine act ?_ ?_ _ <;> rfl

end Proceed

theorem Held.conflict (h : Held hot s) (idle : ¬ holding (s.slot k)) (record : (s.slot k).record.isSome) :
    Held hot (conflict k s) := by
  have written : Held hot (raiseFault k (s.setSlot k { s.slot k with outcome := .conflict })) :=
    Held.of_harness (h.relabel (k := k) (x := { s.slot k with outcome := .conflict }) rfl rfl) rfl
  have slot : (raiseFault k (s.setSlot k { s.slot k with outcome := .conflict })).slot k
      = { s.slot k with outcome := .conflict } := State.slot_setSlot_same s k _
  exact written.countRepetition (by rw [slot]; exact idle) (by rw [slot]; exact record)

theorem Held.applySlot (h : Held hot s) (fires : s.fires k) : Held hot (applySlot k s) := by
  obtain ⟨r, hr⟩ := h.record fires.occupied
  unfold Machine.applySlot
  rw [hr]
  dsimp only
  split
  · exact h.conflict fires.idle (by rw [hr]; rfl)
  · next no =>
    refine h.proceed fires.idle hr fun g hg => ?_
    simp only [List.any_eq_true, not_exists, not_and] at no
    simpa using no g hg

/-! ### Firing -/

theorem takeStaged_slot_state (k : Fin 32) (s : State) (j : Fin 32) : ((takeStaged k s).slot j).state = (s.slot j).state := by
  unfold takeStaged
  dsimp only
  split <;> rw [State.slot_setSlot] <;> split
  all_goals first | rfl | (next e => rw [e])

theorem Held.takeStaged (h : Held hot s) (fires : s.fires k) : Held hot (takeStaged k s) := by
  unfold Machine.takeStaged
  dsimp only
  split
  · exact h.idle_setSlot fires.idle fires.idle fun _ => rfl
  · exact h.idle_setSlot fires.idle fires.idle fun _ => (h.own k).record fires.occupied

theorem Held.fire (h : Held hot s) (armed : (s.slot k).state = .armed) : Held hot (fire k s) := by
  have taken := h.takeStaged (.inl armed)
  have fires : (Machine.takeStaged k s).fires k := .inl ((takeStaged_slot_state k s k).trans armed)
  unfold Machine.fire
  dsimp only
  split
  · exact taken
  · refine .ite (taken.applySlot fires) (taken.idle_setSlot fires.idle (by simp [holding]) fun _ => ?_)
    exact (taken.own k).record fires.occupied

theorem State.looks.armed (h : s.looks k = true) : (s.slot k).state = .armed := by
  simp only [State.looks, Bool.and_eq_true, beq_iff_eq] at h
  exact h.1

theorem markLate_slot_state (k : Fin 32) (s : State) : ((markLate k s).slot k).state = (s.slot k).state := by
  unfold markLate
  split
  · simp [setLate]
  all_goals rfl

theorem Held.runTrigger (h : Held hot s) (k : Fin 32) : Held hot (runTrigger k s) := by
  have late : Held hot (markLate k s) := by
    unfold markLate
    split
    · exact h.relabel rfl rfl
    all_goals exact h
  unfold Machine.runTrigger
  split
  · next due =>
    simp only [State.triggered, Bool.and_eq_true] at due
    exact late.fire ((markLate_slot_state k s).trans (State.looks.armed due.1))
  · exact h

theorem Held.offerEdge (h : Held hot s) (i : Fin 10) (d : Edge) (k : Fin 32) : Held hot (offerEdge i d k s) := by
  unfold Machine.offerEdge
  split
  · next looks =>
    have armed := State.looks.armed looks
    split
    · dsimp only
      split
      · next n _ _ =>
        have counted := h.relabel (k := k) (x := { s.slot k with occurrences := min ((s.slot k).occurrences + 1) 255 }) rfl rfl
        exact .ite (counted.fire (by simpa using armed)) counted
      · exact h
    · exact .ite (h.fire armed) h
    all_goals exact h
  · exact h

theorem Held.followSlot (h : Held hot s) (j k : Fin 32) : Held hot (followSlot j k s) := by
  unfold Machine.followSlot
  split
  · next due =>
    simp only [Bool.and_eq_true] at due
    exact h.fire (State.looks.armed due.1)
  · exact h

/-! ### Edge-aligned paths -/

theorem Held.setAligned (h : Held hot s) (p : Fin 24) (timeout : Bool) : Held hot (setAligned p timeout s) := by
  unfold Machine.setAligned
  split
  · exact h
  · next w hw =>
    obtain ⟨state, targets⟩ := (h.own w.slot).wait p w hw rfl
    have holder := (h.own w.slot).holder
    have held : s.holder (pinTarget p) = some w.slot := (holder _).mpr ⟨.inl state, by rw [targets]; exact List.mem_cons_self⟩
    have alone (q : Fin 24) (x : AlignWait) (hx : x ∈ s.wait q) (e : x.slot = w.slot) : q = p := by
      have : recordTargets (s.slot w.slot) = [pinTarget q] := e ▸ ((h.own x.slot).wait q x hx rfl).2
      exact pinTarget_injective (List.singleton_inj.mp (this.symm.trans targets))
    have no_entry := (h.own w.slot).no_entry (by rw [state]; decide) (by rw [state]; decide)
    dsimp only
    generalize hv : (s.setPath p (switchPath w.ground)).setWait p none = v
    generalize (if timeout then SlotOutcome.alignTimeout else (v.slot w.slot).applied) = o
    have slots (j : Fin 32) : v.slot j = s.slot j := by rw [← hv]; rfl
    have holders (g : Fin 45) : v.holder g = s.holder g := by rw [← hv]; rfl
    have entries : transitions v = transitions s := by rw [← hv]; rfl
    have others : Elsewhere w.slot s (enterActive w.slot o v) := by
      refine ⟨fun j hj => by simp [hj, slots], fun j hj => by simp [hj, slots], fun j _ g => by rw [← holders]; rfl,
        fun q x hx _ => ?_, by rw [← entries]; exact .refl _, fun q j hj hq => ?_⟩
      · have hx : x ∈ v.wait q := hx
        rw [← hv] at hx
        by_cases e : q = p
        · rw [e, State.wait_setWait_same] at hx; cases hx
        · rw [State.wait_setWait_other _ _ _ _ e] at hx; exact hx
      · show v.path q = s.path q
        rw [← hv, State.setWait_path, State.path_setPath_other]
        rintro rfl
        exact hj (Option.some.inj (hq.symm.trans held))
    refine h.elsewhere others (h.not_hot (by rw [state]; decide)) ?_ fun q hq from' => ?_
    · refine ⟨fun g => ?_, fun _ => ?_, fun q x hx e => ?_, fun e he hk => ?_, ?_, fun q _ st => ?_⟩
      · show v.holder g = _ ↔ _
        rw [holders, holder g, enterActive_slot_same, slots]
        simp [holding, state, recordTargets]
      · rw [enterActive_slot_same, slots]
        exact (h.own w.slot).record (by rw [state]; decide)
      · have hx : x ∈ v.wait q := hx
        rw [← hv] at hx
        by_cases eq : q = p
        · rw [eq, State.wait_setWait_same] at hx; cases hx
        · rw [State.wait_setWait_other _ _ _ _ eq] at hx
          exact absurd (alone q x hx e) eq
      · have he : e ∈ transitions v := he
        exact absurd hk (no_entry e (entries ▸ he))
      · show (transitions v).countP _ ≤ 1
        rw [entries]
        exact (h.own w.slot).single
      · simp at st
    · show (v.holder (pinTarget q)).isSome
      rw [holders]
      by_cases e : q = p
      · rw [e, held]; rfl
      · refine h.path q ?_
        have hq : v.path q ≠ .normal := hq
        rwa [← hv, State.setWait_path, State.path_setPath_other _ _ _ _ e] at hq

theorem Held.levelChange (h : Held hot s) (src : LineSource) : Held hot (levelChange src s) :=
  h.forEach (f := offerChange src) (fun p _ h => .ite (h.setAligned p false) h) allPins

theorem Held.halfEnd (h : Held hot s) (n : Fin 16) : Held hot (halfEnd n s) := by
  have turned : Held hot (s.setChan n ((s.chan n).turned s.uptime)) := h.of_harness rfl
  exact .ite (.ite turned (turned.levelChange _)) h

theorem Held.alignExpire (h : Held hot s) (p : Fin 24) : Held hot (alignExpire p s) := .ite (h.setAligned p true) h

/-! ### Delays and widths -/

theorem Held.delayEnd (h : Held hot s) (k : Fin 32) : Held hot (delayEnd k s) := by
  unfold Machine.delayEnd
  split
  · next due =>
    simp only [State.delayDue, Bool.and_eq_true, beq_iff_eq] at due
    exact h.applySlot (.inr due.1)
  · exact h

theorem nodup_eraseDups {α : Type} [BEq α] [LawfulBEq α] : ∀ l : List α, l.eraseDups.Nodup
  | [] => .nil
  | a :: l => by
    rw [List.eraseDups_cons]
    exact List.nodup_cons.mpr ⟨by simp [List.mem_eraseDups], nodup_eraseDups _⟩
termination_by l => l.length
decreasing_by exact Nat.lt_succ_of_le (List.length_filter_le _ _)

theorem nodup_orderItems {given own : List WorkItem} (h : own.Nodup) : (orderItems given own).Nodup := by
  unfold orderItems
  refine List.nodup_append.mpr ⟨(nodup_eraseDups given).filter _, h.filter _, ?_⟩
  rintro a ha b hb rfl
  have given := List.mem_eraseDups.mp (List.mem_filter.mp ha).1
  have fresh := (List.mem_filter.mp hb).2
  simp [given] at fresh

/-- The followers of a width whose own release has been taken, or is none of theirs. -/
theorem Held.widthItem {j : Fin 32} (h : Held hot s) {w : WorkItem} (hw : w ≠ .release) : Held hot (widthItem j w s) := by
  unfold Machine.widthItem
  split
  · exact absurd rfl hw
  · exact h.followSlot j _
  all_goals exact h

/-- The items of a width's elapse in any order: the release, once, and the followers. -/
theorem Held.widthItems {l : List WorkItem} (nodup : l.Nodup) (h : Held (some k) s) :
    Held none (Machine.forEach l (Machine.widthItem k) s) := by
  induction l generalizing s with
  | nil => exact h.cool
  | cons w l ih =>
    obtain ⟨fresh, nodup⟩ := List.nodup_cons.mp nodup
    rw [forEach_cons]
    by_cases hw : w = .release
    · subst hw
      obtain ⟨releasing, entry⟩ := h.fresh k rfl
      have released : Held none (Machine.widthItem k .release s) := by
        show Held none (if (s.slot k).state = .releasing then Machine.handRelease k s else s)
        rw [if_pos releasing]
        exact h.cool.handRelease nofun releasing entry
      exact forEach_keeps (Held none) l _ (fun x hx t ht => ht.widthItem fun e => fresh (e ▸ hx)) _ released
    · exact ih nodup (h.widthItem hw)

theorem nodup_widthItems : Machine.widthItems.Nodup := by decide

theorem Held.widthEnd (h : Held none s) (k : Fin 32) (order : List WorkItem) : Held none (widthEnd k order s) := by
  unfold Machine.widthEnd
  split
  · next due =>
    simp only [State.widthDue, Bool.and_eq_true, beq_iff_eq] at due
    have active := due.1
    have entry := (h.own k).no_entry (by rw [active]; decide) (by rw [active]; decide)
    have moved : Held none (s.setSlot k { s.slot k with state := .releasing, releaseEnd := .rep }) :=
      h.move nofun (by simp [holding, active]) (by simp [holding]) rfl ((h.own k).no_wait (by rw [active]; decide)) entry
        ⟨by simp, by simp⟩
    refine Held.widthItems (nodup_orderItems nodup_widthItems) ⟨moved.own, moved.path, fun j hj => ?_⟩
    cases hj
    exact ⟨by rw [State.slot_setSlot_same], entry⟩
  · exact h

/-! ### The completions of relay transitions -/

theorem settledEntry_busy {kind : RelayKind} {e : RelayEntry} (h : s.settledEntry kind = some e) :
    e.kind = kind ∧ ∃ since, s.pins.drive = .busy e since := by
  unfold State.settledEntry at h
  split at h
  · next e' since busy =>
    split at h
    · next ok => cases h; exact ⟨ok.1, since, busy⟩
    · cases h
  all_goals cases h

/-- The targets of a relay action are the pins of its path. -/
theorem Action.targets_of_relay {a : Action} {path : RelayPath} (h : a.relay = some path) :
    a.targets = match path with
      | .supply p => [pinTarget p]
      | .bridge p q => [pinTarget p, pinTarget q] := by
  cases a <;> cases h <;> rfl

/-- The drive is FREE again and the entry that was in flight is gone. -/
theorem Held.driveSettled {e : RelayEntry} {since : Nat} (h : Held hot s) (busy : s.pins.drive = .busy e since)
    (cold : e.slot ∉ hot) : Held hot (driveSettled s) ∧ ∀ x ∈ transitions (driveSettled s), x.slot ≠ e.slot := by
  have before : transitions s = e :: s.pins.waitList := by simp [transitions, busy]
  have after : transitions (Machine.driveSettled s) = s.pins.waitList := rfl
  have alone : ∀ x ∈ s.pins.waitList, x.slot ≠ e.slot := by
    have single := (h.own e.slot).single
    rw [before, List.countP_cons_of_pos (by simp)] at single
    have none := List.countP_eq_zero.mp (Nat.le_zero.mp (Nat.le_of_succ_le_succ single))
    exact fun x hx => by simpa using none x hx
  refine ⟨h.elsewhere (k := e.slot) ⟨fun _ _ => rfl, fun _ _ => rfl, fun _ _ _ => Iff.rfl, fun _ _ hw _ => hw, ?_,
    fun _ _ _ _ => rfl⟩ cold ?_ fun p hp _ => h.path p hp, alone⟩
  · rw [before, after, List.filter_cons_of_neg (by simp)]
  · obtain ⟨holder, record, wait, entry, -, normal⟩ := h.own e.slot
    refine ⟨holder, record, wait, fun x hx hk => absurd hk (alone x hx), ?_, normal⟩
    rw [after, List.countP_eq_zero.mpr fun x hx => by simpa using alone x hx]
    exact Nat.zero_le 1

/-- What setting or clearing a relay path touches: the paths of the pins of the transition. -/
theorem relayPath_rest {path : RelayPath} {a : Action} (relay : a.relay = some path)
    (h : t = setRelayPath path s ∨ t = clearRelayPath path s) :
    t.faults = s.faults ∧ t.pins.waits = s.pins.waits ∧ transitions t = transitions s
      ∧ ∀ p, pinTarget p ∉ a.targets → t.path p = s.path p := by
  have targets := Action.targets_of_relay relay
  cases path with
  | supply q =>
    refine ⟨by rcases h with rfl | rfl <;> rfl, by rcases h with rfl | rfl <;> rfl, by rcases h with rfl | rfl <;> rfl,
      fun p hp => ?_⟩
    rw [targets, List.mem_singleton] at hp
    have hp : p ≠ q := fun e => hp (e ▸ rfl)
    rcases h with rfl | rfl <;> exact State.path_setPath_other _ _ _ _ hp
  | bridge q q' =>
    refine ⟨by rcases h with rfl | rfl <;> rfl, by rcases h with rfl | rfl <;> rfl, by rcases h with rfl | rfl <;> rfl,
      fun p hp => ?_⟩
    rw [targets] at hp
    simp only [List.mem_cons, List.not_mem_nil, or_false, not_or] at hp
    have hq : p ≠ q := fun e => hp.1 (e ▸ rfl)
    have hq' : p ≠ q' := fun e => hp.2 (e ▸ rfl)
    rcases h with rfl | rfl <;>
      exact (State.path_setPath_other _ _ _ _ hq').trans (State.path_setPath_other _ _ _ _ hq)

theorem clearRelayPath_normal {path : RelayPath} {a : Action} {p : Fin 24} (relay : a.relay = some path)
    (h : pinTarget p ∈ a.targets) : (clearRelayPath path s).path p = .normal := by
  rw [Action.targets_of_relay relay] at h
  cases path with
  | supply q =>
    obtain rfl := pinTarget_injective (List.mem_singleton.mp h)
    exact State.path_setPath_same _ _ _
  | bridge q q' =>
    show ((s.setPath q .normal).setPath q' .normal).path p = .normal
    rw [State.path_setPath]
    split
    · rfl
    · next no =>
      simp only [List.mem_cons, List.not_mem_nil, or_false] at h
      rcases h with e | e
      · obtain rfl := pinTarget_injective e
        exact State.path_setPath_same _ _ _
      · exact absurd (pinTarget_injective e) no

/-- A slot that holds relay pins and has no transition leaves PENDING while its paths are set. -/
theorem Held.relay_move {path : RelayPath} {r : FaultRecord} {x : Slot} (h : Held hot s) (cold : k ∉ hot)
    (held : holding (s.slot k)) (record : (s.slot k).record = some r) (relay : r.action.relay = some path)
    (wait : ∀ p, ∀ w ∈ s.wait p, w.slot ≠ k) (entry : ∀ e ∈ transitions s, e.slot ≠ k)
    (h' : t = setRelayPath path s ∨ t = clearRelayPath path s) (held' : holding x) (record' : x.record = some r)
    (normal : x.state ≠ .aligning ∧ x.state ≠ .pending) : Held hot (t.setSlot k x) := by
  obtain ⟨faults, waits, entries, outside⟩ := relayPath_rest relay h'
  have slots (j : Fin 32) : t.slot j = s.slot j := by rw [State.slot, faults]; rfl
  have holders (g : Fin 45) : t.holder g = s.holder g := by rw [State.holder, faults]; rfl
  have wait' (p : Fin 24) : t.wait p = s.wait p := by rw [State.wait, waits]; rfl
  have mine (g : Fin 45) : s.holder g = some k ↔ g ∈ r.action.targets := by
    rw [(h.own k).holder, recordTargets_of_record record]
    simp [held]
  have others : Elsewhere k s (t.setSlot k x) := by
    refine ⟨fun j hj => ?_, fun j hj => ?_, fun j _ g => by rw [State.setSlot_holder, holders],
      fun p w hw _ => wait' p ▸ hw, by rw [← entries]; exact .refl _, fun p j hj hp => outside p fun hg => hj ?_⟩
    · rw [State.slot_setSlot_other _ _ _ _ hj, slots]
    · rw [State.slot_setSlot_other _ _ _ _ hj, slots]
    · exact Option.some.inj (hp.symm.trans ((mine _).mpr hg))
  refine h.elsewhere others cold ?_ fun p hp from' => ?_
  · refine ⟨fun g => ?_, fun _ => ?_, fun p w hw e => ?_, fun e he hk => ?_, ?_, fun p _ st => ?_⟩
    · rw [State.setSlot_holder, holders, mine, State.slot_setSlot_same, recordTargets_of_record record']
      simp [held']
    · rw [State.slot_setSlot_same, record']; rfl
    · rw [State.setSlot_wait, wait'] at hw
      exact absurd e (wait p w hw)
    · have he : e ∈ transitions t := he
      exact absurd hk (entry e (entries ▸ he))
    · show (transitions t).countP _ ≤ 1
      rw [entries]
      exact (h.own k).single
    · rw [State.slot_setSlot_same] at st
      exact st.elim (fun e => absurd e normal.1) fun e => absurd e normal.2
  · rw [State.setSlot_holder, holders]
    rcases from' with free | own
    · refine h.path p ?_
      rw [← outside p fun hg => by rw [(mine _).mpr hg] at free; cases free]
      exact hp
    · rw [own]; rfl

theorem Held.relayApplyComplete (h : Held none s) : Held none (relayApplyComplete s) := by
  unfold Machine.relayApplyComplete
  split
  · next e he =>
    obtain ⟨kind, since, busy⟩ := settledEntry_busy he
    have law := (h.own e.slot).entry e (by rw [transitions, busy]; exact List.mem_cons_self) rfl
    obtain ⟨settled, alone⟩ := h.driveSettled busy nofun
    have pending : (s.slot e.slot).state = .pending := by simpa [kind] using law.1
    obtain ⟨r, hr⟩ := h.record (k := e.slot) (by rw [pending]; decide)
    have relay : r.action.relay = some e.path := by simpa [hr] using law.2
    have wait := (settled.own e.slot).no_wait (by show (s.slot e.slot).state ≠ _; rw [pending]; decide)
    have faults := (relayPath_rest (s := Machine.driveSettled s) relay (.inl rfl)).1
    have entries := (relayPath_rest (s := Machine.driveSettled s) relay (.inl rfl)).2.2.1
    have slot : (setRelayPath e.path (Machine.driveSettled s)).slot e.slot = s.slot e.slot := by
      rw [State.slot, faults]; rfl
    refine Held.of_harness ?_ (harness_relayCompleted _)
    unfold applyCompleted
    split
    · refine settled.relay_move (x := _) nofun (by simp [holding, show ((Machine.driveSettled s).slot e.slot).state = _ from pending])
        hr relay wait alone (.inl rfl) ?_ ?_ ?_
      · simp [holding]
      · rw [slot]; exact hr
      · simp
    · have moved : Held none ((setRelayPath e.path (Machine.driveSettled s)).setSlot e.slot
          { (setRelayPath e.path (Machine.driveSettled s)).slot e.slot with state := .releasing }) := by
        refine settled.relay_move (x := _) nofun
          (by simp [holding, show ((Machine.driveSettled s).slot e.slot).state = _ from pending]) hr relay wait alone (.inl rfl) ?_ ?_ ?_
        · simp [holding]
        · rw [slot]; exact hr
        · simp
      refine moved.handRelay ⟨?_, ?_⟩ (fun x hx => alone x (entries ▸ hx)) nofun
      · rw [State.slot_setSlot_same]
      · rw [State.slot_setSlot_same, slot]
        dsimp only
        rw [hr]
        exact relay
  · exact h

theorem Held.relayReleaseComplete (h : Held none s) : Held none (relayReleaseComplete s) := by
  unfold Machine.relayReleaseComplete
  split
  · next e he =>
    obtain ⟨kind, since, busy⟩ := settledEntry_busy he
    have law := (h.own e.slot).entry e (by rw [transitions, busy]; exact List.mem_cons_self) rfl
    obtain ⟨settled, alone⟩ := h.driveSettled busy nofun
    have releasing : (s.slot e.slot).state = .releasing := by simpa [kind] using law.1
    obtain ⟨r, hr⟩ := h.record (k := e.slot) (by rw [releasing]; decide)
    have relay : r.action.relay = some e.path := by simpa [hr] using law.2
    have wait := (settled.own e.slot).no_wait (by show (s.slot e.slot).state ≠ _; rw [releasing]; decide)
    obtain ⟨faults, waits, entries, -⟩ := relayPath_rest (s := Machine.driveSettled s) relay (.inr rfl)
    have slot : (clearRelayPath e.path (Machine.driveSettled s)).slot e.slot = s.slot e.slot := by
      rw [State.slot, faults]; rfl
    have cleared : Held none (clearRelayPath e.path (Machine.driveSettled s)) := by
      have moved := settled.relay_move (k := e.slot) (x := s.slot e.slot) nofun
        (by simp [holding, show ((Machine.driveSettled s).slot e.slot).state = _ from releasing]) hr relay wait alone (.inr rfl)
        (by simp [holding, releasing]) hr (by rw [releasing]; decide)
      refine moved.same ?_
      have back := SameHold.setSlot (s := clearRelayPath e.path (Machine.driveSettled s)) (k := e.slot) (x := s.slot e.slot)
        (by rw [slot]) (by rw [slot])
      exact ⟨fun j => (back.state j).symm, fun j => (back.record j).symm, fun g => (back.holder g).symm,
        fun p => (back.wait p).symm, back.entry.symm, fun p => (back.path p).symm⟩
    refine Held.of_harness (cleared.releaseDone nofun (fun p hp => ?_) (fun p w hw => ?_) (fun x hx => ?_) ?_)
      (harness_relayCompleted _)
    · have hp : s.holder (pinTarget p) = some e.slot := by
        rw [State.holder, faults] at hp; exact hp
      refine clearRelayPath_normal relay ?_
      have := ((h.own e.slot).holder _).mp hp
      rw [recordTargets_of_record hr] at this
      exact this.2
    · rw [State.wait, waits] at hw
      exact wait p w hw
    · exact alone x (entries ▸ hx)
    · rw [slot, hr]; rfl
  · exact h

theorem Held.relayRecoveryEnd (h : Held hot s) : Held hot (relayRecoveryEnd s) := by
  unfold Machine.relayRecoveryEnd
  split
  · next due =>
    refine h.same (.of_drive rfl rfl rfl ?_)
    unfold State.recoveryDue at due
    split at due
    · next recovering => simp [transitions, recovering, State.setDrive]
    all_goals cases due
  · exact h

theorem Held.relayGrant (h : Held hot s) : Held hot (relayGrant s) := h.same (same_relayGrant s)

end Sys2Proof.Machine
end

section
/-! PROOFS. The holder table over the items of a run microsecond, the requests, the link, the resets and time: over every step. -/

namespace Sys2Proof.Machine

open Sys2Proof.Safety

variable {s t : State}

/-! ### Resets -/

/-- No slot holds anything, no transition is handed over and every path stands at NORMAL. -/
theorem held_bare (holder : ∀ g, t.holder g = none) (slot : ∀ k, ¬ holding (t.slot k))
    (record : ∀ k, (t.slot k).state ≠ .empty → (t.slot k).record.isSome) (wait : ∀ p, t.wait p = none)
    (entry : transitions t = []) (path : ∀ p, t.path p = .normal) : Held none t := by
  refine ⟨fun k => .idle (slot k) (record k) (fun g => ?_) (fun p w hw => ?_) fun e he => ?_, fun p hp => absurd (path p) hp, nofun⟩
  · rw [holder]; nofun
  · rw [wait] at hw; cases hw
  · rw [entry] at he; cases he

theorem held_cold (now : Nat) (straps : BitVec 3) (inputs : Vector Input 10) (connPin : Bool) (l : List Instr) :
    Held none { State.cold now straps inputs connPin with pending := l } := by
  have slot (k : Fin 32) : ({ State.cold now straps inputs connPin with pending := l } : State).slot k = Slot.cold :=
    getAt_replicate Slot.cold k
  refine held_bare (fun g => getAt_replicate none g) (fun k => ?_) (fun k h => ?_) (fun p => getAt_replicate none p) rfl
    fun p => getAt_replicate Path.normal p
  · rw [slot, holding_of_state (x := Slot.cold) rfl]; decide
  · rw [slot] at h; exact absurd rfl h

/-- The tables of a warm reset: the channels, the inputs and the slots. -/
def warmTables (s : State) : State :=
  forEach allSlots (fun k s => s.setSlot k (s.slot k).afterWarm)
    (forEach allInputs (fun k s => s.setInput k ((s.input k).afterWarm s.uptime))
      (forEach allChannels (fun n s => s.setChan n ((s.chan n).afterWarm n)) s))

/-- The blocks of a warm reset. -/
def warmBlocks (s : State) : State :=
  { s with
    run := .afterReset s.run.config
    rot := .afterReset s.rot.wheel s.rot.cams
    cap := { s.cap with log := [] }
    faults := { s.faults with holders := .replicate 45 none }
    pins := .afterReset s.uptime s.pins.map
    sup := s.sup.afterWarm s.uptime
    ntc := .afterReset s.ntc.enables s.ntc.threshold s.ntc.routes
    link := s.link.afterWarm s.uptime }

theorem takeWarm_eq (s : State) : takeWarm s = warmBlocks (warmTables s) := rfl

theorem warmTables_slot (s : State) (k : Fin 32) : (warmTables s).slot k = (s.slot k).afterWarm := by
  unfold warmTables
  rw [forEach_at (fun s => s.slot k) Slot.afterWarm k _ (fun k s => s.setSlot k (s.slot k).afterWarm) (mem_allSlots k)
      nodup_allSlots (fun j _ hj s => State.slot_setSlot_other _ _ _ _ (Ne.symm hj)) (fun s => State.slot_setSlot_same _ _ _),
    forEach_view (fun s => s.slot k) _ (fun k s => s.setInput k ((s.input k).afterWarm s.uptime)) (fun _ _ _ => rfl),
    forEach_view (fun s => s.slot k) _ (fun n s => s.setChan n ((s.chan n).afterWarm n)) (fun _ _ _ => rfl)]

/-- After a warm reset no slot holds anything; a slot that was not EMPTY keeps its record. -/
theorem held_warmBlocks (h : Held none s) (slot : ∀ k, t.slot k = (s.slot k).afterWarm) : Held none (warmBlocks t) := by
  have blocks (k : Fin 32) : (warmBlocks t).slot k = (s.slot k).afterWarm := slot k
  refine held_bare (fun g => getAt_replicate none g) (fun k => ?_) (fun k hk => ?_) (fun p => getAt_replicate none p) rfl
    fun p => getAt_replicate Path.normal p
  · rw [blocks]
    unfold Slot.afterWarm holding
    dsimp only
    split <;> simp
  · rw [blocks] at hk ⊢
    unfold Slot.afterWarm at hk ⊢
    dsimp only at hk ⊢
    split at hk
    · exact absurd rfl hk
    · next occupied => rw [if_neg occupied]; exact (h.own k).record occupied

theorem Held.takeWarm (h : Held none s) : Held none (takeWarm s) := by
  rw [takeWarm_eq]
  exact held_warmBlocks h (warmTables_slot s)

/-! ### Sources, outputs and the items of a run microsecond -/

variable {hot : Option (Fin 32)}

theorem Held.setWork (h : Held hot s) (l : List WorkItem) : Held hot (s.setWork l) := h.of_harness rfl

theorem Held.pointEnd (h : Held hot s) : Held hot (pointEnd s) := .ite (Held.profileEmptied (h.of_harness rfl)) h

theorem Held.flushChannel (h : Held hot s) (n : Fin 16) (abort : Bool) : Held hot (flushChannel n abort s) := by
  have emptied : Held hot (s.setChan n { s.chan n with queue := [] }) := h.of_harness rfl
  unfold Machine.flushChannel
  dsimp only
  refine .ite (.ite (Held.handStarved (emptied.of_harness (harness_raiseCause n _ _))) (emptied.of_harness rfl))
    (.ite emptied.drainedTest (.ite (emptied.of_harness rfl) emptied))

theorem Held.sampleEnd (h : Held hot s) (n : Fin 16) : Held hot (sampleEnd n s) := by
  unfold Machine.sampleEnd
  refine .ite ?_ h
  dsimp only
  split
  · exact h
  · refine .ite (h.of_harness rfl) (.ite (h.of_harness rfl) ?_)
    unfold segmentEnd
    split
    · exact h.of_harness (harness_raiseCause n _ _)
    · exact Held.handStarved (h.of_harness (harness_raiseCause n _ _))

theorem harness_runPulses (s : State) : (runPulses s).harness = s.harness := by
  unfold runPulses
  dsimp only
  split
  · rw [harness_pulseEvent, harness_pulseEvent]
  · exact harness_pulseEvent _ s

theorem Held.workItem (h : Held hot s) (w : WorkItem) : Held hot (workItem w s) := by
  unfold Machine.workItem
  split
  case h_1 => exact h.of_harness (harness_runPulses s)
  case h_2 => exact h.levelChange _
  case h_5 => exact h.drainAtStart
  case h_6 => exact h.runningCause _
  case h_7 => exact h.handStarved
  case h_8 => exact h.runTrigger _
  all_goals exact h.of_harness rfl

theorem Held.takeItem (h : Held hot s) (w : WorkItem) : Held hot (takeItem w s) :=
  takeItem_keeps (Held hot) (fun l _ h => h.setWork l) (fun w _ h => h.workItem w) w s h

theorem Held.finishWork (h : Held hot s) : Held hot (finishWork s) :=
  finishWork_keeps (Held hot) (fun l _ h => h.setWork l) (fun w _ h => h.workItem w) s h

theorem Held.namedItem (h : Held none s) (w : WorkItem) : Held none (namedItem w s) := by
  unfold Machine.namedItem
  split
  case h_1 => exact h.pointEnd
  case h_2 => exact h.sampleEnd _
  case h_3 => exact h.halfEnd _
  case h_4 => exact h.delayEnd _
  case h_5 => exact h.widthEnd _ _
  all_goals exact h.takeItem _

theorem Held.takeWork (h : Held none s) (order : List WorkItem) : Held none (takeWork order s) :=
  takeWork_keeps (Held none) (fun l _ h => h.setWork l) (fun w _ h => h.workItem w) (fun w _ h => h.namedItem w) order s h

/-! ### The supply -/

theorem Held.disconnect (h : Held hot s) : Held hot (disconnect s) := by
  have opened : Held hot (raise .supply { s with sup := { s.sup with conn := .disconnected } }) := h.of_harness rfl
  have cut : Held hot (disconnectCause (raise .supply { s with sup := { s.sup with conn := .disconnected } })) :=
    .ite (opened.enterEnded _) opened
  exact .ite (.ite (cut.of_harness rfl) (cut.of_harness (harness_settleFeeds _))) cut

theorem Held.senseChange (h : Held hot s) (high : Bool) : Held hot (senseChange high s) := by
  refine .ite (h.of_harness rfl) ?_
  unfold readSense
  dsimp only
  split
  case h_3 => exact Held.disconnect (h.of_harness rfl)
  all_goals exact h.of_harness rfl

theorem harness_connectionAccepted (s : State) : (connectionAccepted s).harness = s.harness := by
  unfold connectionAccepted
  split
  · dsimp only
    split
    · exact harness_settleFeeds _
    · rfl
  · rfl

/-! ### Requests -/

theorem harness_setChan (n : Fin 16) (c : Channel) (s : State) : (s.setChan n c).harness = s.harness := rfl

theorem Held.startRun (h : Held hot s) : Held hot (startRun s) := by
  have cleared (t : State) : (Machine.forEach allChannels (fun n s => s.setChan n { s.chan n with clamped := false }) t).harness
      = t.harness := forEach_view State.harness _ _ (fun n _ t => harness_setChan n _ t) t
  refine Held.of_harness h.finishWork ?_
  unfold Machine.startRun
  dsimp only
  split
  · rw [runStartEvent, harness_pulseEvent, cleared]; rfl
  · rw [cleared]; rfl

theorem Held.reqStart (h : Held hot s) : Held hot (reqStart s).1 := by
  unfold Machine.reqStart runAnswer
  split
  · exact h.startRun
  · exact h

theorem harness_reqHold (s : State) : (reqHold s).1.harness = s.harness := by
  unfold reqHold runAnswer
  split
  · exact harness_takeHold s
  · rfl

theorem harness_reqResume (s : State) : (reqResume s).1.harness = s.harness := by
  unfold reqResume runAnswer
  split
  · exact harness_releaseEvent _ s
  · rfl

theorem Held.reqEnd (h : Held hot s) : Held hot (reqEnd s).1 := by
  unfold Machine.reqEnd runAnswer
  split
  · dsimp only
    exact h.enterEnded _
  · exact h

theorem harness_reqClear (s : State) : (reqClear s).1.harness = s.harness := by
  unfold reqClear runAnswer
  split <;> rfl

theorem Held.reqSpeedFlush (h : Held hot s) (f : Nat) : Held hot (reqSpeedFlush f s).1 := by
  unfold Machine.reqSpeedFlush
  split
  · exact h
  · exact .ite (Held.profileEmptied (h.of_harness rfl)) (h.of_harness rfl)

theorem Held.reqSegmentFlush (h : Held hot s) (n f : Nat) : Held hot (reqSegmentFlush n f s).1 := by
  unfold Machine.reqSegmentFlush
  split
  · dsimp only
    split
    · exact h.flushChannel _ _
    · exact h
  · exact h

theorem Held.reqPinMap (h : Held hot s) (cs : List Nat) : Held hot (reqPinMap cs s).1 := by
  unfold Machine.reqPinMap
  split
  · exact h
  · split
    · exact h
    · split
      · exact h
      · split
        · exact h
        · exact h.same (.of_drive rfl rfl rfl (.refl _))

theorem Held.reqFaultLoad (h : Held hot s) (k : Nat) (r : RawRecord) : Held hot (reqFaultLoad k r s).1 := by
  unfold Machine.reqFaultLoad
  split
  · next k _ _ _ =>
    dsimp only
    split
    · next idle =>
      refine h.idle_setSlot ?_ (by simp [holding]) fun _ => rfl
      cases e : (s.slot k).state <;> rw [e] at idle <;> rw [holding_of_state e] <;> first | decide | cases idle
    · exact h.relabel rfl rfl
  · exact h

theorem Held.armSlot (h : Held hot s) (k : Fin 32) : Held hot (armSlot k s) := by
  unfold Machine.armSlot
  dsimp only
  split
  · next armable =>
    simp only [State.armable, Bool.or_eq_true, beq_iff_eq] at armable
    refine h.idle_setSlot ?_ (by simp [holding]) fun _ => (h.own k).record ?_
    · rcases armable with e | e <;> rw [holding_of_state e] <;> decide
    · rcases armable with e | e <;> rw [e] <;> decide
  · exact h

theorem Held.reqFaultArm (h : Held hot s) (m : SlotMask) : Held hot (reqFaultArm m s).1 := by
  unfold Machine.reqFaultArm
  dsimp only
  exact h.forEach (fun k _ h => .ite (h.armSlot k) h) allSlots

theorem Held.reqFaultCancel (h : Held hot s) (m : SlotMask) : Held hot (reqFaultCancel m s).1 := by
  unfold Machine.reqFaultCancel
  dsimp only
  exact h.forEach (fun k _ h => .ite (h.cancelSlot k) h) allSlots

theorem harness_configInput (k : Option (Fin 10)) (c : RawInputConfig) (s : State) :
    (configInput k c s).1.harness = s.harness := by
  unfold configInput
  split
  · split <;> rfl
  · rfl

/-- A request of another kind touches neither the slots nor the pins. -/
theorem Held.serve (h : Held none s) (c : Instr) : Held none (serve c s) := by
  cases c with
  | status f => exact h.of_harness (by unfold Machine.serve respond reqStatus; dsimp only; split <;> rfl)
  | runConfig c => exact h.of_harness (by unfold Machine.serve respond reqRunConfig; dsimp only; split <;> [split; skip] <;> rfl)
  | start => exact Held.of_harness h.reqStart rfl
  | hold => exact h.of_harness (harness_reqHold s)
  | resume => exact h.of_harness (harness_reqResume s)
  | endRun => exact Held.of_harness h.reqEnd rfl
  | clear => exact h.of_harness (harness_reqClear s)
  | wheelSet w => exact h.of_harness (by unfold Machine.serve respond reqWheelSet; dsimp only; split <;> [split; skip] <;> rfl)
  | camSet c n es =>
    exact h.of_harness (by
      unfold Machine.serve respond reqCamSet; dsimp only; split <;> [skip; (split <;> [split; skip])] <;> rfl)
  | speedPush n ps =>
    exact h.of_harness (by
      unfold Machine.serve respond reqSpeedPush; dsimp only; split <;> [skip; (split <;> [skip; split])] <;> rfl)
  | speedFlush f => exact Held.of_harness (h.reqSpeedFlush f) rfl
  | traceWrite a n xs => exact h.of_harness (by unfold Machine.serve respond reqTraceWrite; dsimp only; split <;> [skip; split] <;> rfl)
  | traceRead a n => exact h.of_harness (by unfold Machine.serve respond reqTraceRead; dsimp only; split <;> rfl)
  | channelConfig c =>
    exact h.of_harness (by unfold Machine.serve respond reqChannelConfig; dsimp only; split <;> [split; skip] <;> rfl)
  | windowSet w => exact h.of_harness (by unfold Machine.serve respond reqWindowSet; dsimp only; split <;> [split; skip] <;> rfl)
  | segmentPush g =>
    exact h.of_harness (by
      unfold Machine.serve respond reqSegmentPush; dsimp only; split <;> [skip; (split <;> [skip; split])] <;> rfl)
  | segmentFlush n f => exact Held.of_harness (h.reqSegmentFlush n f) rfl
  | channelRead n => exact h.of_harness (by unfold Machine.serve respond reqChannelRead; dsimp only; split <;> rfl)
  | channelSet n v =>
    exact h.of_harness (by unfold Machine.serve respond reqChannelSet; dsimp only; split <;> [split; skip] <;> rfl)
  | captureConfig c | lineConfig c => exact h.of_harness (harness_configInput _ c s)
  | captureRead n => exact h.of_harness (by unfold Machine.serve respond reqCaptureRead; dsimp only; split <;> rfl)
  | pinMap cs => exact Held.of_harness (h.reqPinMap cs) rfl
  | faultLoad k r => exact Held.of_harness (h.reqFaultLoad k r) rfl
  | faultArm m => exact Held.of_harness (h.reqFaultArm m) rfl
  | faultCancel m => exact Held.of_harness (h.reqFaultCancel m) rfl
  | faultQuery k => exact h.of_harness (by unfold Machine.serve respond reqFaultQuery; dsimp only; split <;> rfl)
  | supplyConfig m => exact h.of_harness (by unfold Machine.serve respond reqSupplyConfig; dsimp only; split <;> rfl)
  | supplySet b i d =>
    refine h.of_harness ?_
    unfold Machine.serve respond reqSupplySet
    dsimp only
    split
    · exact harness_settleFeeds _
    · rfl
  | noticeConfig es t =>
    exact h.of_harness (by
      unfold Machine.serve respond reqNoticeConfig; dsimp only; split <;> [skip; (split <;> [split; skip])] <;> rfl)
  | triggerRoute l src p => exact h.of_harness (by unfold Machine.serve respond reqTriggerRoute; dsimp only; split <;> rfl)
  | _ => exact h.of_harness rfl

/-! ### The link -/

theorem Held.handFrame (h : Held none s) (f : Frame) : Held none (handFrame f s) := by
  unfold Machine.handFrame
  split
  · exact h.of_harness rfl
  · exact h.of_harness rfl
  · exact h.serve _

theorem Held.takeBroadcast (h : Held none s) (f : Frame) : Held none (takeBroadcast f s) := by
  unfold Machine.takeBroadcast
  split
  case h_1 => exact h.reqStart
  case h_2 => exact h.of_harness (harness_reqHold s)
  case h_3 => exact h.of_harness (harness_reqResume s)
  case h_4 => exact h.reqEnd
  case h_5 => exact h.of_harness (harness_reqClear s)
  case h_6 => exact h.reqFaultArm _
  all_goals exact h

theorem harness_takeLength (bc : Bool) (c : RxChar) (s : State) : (takeLength bc c s).harness = s.harness := by
  unfold takeLength
  split <;> rfl

theorem harness_abandonFrame (s : State) : (abandonFrame s).harness = s.harness := by
  unfold abandonFrame
  split <;> rfl

theorem harness_huntAddress (c : RxChar) (s : State) : (huntAddress c s).harness = s.harness := by
  unfold huntAddress
  dsimp only
  split <;> rfl

theorem Held.takeData (h : Held none s) (c : RxChar) : Held none (takeData c s) := by
  unfold Machine.takeData
  split
  case h_1 | h_2 => exact h
  case h_3 => exact h.of_harness (harness_takeLength _ c s)
  case h_4 bc l rest _ _ =>
    dsimp only
    split
    · have hunting : Held none (setReceiver .hunting s) := h.of_harness rfl
      unfold completeFrame arrive
      dsimp only
      refine .ite (.ite (hunting.takeBroadcast _) ?_) (h.of_harness rfl)
      split
      · exact hunting.handFrame _
      all_goals exact h.of_harness rfl
    · exact h.of_harness rfl

theorem Held.replyEnd (h : Held none s) : Held none (replyEnd s) := by
  unfold Machine.replyEnd
  split
  · exact h
  · split
    · exact h.of_harness rfl
    · split
      · exact h.of_harness rfl
      · refine Held.handFrame ?_ _
        exact h.of_harness rfl

/-! ### Inputs -/

theorem harness_logEdge (k : Fin 10) (d : Edge) (s : State) : (logEdge k d s).harness = s.harness := by
  unfold logEdge writeRecord
  split
  · split
    · split
      · exact harness_raiseIf _ _ _
      · rfl
    · rfl
  · rfl

theorem harness_runEdge (k : Fin 10) (d : Edge) (s : State) : (runEdge k d s).harness = s.harness := by
  unfold runEdge
  split
  · split
    · exact harness_pulseEvent _ _
    · rfl
  · split
    · exact harness_releaseEvent _ s
    · split
      · exact harness_releaseEvent _ s
      · rfl

theorem Held.deliverEdge (h : Held hot s) (k : Fin 10) (d : Edge) (order : List WorkItem) : Held hot (deliverEdge k d order s) := by
  refine Held.forEach (h.of_harness (harness_logEdge k d s)) (fun w t h => ?_) _
  unfold edgeItem
  split
  · exact h.of_harness (harness_runEdge k d t)
  · exact .ite (h.offerEdge k d _) h
  all_goals exact h

theorem Held.sampleInput (h : Held hot s) (k : Fin 10) (line : Bool) (order : List WorkItem) :
    Held hot (sampleInput k line order s) := by
  unfold Machine.sampleInput
  split
  · dsimp only
    split
    · refine .ite (Held.deliverEdge ?_ k _ order) ?_ <;> exact h.of_harness rfl
    · exact h.of_harness rfl
  · exact h

/-! ### Time -/

theorem Held.beginMicro (h : Held hot s) : Held hot (beginMicro s) := by
  have channels (t : State) : (Machine.forEach allChannels beginChannel t).harness = t.harness :=
    forEach_view State.harness _ beginChannel (fun n _ t => harness_setChan n _ t) t
  have inputs (t : State) : (Machine.forEach allInputs beginInput t).harness = t.harness :=
    forEach_view State.harness _ beginInput (fun k _ t => by unfold beginInput; dsimp only; split <;> rfl) t
  have begun : Held hot { s with
      uptime := s.uptime + 1
      run := { s.run with inMicro := false }
      pins := { s.pins with routed := s.pins.map }
      sup := { s.sup with sensed := false } } := h.same (.of_drive rfl rfl rfl (.refl _))
  exact begun.of_harness ((inputs _).trans (channels _))

theorem harness_formSource (flushed : List (Fin 16)) (n : Fin 16) (s : State) : (formSource flushed n s).harness = s.harness := by
  have played (t : State) : (streamPlay n t).harness = t.harness := by
    unfold streamPlay; dsimp only; split <;> rfl
  have taken : (streamTake n s).harness = s.harness := by
    unfold streamTake; dsimp only; split
    · rfl
    · split <;> rfl
    · rfl
  unfold formSource
  dsimp only
  split
  · split
    · rfl
    · rw [played]
      split
      · rfl
      · exact taken
    · rfl
  · rfl

theorem Held.openMicro (h : Held hot s) (order : List WorkItem) (old : State) : Held hot (openMicro order old s) := by
  have sources (l : List (Fin 16)) (t : State) : (Machine.forEach allChannels (formSource l) t).harness = t.harness :=
    forEach_view State.harness _ _ (fun n _ t => harness_formSource l n t) t
  have outputs (t : State) : (Machine.forEach allChannels formOutput t).harness = t.harness :=
    forEach_view State.harness _ formOutput (fun n _ t => harness_setChan n _ t) t
  have formed : Held hot (Machine.forEach allChannels formOutput (Machine.forEach allChannels
      (formSource (flushedFirst order s)) (advance s))) := h.of_harness ((outputs _).trans (sources _ _))
  have counted := formed.forEach (f := countProgress) (fun k t h => by
    unfold countProgress
    dsimp only
    split
    · exact .ite (h.relabel rfl rfl) h
    · exact h) allSlots
  have opened (u : State) (l : List WorkItem) :
      ({ u with run := { u.run with begun := true } }.setWork l : State).harness = u.harness := rfl
  unfold Machine.openMicro formMicro
  exact counted.of_harness (opened _ _)

theorem Held.takeDue (h : Held none s) (c : Instr) : Held none (takeDue c s) := by
  cases c with
  | warmReset =>
    show Held none (warmReset s)
    unfold Machine.warmReset
    exact .ite h.takeWarm h
  | initIntervalEnd => exact .ite (h.of_harness rfl) h
  | relayRecoveryEnd => exact h.relayRecoveryEnd
  | runClockWrap => exact .ite (h.of_harness (harness_raiseIf _ _ _)) h
  | halfPeriodEnd n => exact h.halfEnd n
  | inputSample k line order => exact h.sampleInput k line order
  | speedPointEnd => exact h.pointEnd
  | sampleSlotEnd n => exact h.sampleEnd n
  | delayElapse k => exact h.delayEnd k
  | widthElapse k order => exact h.widthEnd k order
  | relayApplyComplete => exact h.relayApplyComplete
  | relayReleaseComplete => exact h.relayReleaseComplete
  | alignmentTimeout p => exact h.alignExpire p
  | ignitionWaitEnd => exact .ite (h.of_harness (harness_settleFeeds _)) h
  | wakeWaitEnd => exact .ite (h.of_harness rfl) h
  | connSenseChange high => exact h.senseChange high
  | connectionAccepted => exact h.of_harness (harness_connectionAccepted s)
  | feedStage => exact .ite (h.of_harness (harness_settleFeeds _)) h
  | holdTimeout => exact .ite (h.of_harness (harness_releaseEvent _ s)) h
  | pulseTimerEnd l => exact Held.ite (h.of_harness rfl) h
  | replyStart =>
    refine h.of_harness ?_
    show (replyStart s).harness = _
    unfold replyStart
    split
    · split <;> rfl
    · rfl
  | replyEnd => exact h.replyEnd
  | characterGapTimeout => exact .ite (h.of_harness (harness_abandonFrame s)) h
  | relayGrant => exact h.relayGrant
  | _ => exact h

theorem Held.runMicro (h : Held none s) (order : List WorkItem) : Held none (runMicro order s) :=
  runMicro_keeps (Held none) order (fun c _ _ h => h.takeDue c) (fun _ h => h.beginMicro) (fun o old _ _ h => h.openMicro o old)
    (fun _ h => h.takeWork order) s h

theorem Held.idleBlock (h : Held none s) : Held none (Machine.idle s) :=
  idle_keeps (Held none) (fun c _ _ h => h.takeDue c) (fun _ h => h.beginMicro) (fun o old _ _ h => h.openMicro o old)
    (fun w _ h => h.takeItem w) (fun _ h => h.takeWork []) s h

theorem Held.exec (h : Held none s) {c : Instr} (e : exec c s = .next t) : Held none t := by
  rcases exec_event_or_request c s with e' | e' | ⟨x, rfl⟩ | rfl | ⟨x, rfl⟩ | ⟨x, rfl⟩ | ⟨x, rfl⟩ | ⟨x, rfl⟩
  · cases e.symm.trans e'; exact h.takeDue c
  · cases e.symm.trans e'; exact h.serve c
  · cases e; exact h.forEach (f := Machine.takeData) (fun c _ h => h.takeData c) x
  · cases e; exact h.of_harness (harness_abandonFrame s)
  · cases e; exact held_cold _ _ _ _ _
  · cases e; exact h.runMicro x
  · cases e
    refine h.of_harness ?_
    unfold receiveAddress
    split
    · rfl
    · exact harness_huntAddress x s
    · rw [harness_huntAddress, harness_abandonFrame]
  · cases e
    refine h.of_harness ?_
    unfold receiveLength
    split
    · exact harness_takeLength _ x s
    all_goals rfl

/-- Settles O60: every operation keeps the law of each slot, taken apart in `OwnLaw`. -/
theorem stepKeepsTheHolderTable : Obligations.StepKeepsTheHolderTable := by
  intro s t law h
  rw [← held_iff] at law ⊢
  rcases step_cases h with ⟨c, rest, -, e⟩ | ⟨-, rfl⟩
  · exact (law.of_harness rfl : Held none { s with pending := rest }).exec e
  · exact law.idleBlock

end Sys2Proof.Machine
end

section
/-! PROOFS. The step, and the requests that store a pattern: WHEEL-SET and CAM-SET. -/

namespace Sys2Proof.Machine

open Sys2Proof.Safety

/-- Settles O1: it is how `step` reads the front of the queue. -/
theorem stepRunsTheFrontCommand : Obligations.StepRunsTheFrontCommand := by
  intro c rest s h
  unfold step
  rw [h]

/-! ### IDLE and ENDED -/

theorem betweenRuns_iff {s : State} : s.betweenRuns = true ↔ between s := by
  simp [State.betweenRuns, between]

theorem betweenRuns_of {s : State} (h : between s) : s.betweenRuns = true := betweenRuns_iff.mpr h

theorem betweenRuns_of_not {s : State} (h : ¬ between s) : s.betweenRuns = false :=
  Bool.eq_false_iff.mpr fun e => h (betweenRuns_iff.mp e)

/-! ### The gaps of a wheel (R12) -/

theorem length_teethOf (t : Nat) (g : Gap) : (g.teethOf t).length = g.count := by simp [Gap.teethOf]

theorem mem_teethOf {t x : Nat} {g : Gap} : x ∈ g.teethOf t ↔ ∃ i < g.count, (g.first + i) % t = x := by simp [Gap.teethOf]

/-- A gap of no more teeth than the wheel has names each of its teeth once. -/
theorem nodup_teethOf {t : Nat} {g : Gap} (h : g.count ≤ t) : (g.teethOf t).Nodup := by
  refine List.Nodup.map_on (fun i hi j hj e => ?_) List.nodup_range
  have same : i % t = j % t := Nat.ModEq.add_left_cancel' g.first e
  rwa [Nat.mod_eq_of_lt ((List.mem_range.mp hi).trans_le h), Nat.mod_eq_of_lt ((List.mem_range.mp hj).trans_le h)] at same

theorem gapOk_iff {t : Nat} {g : Gap} : g.ok t = true ↔ g.first < t ∧ 1 ≤ g.count ∧ g.count ≤ 3 := by
  simp [Gap.ok, and_assoc]

/-- The gaps as the reply fields carry them. -/
theorem wheelGaps_eq {w : RawWheel} (h : w.gapCount ≤ 2) : wheelGaps w =
    (if 1 ≤ w.gapCount then [{ first := w.first0, count := w.count0 }] else [])
      ++ (if w.gapCount = 2 then [{ first := w.first1, count := w.count1 }] else []) := by
  unfold wheelGaps
  match w.gapCount, h with
  | 0, _ | 1, _ | 2, _ => rfl

/-- What R12 asks of the gaps, in the terms of the model's checks. -/
theorem gapsLegal_iff {w : RawWheel} (h4 : 4 ≤ w.teeth) (h2 : w.gapCount ≤ 2) :
    ((wheelGaps w).all (Gap.ok w.teeth) = true ∧ ((wheelGaps w).map (Gap.teethOf w.teeth)).flatten.Nodup
        ∧ 2 * ((wheelGaps w).map (Gap.teethOf w.teeth)).flatten.length < w.teeth)
      ↔ ((1 ≤ w.gapCount → w.first0 < w.teeth ∧ 1 ≤ w.count0 ∧ w.count0 ≤ 3)
        ∧ (w.gapCount = 2 → w.first1 < w.teeth ∧ 1 ≤ w.count1 ∧ w.count1 ≤ 3
            ∧ ∀ i < w.count0, ∀ j < w.count1, (w.first0 + i) % w.teeth ≠ (w.first1 + j) % w.teeth)
        ∧ 2 * missingTeeth w < w.teeth) := by
  have once {c f : Nat} (hc : c ≤ 3) : (Gap.teethOf w.teeth { first := f, count := c }).Nodup :=
    nodup_teethOf (hc.trans (Nat.le_of_succ_le h4))
  rw [wheelGaps_eq h2]
  unfold missingTeeth
  rcases (by omega : w.gapCount = 0 ∨ w.gapCount = 1 ∨ w.gapCount = 2) with e | e | e
  · simp [e]
  · simp only [e, Nat.le_refl, if_true, show ¬ (1 = 2) by decide, if_false, List.append_nil, List.all_cons, List.all_nil,
      Bool.and_true, gapOk_iff, List.map_cons, List.map_nil, List.flatten_cons, List.flatten_nil, length_teethOf, Nat.add_zero,
      false_implies, true_implies, true_and]
    exact and_congr_right fun ok => and_iff_right (once ok.2.2)
  · simp only [e, show 1 ≤ 2 by decide, if_true, List.all_append, List.all_cons, List.all_nil, Bool.and_true,
      Bool.and_eq_true, gapOk_iff, List.map_append, List.map_cons, List.map_nil, List.flatten_append, List.flatten_cons,
      List.flatten_nil, List.append_nil, List.length_append, length_teethOf, true_implies, and_assoc]
    constructor
    · rintro ⟨first0, low0, high0, first1, low1, high1, nodup, few⟩
      refine ⟨first0, low0, high0, first1, low1, high1, fun i hi j hj e => ?_, few⟩
      exact (List.nodup_append.mp nodup).2.2 _ (mem_teethOf.mpr ⟨i, hi, rfl⟩) _ (mem_teethOf.mpr ⟨j, hj, rfl⟩) e
    · rintro ⟨first0, low0, high0, first1, low1, high1, apart, few⟩
      refine ⟨first0, low0, high0, first1, low1, high1, List.nodup_append.mpr ⟨once high0, once high1, ?_⟩, few⟩
      intro x hx y hy
      obtain ⟨i, hi, rfl⟩ := mem_teethOf.mp hx
      obtain ⟨j, hj, rfl⟩ := mem_teethOf.mp hy
      exact apart i hi j hj

/-- The model's checks of a set pattern are those of R12. -/
theorem wheelLegal_iff {w : RawWheel} (h0 : w.teeth ≠ 0) : WheelLegal w ↔
    4 ≤ w.teeth ∧ w.teeth ≤ 120 ∧ Config.crankAngle % w.teeth = 0 ∧ w.offset < Config.crankAngle
        ∧ 8 ≤ w.duty ∧ w.duty + 8 ≤ Config.crankAngle / w.teeth ∧ w.gapCount ≤ 2
        ∧ (wheelGaps w).all (Gap.ok w.teeth) = true ∧ ((wheelGaps w).map (Gap.teethOf w.teeth)).flatten.Nodup
        ∧ 2 * ((wheelGaps w).map (Gap.teethOf w.teeth)).flatten.length < w.teeth := by
  unfold WheelLegal
  rw [or_iff_right h0]
  constructor
  · rintro ⟨low, high, whole, offset, duty, rest, two, gaps⟩
    exact ⟨low, high, whole, offset, duty, rest, two, (gapsLegal_iff low two).mpr gaps⟩
  · rintro ⟨low, high, whole, offset, duty, rest, two, gaps⟩
    exact ⟨low, high, whole, offset, duty, rest, two, (gapsLegal_iff low two).mp gaps⟩

theorem parseWheel_of_legal {w : RawWheel} (h : WheelLegal w) : parseWheel w = some (wheelStored w) := by
  unfold parseWheel wheelStored
  by_cases h0 : w.teeth = 0
  · rw [if_pos h0, if_pos h0]; rfl
  · have checks := (wheelLegal_iff h0).mp h
    have two := checks.2.2.2.2.2.2.1
    rw [if_neg h0, if_neg h0, ← wheelGaps_eq two]
    exact if_pos checks

theorem parseWheel_of_illegal {w : RawWheel} (h : ¬ WheelLegal w) : parseWheel w = none := by
  have h0 : w.teeth ≠ 0 := fun e => h (.inl e)
  unfold parseWheel
  rw [if_neg h0]
  exact if_neg fun checks => h ((wheelLegal_iff h0).mpr checks)

/-! ### Cam lists (R15) -/

/-- An edge of a CAM-SET as it is stored. -/
def edgeStored (e : RawEdge) : CamEdge := { angle := e.angle, level := e.level == 1 }

theorem parseEdge_of_legal {e : RawEdge} (h : e.angle < 72000 ∧ e.level ≤ 1) : parseEdge e = some (edgeStored e) := by
  unfold parseEdge edgeStored
  match e.level, h.2 with
  | 0, _ | 1, _ => exact if_pos h.1

theorem parseEdge_of_illegal {e : RawEdge} (h : ¬ (e.angle < 72000 ∧ e.level ≤ 1)) : parseEdge e = none := by
  unfold parseEdge
  cases hf : flag? e.level with
  | none => rfl
  | some b =>
    refine if_neg fun angle => h ⟨angle, ?_⟩
    rw [flag?_eq_some hf]
    cases b <;> decide

theorem mapM_parseEdge_of_legal {es : List RawEdge} (h : ∀ e ∈ es, e.angle < 72000 ∧ e.level ≤ 1) :
    es.mapM parseEdge = some (es.map edgeStored) := by
  induction es with
  | nil => rfl
  | cons e es ih =>
    rw [List.mapM_cons, parseEdge_of_legal (h e List.mem_cons_self), ih fun x hx => h x (List.mem_cons_of_mem e hx)]
    rfl

theorem mapM_parseEdge_of_illegal {es : List RawEdge} (h : ¬ ∀ e ∈ es, e.angle < 72000 ∧ e.level ≤ 1) :
    es.mapM parseEdge = none := by
  induction es with
  | nil => exact absurd nofun h
  | cons e es ih =>
    rw [List.mapM_cons]
    by_cases he : e.angle < 72000 ∧ e.level ≤ 1
    · rw [ih fun rest => h (List.forall_mem_cons.mpr ⟨he, rest⟩)]
      cases parseEdge e <;> rfl
    · rw [parseEdge_of_illegal he]
      rfl

theorem spaced_iff {es : List CamEdge} : spaced es = true ↔ es.IsChain (fun e f => e.angle + 8 ≤ f.angle) := by
  refine ⟨isChain_of_spaced, fun h => ?_⟩
  induction h with
  | nil | singleton => rfl
  | cons_cons first _ ih => rw [spaced, ih, Bool.and_true]; exact decide_eq_true first

theorem spacedWrap_iff {es : List CamEdge} :
    spacedWrap es = true ↔ ∀ f ∈ es.head?, ∀ l ∈ es.getLast?, l.angle + 8 ≤ 72000 + f.angle := by
  unfold spacedWrap
  cases es.head? with
  | none => simp
  | some f =>
    cases es.getLast? with
    | none => simp
    | some l =>
      refine decide_eq_true_iff.trans ⟨fun h _ hf _ hl => ?_, fun h => h f rfl l rfl⟩
      cases hf
      cases hl
      exact h

/-- The model's checks of an edge list are those of R15. -/
theorem camListOk_stored_iff {es : List RawEdge} (h : ∀ e ∈ es, e.angle < 72000 ∧ e.level ≤ 1) :
    camListOk (es.map edgeStored) = true ↔ CamLegal es := by
  have angles : (es.map edgeStored).all (fun e => decide (e.angle < Config.cycleAngle)) = true := by
    rw [List.all_map, List.all_eq_true]
    exact fun e he => decide_eq_true (h e he).1
  have wrap (f l : RawEdge) (hl : l ∈ es.getLast?) : l.angle + 8 ≤ 72000 + f.angle ↔ 8 ≤ 72000 - l.angle + f.angle := by
    have := (h l (List.mem_of_getLast? hl)).1
    omega
  simp only [camListOk, Bool.and_eq_true, decide_eq_true_eq, spaced_iff, spacedWrap_iff, angles, and_true, and_assoc,
    List.length_map, List.isChain_map, List.head?_map, List.getLast?_map]
  unfold CamLegal
  refine and_congr_right fun _ => (and_congr_right fun _ => ?_).trans (and_iff_right h).symm
  simp only [Option.mem_def, Option.map_eq_some_iff, forall_exists_index, and_imp, forall_apply_eq_imp_iff₂]
  exact forall_congr' fun f => imp_congr_right fun _ => forall_congr' fun l => imp_congr_right fun hl => wrap f l hl

theorem parseCam_of_legal {es : List RawEdge} (h : CamLegal es) : parseCam es = some (es.map edgeStored) := by
  have fields := h.2.1
  unfold parseCam
  rw [mapM_parseEdge_of_legal fields]
  exact if_pos ((camListOk_stored_iff fields).mpr h)

theorem parseCam_of_illegal {es : List RawEdge} (h : ¬ CamLegal es) : parseCam es = none := by
  unfold parseCam
  by_cases fields : ∀ e ∈ es, e.angle < 72000 ∧ e.level ≤ 1
  · rw [mapM_parseEdge_of_legal fields]
    exact if_neg fun ok => h ((camListOk_stored_iff fields).mp ok)
  · rw [mapM_parseEdge_of_illegal fields]

/-! ### The two requests -/

/-- What a request answers, as its command's next state. -/
theorem next_answered {kind : Byte} {r : State × Answer} {t : State} {st : Status} {body : List Byte}
    (h : r = (t, { status := st, body := body })) (h1 : st ≠ .badLength) (h2 : st ≠ .unknownKind) :
    Host.Outcome.next (respond kind r) = (.next (answered kind st body t) : Host.Outcome State Fault Refusal) :=
  h ▸ congrArg _ (respond_answered kind st body t h1 h2)

theorem next_badLength {kind : Byte} {r : State × Answer} {t : State} {body : List Byte}
    (h : r = (t, { status := .badLength, body := body })) :
    Host.Outcome.next (respond kind r) = (.next (answered kind .badLength [] t) : Host.Outcome State Fault Refusal) :=
  h ▸ congrArg _ (respond_badLength kind body t)

/-- Settles O4: the model's checks are those of R12 and R15, and what passes them is stored. -/
theorem patternSetsStoreOrRefuse : Obligations.PatternSetsStoreOrRefuse := by
  refine ⟨fun w s => ⟨fun hb hl => ?_, fun hb hl => ?_, fun hb => ?_⟩,
    fun cam count es s => ⟨fun hc => ?_, fun hc hb => ?_, fun hc hb hl => ?_, fun hc hb hl c hcam => ?_⟩⟩
  · refine next_answered ?_ nofun nofun
    rw [reqWheelSet, if_pos (betweenRuns_of hb), parseWheel_of_legal hl]
    rfl
  · refine next_answered ?_ nofun nofun
    rw [reqWheelSet, if_pos (betweenRuns_of hb), parseWheel_of_illegal hl]
    rfl
  · refine next_answered ?_ nofun nofun
    rw [reqWheelSet, betweenRuns_of_not hb]
    rfl
  · refine next_badLength (body := []) ?_
    rw [reqCamSet, if_pos hc]
    rfl
  · refine next_answered ?_ nofun nofun
    rw [reqCamSet, if_neg (not_not_intro hc), betweenRuns_of_not hb]
    rfl
  · refine next_answered ?_ nofun nofun
    rw [reqCamSet, if_neg (not_not_intro hc), if_pos (betweenRuns_of hb)]
    by_cases hcam : cam < 2
    · rw [parseCam_of_illegal fun ok => hl ⟨hcam, ok⟩]
      cases index? 2 cam <;> rfl
    · rw [index?_eq_none (Nat.not_lt.mp hcam)]
      rfl
  · refine next_answered ?_ nofun nofun
    subst hcam
    rw [reqCamSet, if_neg (not_not_intro hc), if_pos (betweenRuns_of hb), index?_val, parseCam_of_legal hl]
    rfl

end Sys2Proof.Machine
end

section
/-! PROOFS. The requests that store a configuration: RUN-CONFIG, CHANNEL-CONFIG, WINDOW-SET, CHANNEL-SET and SEGMENT-PUSH. -/

namespace Sys2Proof.Machine

open Sys2Proof.Safety

/-! ### Codes of section 11.5 -/

theorem flag?_of_le {v : Nat} (h : v ≤ 1) : flag? v = some (decide (v = 1)) := by
  match v, h with
  | 0, _ | 1, _ => rfl

theorem index?_of_eq {n v : Nat} {k : Fin n} (h : k.val = v) : index? n v = some k := h ▸ index?_val k

theorem index?_of_lt {n v : Nat} [NeZero n] (h : v < n) : index? n v = some (Fin.ofNat n v) :=
  index?_of_eq (Nat.mod_eq_of_lt h)

theorem EdgeSel.ofCode_of_le {v : Nat} (h : v ≤ 2) : EdgeSel.ofCode v = some (edgeOf v) := by
  match v, h with
  | 0, _ | 1, _ | 2, _ => rfl

theorem EdgeSel.ofCode_of_gt {v : Nat} (h : 2 < v) : EdgeSel.ofCode v = none := by
  match v, h with
  | _ + 3, _ => rfl

theorem StartMode.ofCode_of_le {v : Nat} (h : v ≤ 1) : StartMode.ofCode v = some (if v = 1 then .line else .immediate) := by
  match v, h with
  | 0, _ | 1, _ => rfl

theorem StartMode.ofCode_of_gt {v : Nat} (h : 1 < v) : StartMode.ofCode v = none := by
  match v, h with
  | _ + 2, _ => rfl

theorem SourceMode.ofCode_of_le {v : Nat} (h : v ≤ 2) :
    SourceMode.ofCode v = some (if v = 0 then .const else if v = 1 then .stream else .angleMap) := by
  match v, h with
  | 0, _ | 1, _ | 2, _ => rfl

theorem SourceMode.ofCode_of_gt {v : Nat} (h : 2 < v) : SourceMode.ofCode v = none := by
  match v, h with
  | _ + 3, _ => rfl

theorem Reference.ofCode_of_le {v : Nat} (h : v ≤ 1) : Reference.ofCode v = some (if v = 1 then .ratio else .internal) := by
  match v, h with
  | 0, _ | 1, _ => rfl

theorem Reference.ofCode_of_gt {v : Nat} (h : 1 < v) : Reference.ofCode v = none := by
  match v, h with
  | _ + 2, _ => rfl

theorem GuardMode.ofCode_of_le {v : Nat} (h : v ≤ 1) : GuardMode.ofCode v = some (if v = 1 then .strict else .clamp) := by
  match v, h with
  | 0, _ | 1, _ => rfl

theorem GuardMode.ofCode_of_gt {v : Nat} (h : 1 < v) : GuardMode.ofCode v = none := by
  match v, h with
  | _ + 2, _ => rfl

theorem CauseSel.ofCode_of_le {v : Nat} (h : v ≤ 1) : CauseSel.ofCode v = some (if v = 1 then .starved else .taken) := by
  match v, h with
  | 0, _ | 1, _ => rfl

theorem CauseSel.ofCode_of_gt {v : Nat} (h : 1 < v) : CauseSel.ofCode v = none := by
  match v, h with
  | _ + 2, _ => rfl

/-! ### RUN-CONFIG (R26) -/

theorem parseRelease_of_legal {n : Nat} [NeZero n] {r : RawRelease} (h : ReleaseLegal n r) :
    parseRelease n r = some (releaseStored n r) := by
  obtain ⟨enable, fields⟩ := h
  unfold parseRelease releaseStored
  rw [flag?_of_le enable]
  by_cases on : r.enable = 1
  · obtain ⟨input, edge⟩ := fields on
    simp [on, index?_of_lt input, EdgeSel.ofCode_of_le edge]
  · simp [on, EdgeRelease.disabled]

theorem parseRelease_of_illegal {n : Nat} [NeZero n] {r : RawRelease} (h : ¬ ReleaseLegal n r) : parseRelease n r = none := by
  unfold parseRelease
  by_cases enable : r.enable ≤ 1
  · have on : r.enable = 1 := by
      by_contra off
      exact h ⟨enable, fun e => absurd e off⟩
    rw [flag?_of_le enable, decide_eq_true on]
    by_cases input : r.input < n
    · have edge : 2 < r.edge := Nat.not_le.mp fun edge => h ⟨enable, fun _ => ⟨input, edge⟩⟩
      rw [EdgeSel.ofCode_of_gt edge]
      cases index? n r.input <;> rfl
    · rw [index?_eq_none (Nat.not_lt.mp input)]
  · rw [flag?_eq_none (Nat.not_le.mp enable)]

/-- The start fields of R26. -/
def StartLegal (c : RawRunConfig) : Prop := c.startMode ≤ 1 ∧ (c.startMode = 1 → c.startInput < 2 ∧ c.startEdge ≤ 2)

theorem parseStart_of_legal {c : RawRunConfig} (h : StartLegal c) :
    parseStart c = some ((configStored c).startMode, (configStored c).startInput, (configStored c).startEdge) := by
  obtain ⟨mode, fields⟩ := h
  unfold parseStart configStored
  rw [StartMode.ofCode_of_le mode]
  by_cases on : c.startMode = 1
  · obtain ⟨input, edge⟩ := fields on
    simp [on, index?_of_lt input, EdgeSel.ofCode_of_le edge]
  · simp [on]

theorem parseStart_of_illegal {c : RawRunConfig} (h : ¬ StartLegal c) : parseStart c = none := by
  unfold parseStart
  by_cases mode : c.startMode ≤ 1
  · have on : c.startMode = 1 := by
      by_contra off
      exact h ⟨mode, fun e => absurd e off⟩
    rw [StartMode.ofCode_of_le mode, if_pos on]
    by_cases input : c.startInput < 2
    · have edge : 2 < c.startEdge := Nat.not_le.mp fun edge => h ⟨mode, fun _ => ⟨input, edge⟩⟩
      rw [EdgeSel.ofCode_of_gt edge]
      cases index? 2 c.startInput <;> rfl
    · rw [index?_eq_none (Nat.not_lt.mp input)]
  · rw [StartMode.ofCode_of_gt (Nat.not_le.mp mode)]

/-- The TIMEOUT fields of R26. -/
def TimeoutLegal (c : RawRunConfig) : Prop := c.timeoutEnable ≤ 1 ∧ (c.timeoutEnable = 1 → 1 ≤ c.timeout ∧ c.timeout ≤ 65535)

theorem parseTimeout_of_legal {c : RawRunConfig} (h : TimeoutLegal c) :
    parseTimeout c = some ((configStored c).timeoutEnable, (configStored c).timeout) := by
  obtain ⟨enable, span⟩ := h
  unfold parseTimeout configStored
  rw [flag?_of_le enable]
  by_cases on : c.timeoutEnable = 1
  · simp [on, span on]
  · simp [on]

theorem parseTimeout_of_illegal {c : RawRunConfig} (h : ¬ TimeoutLegal c) : parseTimeout c = none := by
  unfold parseTimeout
  by_cases enable : c.timeoutEnable ≤ 1
  · have on : c.timeoutEnable = 1 := by
      by_contra off
      exact h ⟨enable, fun e => absurd e off⟩
    rw [flag?_of_le enable, decide_eq_true on]
    exact if_neg fun span => h ⟨enable, fun _ => span⟩
  · rw [flag?_eq_none (Nat.not_le.mp enable)]

theorem testBit_options {v : Nat} (h : v < 4) : v.testBit 0 = decide (v % 2 = 1) ∧ v.testBit 1 = decide (v / 2 = 1) := by
  match v, h with
  | 0, _ | 1, _ | 2, _ | 3, _ => decide

theorem parseRunConfig_of_legal {c : RawRunConfig} (h : RunConfigLegal c) : parseRunConfig c = some (configStored c) := by
  obtain ⟨mode, start, angle, options, line, capture, enable, timeout⟩ := h
  unfold parseRunConfig
  rw [parseStart_of_legal ⟨mode, start⟩, parseRelease_of_legal line, parseRelease_of_legal capture,
    parseTimeout_of_legal ⟨enable, timeout⟩]
  dsimp only
  rw [if_pos ⟨angle, options⟩, (testBit_options options).1, (testBit_options options).2, Nat.min_def]
  rfl

theorem parseRunConfig_of_illegal {c : RawRunConfig} (h : ¬ RunConfigLegal c) : parseRunConfig c = none := by
  unfold parseRunConfig
  by_cases start : StartLegal c
  · by_cases line : ReleaseLegal 2 c.line
    · by_cases capture : ReleaseLegal 8 c.capture
      · by_cases timeout : TimeoutLegal c
        · rw [parseStart_of_legal start, parseRelease_of_legal line, parseRelease_of_legal capture, parseTimeout_of_legal timeout]
          exact if_neg fun ok => h ⟨start.1, start.2, ok.1, ok.2, line, capture, timeout⟩
        · rw [parseStart_of_legal start, parseRelease_of_legal line, parseRelease_of_legal capture, parseTimeout_of_illegal timeout]
      · rw [parseStart_of_legal start, parseRelease_of_legal line, parseRelease_of_illegal capture]
    · rw [parseStart_of_legal start, parseRelease_of_illegal line]
  · rw [parseStart_of_illegal start]

/-! ### CHANNEL-CONFIG (R74) -/

/-- The rest and reference fields of R74. -/
def RestLegal (r : RawChannelConfig) : Prop :=
  (r.channel < 12 → r.gmin ≤ r.rest ∧ r.rest ≤ r.gmax ∧ r.reference ≤ 1) ∧ (12 ≤ r.channel → r.rest ≤ 1)

theorem parseRest_of_legal {r : RawChannelConfig} {n : Fin 16} (hn : n.val = r.channel) (h : RestLegal r) :
    parseRest n r.rest r.gmin r.gmax
      = some (if r.channel < 12 then r.rest else 0, decide (12 ≤ r.channel ∧ r.rest = 1)) := by
  unfold parseRest
  rw [hn]
  by_cases analog : r.channel < 12
  · obtain ⟨low, high, _⟩ := h.1 analog
    simp [analog, low, high, Nat.not_le.mpr analog]
  · simp [analog, Nat.not_lt.mp analog, flag?_of_le (h.2 (Nat.not_lt.mp analog))]

theorem parseReference_of_legal {r : RawChannelConfig} {n : Fin 16} (hn : n.val = r.channel) (h : RestLegal r) :
    parseReference n r.reference = some (if r.channel < 12 ∧ r.reference = 1 then .ratio else .internal) := by
  unfold parseReference
  rw [hn]
  by_cases analog : r.channel < 12
  · simp [analog, Reference.ofCode_of_le (h.1 analog).2.2]
  · simp [analog]

theorem parseRest_or_reference_of_illegal {r : RawChannelConfig} {n : Fin 16} (hn : n.val = r.channel) (h : ¬ RestLegal r) :
    parseRest n r.rest r.gmin r.gmax = none ∨ parseReference n r.reference = none := by
  unfold parseRest parseReference
  rw [hn]
  by_cases analog : r.channel < 12
  · rw [if_pos analog, if_pos analog]
    by_cases within : r.gmin ≤ r.rest ∧ r.rest ≤ r.gmax
    · exact .inr (Reference.ofCode_of_gt (Nat.not_le.mp fun ok => h
        ⟨fun _ => ⟨within.1, within.2, ok⟩, fun pulse => absurd analog (Nat.not_lt.mpr pulse)⟩))
    · exact .inl (if_neg within)
  · have rest : 1 < r.rest := Nat.not_le.mp fun ok => h ⟨fun e => absurd e analog, fun _ => ok⟩
    rw [if_neg analog, flag?_eq_none rest]
    exact .inl rfl

theorem configured_eq_channelStored (r : RawChannelConfig) (c : Channel) :
    c.configured (decide (r.enable = 1)) (if r.mode = 0 then .const else if r.mode = 1 then .stream else .angleMap)
        (if r.channel < 12 then r.rest else 0, decide (12 ≤ r.channel ∧ r.rest = 1))
        (if r.channel < 12 ∧ r.reference = 1 then .ratio else .internal) r.gmin r.gmax
        (if r.guardMode = 1 then .strict else .clamp) (if r.cause = 1 then .starved else .taken)
      = channelStored r c := by
  unfold Channel.configured channelStored
  by_cases h0 : r.mode = 0
  · simp [h0]
  · by_cases h1 : r.mode = 1 <;> simp [h0, h1]

theorem parseChannel_of_legal {r : RawChannelConfig} {n : Fin 16} (hn : n.val = r.channel) (h : ChannelLegal r) :
    parseChannel r = some (n, channelStored r) := by
  obtain ⟨_, enable, mode, guard, cause, ordered, top, rest⟩ := h
  have kind : r.gmax ≤ maxCode n := by unfold maxCode; rw [hn]; exact top
  unfold parseChannel
  rw [index?_of_eq hn]
  dsimp only
  rw [flag?_of_le enable, SourceMode.ofCode_of_le mode, parseRest_of_legal hn rest, parseReference_of_legal hn rest,
    GuardMode.ofCode_of_le guard, CauseSel.ofCode_of_le cause]
  dsimp only
  rw [if_pos ⟨ordered, kind⟩, funext (configured_eq_channelStored r)]

theorem parseChannel_of_illegal {r : RawChannelConfig} (h : ¬ ChannelLegal r) : parseChannel r = none := by
  unfold parseChannel
  by_cases channel : r.channel < 16
  · have hn : (⟨r.channel, channel⟩ : Fin 16).val = r.channel := rfl
    generalize (⟨r.channel, channel⟩ : Fin 16) = n at hn
    rw [index?_of_eq hn]
    dsimp only
    by_cases enable : r.enable ≤ 1
    · by_cases mode : r.mode ≤ 2
      · by_cases rest : RestLegal r
        · by_cases guard : r.guardMode ≤ 1
          · by_cases cause : r.cause ≤ 1
            · rw [flag?_of_le enable, SourceMode.ofCode_of_le mode, parseRest_of_legal hn rest, parseReference_of_legal hn rest,
                GuardMode.ofCode_of_le guard, CauseSel.ofCode_of_le cause]
              refine if_neg fun ok => h ⟨channel, enable, mode, guard, cause, ok.1, ?_, rest⟩
              have kind := ok.2
              unfold maxCode at kind
              rwa [hn] at kind
            · rw [flag?_of_le enable, SourceMode.ofCode_of_le mode, parseRest_of_legal hn rest, parseReference_of_legal hn rest,
                GuardMode.ofCode_of_le guard, CauseSel.ofCode_of_gt (Nat.not_le.mp cause)]
          · rw [flag?_of_le enable, SourceMode.ofCode_of_le mode, parseRest_of_legal hn rest, parseReference_of_legal hn rest,
              GuardMode.ofCode_of_gt (Nat.not_le.mp guard)]
        · rw [flag?_of_le enable, SourceMode.ofCode_of_le mode]
          rcases parseRest_or_reference_of_illegal hn rest with e | e
          · rw [e]
          · rw [e]
            cases parseRest n r.rest r.gmin r.gmax <;> rfl
      · rw [flag?_of_le enable, SourceMode.ofCode_of_gt (Nat.not_le.mp mode)]
    · rw [flag?_eq_none (Nat.not_le.mp enable)]
  · rw [index?_eq_none (Nat.not_lt.mp channel)]

/-- Settles O13: the model's checks are those of R26 and R74, and what passes them is stored. -/
theorem runAndChannelConfigStoreOrRefuse : Obligations.RunAndChannelConfigStoreOrRefuse := by
  refine ⟨fun c s => ⟨fun hb hl => ?_, fun hb hl => ?_, fun hb => ?_⟩,
    fun r s => ⟨fun hb hl n hn => ?_, fun hb hl => ?_, fun hb => ?_⟩⟩
  · refine next_answered (r := reqRunConfig c s) ?_ (by split <;> nofun) (by split <;> nofun)
    rw [reqRunConfig, if_pos (betweenRuns_of hb), parseRunConfig_of_legal hl]
    by_cases fits : c.startSpeed ≤ 192000
    · simp [fits, Answer.bare, Config.maxSpeed, Nat.not_lt.mpr fits]
    · simp [fits, Answer.bare, Config.maxSpeed, Nat.not_le.mp fits]
  · refine next_answered (r := reqRunConfig c s) ?_ nofun nofun
    rw [reqRunConfig, if_pos (betweenRuns_of hb), parseRunConfig_of_illegal hl]
    rfl
  · refine next_answered (r := reqRunConfig c s) ?_ nofun nofun
    rw [reqRunConfig, betweenRuns_of_not hb]
    rfl
  · refine next_answered (r := reqChannelConfig r s) ?_ nofun nofun
    rw [reqChannelConfig, if_pos (betweenRuns_of hb), parseChannel_of_legal hn hl]
    rfl
  · refine next_answered (r := reqChannelConfig r s) ?_ nofun nofun
    rw [reqChannelConfig, if_pos (betweenRuns_of hb), parseChannel_of_illegal hl]
    rfl
  · refine next_answered (r := reqChannelConfig r s) ?_ nofun nofun
    rw [reqChannelConfig, betweenRuns_of_not hb]
    rfl

/-! ### WINDOW-SET and CHANNEL-SET (R68, R54) -/

/-- A window as a legal WINDOW-SET stores it. -/
def windowStored (w : RawWindow) : Window :=
  { enable := w.enable == 1, start := w.start, stop := w.stop, base := w.base, pitch := w.pitch }

theorem parseWindow_of_legal {w : RawWindow} {n : Fin 16} {i : Fin 4} (hn : n.val = w.channel) (hi : i.val = w.window)
    (h : WindowLegal w) : parseWindow w = some (n, i, windowStored w) := by
  obtain ⟨_, _, enable, fields⟩ := h
  unfold parseWindow
  rw [index?_of_eq hn, index?_of_eq hi, flag?_of_le enable]
  exact if_pos fields

theorem parseWindow_of_illegal {w : RawWindow} (h : ¬ WindowLegal w) : parseWindow w = none := by
  unfold parseWindow
  by_cases channel : w.channel < 16
  · by_cases window : w.window < 4
    · by_cases enable : w.enable ≤ 1
      · rw [index?_of_lt channel, index?_of_lt window, flag?_of_le enable]
        exact if_neg fun fields => h ⟨channel, window, enable, fields⟩
      · rw [index?_of_lt channel, index?_of_lt window, flag?_eq_none (Nat.not_le.mp enable)]
    · rw [index?_of_lt channel, index?_eq_none (Nat.not_lt.mp window)]
  · rw [index?_eq_none (Nat.not_lt.mp channel)]

theorem maxCode_eq (n : Fin 16) : maxCode n = kindMax n.val := rfl

/-- Settles O20: the model's checks are those of R68 and R54. -/
theorem windowsAndCodesAreStoredOrRefused : Obligations.WindowsAndCodesAreStoredOrRefused := by
  refine ⟨fun w s => ⟨fun hb hl n i hn hi => ?_, fun hb hl => ?_, fun hb => ?_⟩, fun ch code s => ⟨fun n hn hc => ?_, fun hbad => ?_⟩⟩
  · refine next_answered (r := reqWindowSet w s) ?_ nofun nofun
    rw [reqWindowSet, if_pos (betweenRuns_of hb), parseWindow_of_legal hn hi hl]
    rfl
  · refine next_answered (r := reqWindowSet w s) ?_ nofun nofun
    rw [reqWindowSet, if_pos (betweenRuns_of hb), parseWindow_of_illegal hl]
    rfl
  · refine next_answered (r := reqWindowSet w s) ?_ nofun nofun
    rw [reqWindowSet, betweenRuns_of_not hb]
    rfl
  · refine next_answered (r := reqChannelSet ch code s) ?_ nofun nofun
    rw [reqChannelSet, index?_of_eq hn]
    dsimp only
    rw [maxCode_eq, hn, if_pos hc]
  · refine next_answered (r := reqChannelSet ch code s) ?_ nofun nofun
    rw [reqChannelSet]
    by_cases hch : ch < 16
    · have large : ¬ code ≤ maxCode ⟨ch, hch⟩ := Nat.not_le.mpr (hbad.resolve_left (Nat.not_le.mpr hch))
      rw [index?_of_eq (k := ⟨ch, hch⟩) rfl]
      dsimp only
      rw [if_neg large]
      rfl
    · rw [index?_eq_none (Nat.not_lt.mp hch)]
      rfl

/-! ### SEGMENT-PUSH (R64) -/

/-- A segment as a legal SEGMENT-PUSH stores it. -/
def segmentStored (g : RawSegment) : Segment := { base := g.base, length := g.length, period := g.period, rep := g.rep }

theorem parseSegment_of_legal {g : RawSegment} {n : Fin 16} (hn : n.val = g.channel) (h : SegmentLegal g) :
    parseSegment g = some (n, segmentStored g) := by
  unfold parseSegment
  rw [index?_of_eq hn]
  exact if_pos h

theorem parseSegment_of_illegal {g : RawSegment} (h : ¬ SegmentLegal g) : parseSegment g = none := by
  unfold parseSegment
  cases index? 16 g.channel with
  | none => rfl
  | some n => exact if_neg h

theorem segmentDepth_of {s : State} {n : Fin 16} {channel : Nat} (hn : n.val = channel) :
    s.segmentDepth channel = le 1 (s.chan n).queue.length := by
  unfold State.segmentDepth
  rw [index?_of_eq hn]

/-- Settles O22: by the checks of R64, then the queue's room. -/
theorem segmentPushAppendsOrRefuses : Obligations.SegmentPushAppendsOrRefuses := by
  intro g s
  refine ⟨fun n hn => ⟨fun hl hm hroom => ?_, fun hl hm hfull => ?_, fun hbad => ?_⟩, fun hch => ?_⟩
  · refine next_answered (r := reqSegmentPush g s) ?_ nofun nofun
    rw [reqSegmentPush, parseSegment_of_legal hn hl]
    dsimp only
    rw [if_neg (not_not_intro hm), if_neg (show ¬ Config.segmentQueue ≤ (s.chan n).queue.length from Nat.not_le.mpr hroom),
      segmentDepth_of hn, State.chan_setChan_same]
    simp [segmentStored]
  · refine next_answered (r := reqSegmentPush g s) ?_ nofun nofun
    rw [reqSegmentPush, parseSegment_of_legal hn hl]
    dsimp only
    rw [if_neg (not_not_intro hm), if_pos (show Config.segmentQueue ≤ (s.chan n).queue.length from hfull), segmentDepth_of hn]
    rfl
  · refine next_answered (r := reqSegmentPush g s) ?_ nofun nofun
    rw [reqSegmentPush]
    by_cases hl : SegmentLegal g
    · have hm := hbad.resolve_left (not_not_intro hl)
      rw [parseSegment_of_legal hn hl]
      dsimp only
      rw [if_pos hm, segmentDepth_of hn]
      rfl
    · rw [parseSegment_of_illegal hl, segmentDepth_of hn]
      rfl
  · refine ⟨Config.unstatedByte 0x34 0, next_answered (r := reqSegmentPush g s) ?_ nofun nofun⟩
    have none_such := index?_eq_none (n := 16) hch
    rw [reqSegmentPush, parseSegment, none_such]
    dsimp only
    rw [State.segmentDepth, none_such]
    rfl

end Sys2Proof.Machine
end

section
/-! PROOFS. What the items of a run microsecond and the endings of a run may do to the run, the lines, the channels and the
notices: one relation, reflexive and transitive like `Calm`. -/

namespace Sys2Proof.Machine

open Sys2Proof.Safety

variable {s t u : State} {n : Fin 16} {k : Fin 32}

/-! ### The relation -/

/-- The outputs of the Rotation Generator, with the speed. -/
def Rotation.turns (r : Rotation) : Nat × Bool × Vector Bool 2 := (r.speed, r.crankLine, r.camLines)

/-- The outputs after the run's end (R2, R21). -/
def stoppedTurns : Nat × Bool × Vector Bool 2 := (0, false, .replicate 2 false)

/-- The channel's source is stopped by the run's end (R52, R65). -/
def Channel.stopped (c : Channel) : Channel := { c with active := none, state := .stopped, held := none }

/-- Notices are only raised, and none of the capture log's. -/
structure Notices.Grows (a b : Notices) : Prop where
  pending : ∀ i, a.pending.getLsbD i = true → b.pending.getLsbD i = true
  channelMask : ∀ i, a.channelMask.getLsbD i = true → b.channelMask.getLsbD i = true
  guardMask : ∀ i, a.guardMask.getLsbD i = true → b.guardMask.getLsbD i = true
  faultMask : ∀ i, a.faultMask.getLsbD i = true → b.faultMask.getLsbD i = true
  log : ∀ k : NoticeKind, k = .captureFill ∨ k = .captureOverflow → b.pending.getLsbD k.bit = a.pending.getLsbD k.bit

/-- From `s` to `t` the run has not ended: the lines and the channels stand, but for the modifiers. -/
structure Goes (s t : State) : Prop where
  still_over : t.run.state = .ended → s.run.state = .ended
  turns : t.rot.turns = s.rot.turns
  chan : ∀ n, t.chan n = { s.chan n with modifier := (t.chan n).modifier }

/-- From `s` to `t` the run has ended: the lines are low and the sources stopped. -/
structure Ends (s t : State) : Prop where
  before : s.inRun = true
  ended : t.run.state = .ended
  turns : t.rot.turns = stoppedTurns
  chan : ∀ n, t.chan n = { (s.chan n).stopped with modifier := (t.chan n).modifier }

/-- What an item of a run microsecond may do. -/
structure Works (s t : State) : Prop where
  work : t.run.work = s.run.work
  quiet : s.inRun = false → t.run = s.run
  grows : s.ntc.Grows t.ntc
  run : Goes s t ∨ Ends s t
  timers : t.ntc.timers = s.ntc.timers

theorem Notices.Grows.refl (a : Notices) : a.Grows a := ⟨fun _ => id, fun _ => id, fun _ => id, fun _ => id, fun _ _ => rfl⟩

theorem Notices.Grows.trans {a b c : Notices} (h : a.Grows b) (h' : b.Grows c) : a.Grows c :=
  ⟨fun i => h'.1 i ∘ h.1 i, fun i => h'.2 i ∘ h.2 i, fun i => h'.3 i ∘ h.3 i, fun i => h'.4 i ∘ h.4 i, fun k hk => (h'.log k hk).trans (h.log k hk)⟩

theorem Goes.refl (s : State) : Goes s s := ⟨id, rfl, fun _ => rfl⟩

theorem Goes.trans (h : Goes s t) (h' : Goes t u) : Goes s u where
  still_over := h.still_over ∘ h'.still_over
  turns := h'.turns.trans h.turns
  chan n := by rw [h'.chan n, h.chan n]

theorem Works.refl (s : State) : Works s s := ⟨rfl, fun _ => rfl, .refl _, .inl (.refl s), rfl⟩

theorem inRun_of_ended (h : s.run.state = .ended) : s.inRun = false := by simp [State.inRun, h]

theorem not_ended_of_inRun (h : s.inRun = true) : s.run.state ≠ .ended := fun e => by simp [inRun_of_ended e] at h

theorem inRun_of_running (h : s.run.state = .running) : s.inRun = true := by simp [State.inRun, h]
theorem inRun_of_held (h : s.run.state = .held) : s.inRun = true := by simp [State.inRun, h]
theorem inRun_of_neither (h : s.run.state ≠ .held) (h' : s.run.state ≠ .running) : s.inRun = false := by
  simp [State.inRun, h, h']

theorem inRun_congr (h : t.run = s.run) : t.inRun = s.inRun := by simp [State.inRun, h]

theorem Works.trans (h : Works s t) (h' : Works t u) : Works s u where
  work := h'.work.trans h.work
  quiet q := (h'.quiet ((inRun_congr (h.quiet q)).trans q)).trans (h.quiet q)
  grows := h.grows.trans h'.grows
  timers := h'.timers.trans h.timers
  run := by
    rcases h.run with g | e
    · rcases h'.run with g' | e'
      · exact .inl (g.trans g')
      · have before : s.inRun = true := by
          by_contra q
          have same := inRun_congr (h.quiet (Bool.eq_false_iff.mpr q))
          exact q (same ▸ e'.before)
        exact .inr ⟨before, e'.ended, e'.turns, fun n => by rw [e'.chan n, g.chan n]; rfl⟩
    · have same := h'.quiet (inRun_of_ended e.ended)
      rcases h'.run with g' | e'
      · exact .inr ⟨e.before, same ▸ e.ended, g'.turns.trans e.turns, fun n => by rw [g'.chan n, e.chan n]⟩
      · exact absurd e.ended (not_ended_of_inRun e'.before)

theorem Works.ite {c : Prop} [Decidable c] (h : Works s t) (h' : Works s u) : Works s (if c then t else u) := by
  split
  · exact h
  · exact h'

theorem Works.forEach {α : Type} {f : α → State → State} (h : ∀ x s, Works s (f x s)) (xs : List α) (s : State) :
    Works s (forEach xs f s) :=
  forEach_keeps (Works s) xs f (fun x _ t ht => ht.trans (h x t)) s (.refl s)

theorem Works.ended (h : Works s t) (e : s.run.state = .ended) : t.run.state = .ended := by rw [h.quiet (inRun_of_ended e), e]

theorem Works.isPending (h : Works s t) {j : NoticeKind} (e : s.isPending j = true) : t.isPending j = true :=
  h.grows.pending j.bit e

/-! ### What only moves slots, pins, feeds, timers and modifiers -/

/-- What the slots, the pins and the feeds do not touch. -/
def State.bench (s : State) : Run × Rotation × Vector Channel 16 := (s.run, s.rot, s.chans)

theorem Works.of_bench (h : t.bench = s.bench) (grows : s.ntc.Grows t.ntc) (timers : t.ntc.timers = s.ntc.timers) : Works s t := by
  have run : t.run = s.run := congrArg (·.1) h
  have rot : t.rot = s.rot := congrArg (·.2.1) h
  have chans : t.chans = s.chans := congrArg (·.2.2) h
  refine ⟨by rw [run], fun _ => run, grows, .inl ⟨fun e => run ▸ e, by rw [rot], fun n => ?_⟩, timers⟩
  unfold State.chan
  rw [chans]

theorem Works.of_still (h : t.bench = s.bench) (ntc : t.ntc = s.ntc) : Works s t := .of_bench h (ntc ▸ .refl _) (congrArg Notices.timers ntc)

theorem getLsbD_or_of {w i : Nat} {a b : BitVec w} (h : a.getLsbD i = true) : (a ||| b).getLsbD i = true := by
  rw [BitVec.getLsbD_or, h, Bool.true_or]

theorem works_setSlot (k : Fin 32) (x : Slot) (s : State) : Works s (s.setSlot k x) := .of_still rfl rfl
theorem works_setHolder (g : Fin 45) (h : Option (Fin 32)) (s : State) : Works s (s.setHolder g h) := .of_still rfl rfl
theorem works_setPath (p : Fin 24) (x : Path) (s : State) : Works s (s.setPath p x) := .of_still rfl rfl
theorem works_setWait (p : Fin 24) (w : Option AlignWait) (s : State) : Works s (s.setWait p w) := .of_still rfl rfl
theorem works_setWaitList (l : List RelayEntry) (s : State) : Works s (s.setWaitList l) := .of_still rfl rfl
theorem works_raise {j : NoticeKind} (h : j ≠ .captureFill ∧ j ≠ .captureOverflow) (s : State) : Works s (raise j s) := by
  refine .of_bench rfl ⟨fun _ => getLsbD_or_of, fun _ => id, fun _ => id, fun _ => id, fun k hk => ?_⟩ rfl
  have other : k ≠ j := hk.elim (fun e => e ▸ h.1.symm) fun e => e ▸ h.2.symm
  exact (isPending_raise j k s).trans (by rw [decide_eq_false other, Bool.or_false]; rfl)

theorem works_raiseIf {j : NoticeKind} (h : j ≠ .captureFill ∧ j ≠ .captureOverflow) (b : Bool) (s : State) :
    Works s (raiseIf b j s) := .ite (works_raise h s) (.refl s)

theorem works_raiseRun (r : RunState) (e : EndReason) (s : State) : Works s (raiseRun r e s) :=
  (works_raise (j := .run) (by decide) s).trans (.of_bench rfl ⟨fun _ => id, fun _ => id, fun _ => id, fun _ => id, fun _ _ => rfl⟩ rfl)

theorem works_raiseChannel (n : Fin 16) (s : State) : Works s (raiseChannel n s) :=
  (works_raise (j := .channel) (by decide) s).trans (.of_bench rfl ⟨fun _ => id, fun _ => getLsbD_or_of, fun _ => id, fun _ => id, fun _ _ => rfl⟩ rfl)

theorem works_raiseGuard (n : Fin 16) (s : State) : Works s (raiseGuard n s) :=
  (works_raise (j := .guardTrip) (by decide) s).trans (.of_bench rfl ⟨fun _ => id, fun _ => id, fun _ => getLsbD_or_of, fun _ => id, fun _ _ => rfl⟩ rfl)

theorem works_raiseFault (k : Fin 32) (s : State) : Works s (raiseFault k s) :=
  (works_raise (j := .fault) (by decide) s).trans (.of_bench rfl ⟨fun _ => id, fun _ => id, fun _ => id, fun _ => getLsbD_or_of, fun _ _ => rfl⟩ rfl)

theorem works_raiseCause (n : Fin 16) (c : CauseSel) (s : State) : Works s (raiseCause n c s) :=
  .ite (works_raiseChannel n s) (.refl s)

theorem pulseEvent_rest (on : Route → Bool) (s : State) :
    { pulseEvent on s with ntc := { (pulseEvent on s).ntc with timers := s.ntc.timers } } = s := by
  unfold pulseEvent
  exact forEach_view (fun t : State => { t with ntc := { t.ntc with timers := s.ntc.timers } }) allOutputs
    (fun l t => if on (getAt t.ntc.routes l) then t.setTimer l (some (t.uptime + Config.pulseTail)) else t)
    (fun l _ t => by split <;> rfl) s

/-- The route is reached by the angle's sweep (R182). -/
def State.sweeps (s : State) : Route → Bool
  | .angleMark x => s.hit x
  | .off | .runLevel | .holdLevel | .startPulse | .cyclePulse | .slotActive _ | .captureMirror _ => false

theorem runPulses_eq (s : State) : runPulses s =
    if (pulseEvent s.sweeps s).rot.cycleEvent then pulseEvent (fun r => r == .cyclePulse) (pulseEvent s.sweeps s)
    else pulseEvent s.sweeps s := by
  have same : (fun r => match r with
      | .angleMark x => s.hit x
      | .off | .runLevel | .holdLevel | .startPulse | .cyclePulse | .slotActive _ | .captureMirror _ => false) = s.sweeps := by
    funext r
    cases r <;> rfl
  rw [← same]
  rfl

/-- A run microsecond's pulses set pulse timers alone. -/
theorem runPulses_rest (s : State) :
    { runPulses s with ntc := { (runPulses s).ntc with timers := s.ntc.timers } } = s := by
  rw [runPulses_eq]
  have first := pulseEvent_rest s.sweeps s
  generalize pulseEvent s.sweeps s = v at first ⊢
  split
  · have second := pulseEvent_rest (fun r => r == .cyclePulse) v
    generalize pulseEvent (fun r => r == .cyclePulse) v = w at second ⊢
    exact (congrArg (fun t : State => { t with ntc := { t.ntc with timers := s.ntc.timers } }) second).trans first
  · exact first

theorem Notices.Grows.of_timers {a b : Notices} (h : { b with timers := a.timers } = a) : a.Grows b := by
  have grown : a.Grows { b with timers := a.timers } := h ▸ .refl _
  exact ⟨grown.pending, grown.channelMask, grown.guardMask, grown.faultMask, grown.log⟩

theorem grows_pulseEvent (on : Route → Bool) (s : State) : s.ntc.Grows (pulseEvent on s).ntc := by
  have rest := pulseEvent_rest on s
  generalize pulseEvent on s = v at rest ⊢
  exact .of_timers (congrArg State.ntc rest :)

theorem grows_runPulses (s : State) : s.ntc.Grows (runPulses s).ntc := by
  have rest := runPulses_rest s
  generalize runPulses s = v at rest ⊢
  exact .of_timers (congrArg State.ntc rest :)

theorem runPulses_bench (s : State) : (runPulses s).bench = s.bench := by
  have rest := runPulses_rest s
  generalize runPulses s = v at rest ⊢
  exact (congrArg State.bench rest :)

theorem works_settleFeeds {u : Supply} (s : State) : Works s (settleFeeds { s with sup := u }) :=
  Works.trans (t := { s with sup := u.settled s.uptime }) (.of_still rfl rfl) (works_raiseIf (by decide) _ _)

theorem works_setModifier (n : Fin 16) (m : Option ChanMod) (s : State) : Works s (setModifier n m s) := by
  refine ⟨rfl, fun _ => rfl, .refl _, .inl ⟨id, rfl, fun j => ?_⟩, rfl⟩
  unfold setModifier
  rw [State.chan_setChan]
  split
  · next e => rw [e]
  · rfl

theorem works_setCrankMod (m : Option CrankMod) (s : State) : Works s (setCrankMod m s) :=
  ⟨rfl, fun _ => rfl, .refl _, .inl ⟨id, rfl, fun _ => rfl⟩, rfl⟩

theorem works_setCamMod (c : Fin 2) (m : Option CamMod) (s : State) : Works s (setCamMod c m s) :=
  ⟨rfl, fun _ => rfl, .refl _, .inl ⟨id, rfl, fun _ => rfl⟩, rfl⟩

theorem works_takeAway (a : Action) (s : State) : Works s (takeAway a s) := by
  cases a with
  | openPin | shortGnd => exact .of_still rfl rfl
  | freeze | force | offset => exact works_setModifier _ none s
  | toothDrop | crankShift => exact works_setCrankMod none s
  | camHold | camShift => exact works_setCamMod _ none s
  | battDrop | ignDrop => exact works_settleFeeds s
  | shortSupply | bridge | holdRun | endRun => exact .refl s

/-! ### Slots and the relay drive -/

theorem works_clearHolders (k : Fin 32) (s : State) : Works s (clearHolders k s) :=
  .forEach (fun g s => .ite (works_setHolder g none s) (.refl s)) _ s

theorem works_takeHolders (k : Fin 32) (ts : List (Fin 45)) (s : State) : Works s (takeHolders k ts s) :=
  .forEach (fun g s => works_setHolder g (some k) s) _ s

theorem works_closeWait (k : Fin 32) (s : State) : Works s (closeWait k s) :=
  .forEach (fun p s => .ite (works_setWait p none s) (.refl s)) _ s

theorem works_relayGrant (s : State) : Works s (relayGrant s) := by
  unfold relayGrant
  refine .ite ?_ (.refl s)
  split
  · exact .of_still rfl rfl
  · exact .refl s

theorem works_reopenGrant (s : State) : Works s (reopenGrant s) := by
  unfold reopenGrant
  split
  · exact .of_still rfl rfl
  · exact .refl s
  · exact .refl s

theorem works_regrant {f : State → State} (h : ∀ s, Works s (f s)) (s : State) : Works s (regrant f s) :=
  .ite (((works_reopenGrant s).trans (h _)).trans (works_relayGrant _)) (h s)

theorem works_handRelay (e : RelayEntry) (s : State) : Works s (handRelay e s) :=
  works_regrant (fun s => works_setWaitList (s.pins.waitList ++ [e]) s) s

theorem works_toLoaded (k : Fin 32) (s : State) : Works s (toLoaded k s) := works_setSlot k _ s

theorem works_countRepetition (k : Fin 32) (s : State) : Works s (countRepetition k s) :=
  (works_setSlot k _ s).trans (.ite
    ((works_raiseFault k _).trans (.ite (works_toLoaded k _) (works_setSlot k _ _))) (works_setSlot k _ _))

theorem works_releaseDone (k : Fin 32) (s : State) : Works s (releaseDone k s) := by
  unfold releaseDone
  dsimp only
  refine (works_clearHolders k s).trans ?_
  split
  · exact works_countRepetition k _
  · exact works_toLoaded k _

theorem works_handRelease (k : Fin 32) (s : State) : Works s (handRelease k s) := by
  unfold handRelease
  split
  · exact works_releaseDone k s
  · split
    · exact works_handRelay _ s
    · exact (works_takeAway _ s).trans (works_releaseDone k _)

theorem works_returnSlot (o : SlotOutcome) (k : Fin 32) (s : State) : Works s (returnSlot o k s) := by
  unfold returnSlot
  refine .ite ?_ (.refl s)
  dsimp only
  refine (works_setSlot k { s.slot k with outcome := o } s).trans ?_
  split
  · exact works_toLoaded k _
  · exact works_toLoaded k _
  · exact ((works_closeWait k _).trans (works_clearHolders k _)).trans (works_toLoaded k _)
  · exact .ite (works_setSlot k _ _)
      (((works_setWaitList _ _).trans (works_clearHolders k _)).trans (works_toLoaded k _))
  · exact (works_setSlot k _ _).trans (works_handRelease k _)
  · exact works_setSlot k _ _
  · exact .refl _
  · exact .refl _
  · exact .refl _

theorem works_returnSlots (s : State) : Works s (returnSlots s) := by
  have all (s : State) : Works s (forEach allSlots (returnSlot .runEnded) s) := .forEach (works_returnSlot _) _ s
  have granted : Works s (returnGranted s) := by
    unfold returnGranted
    split
    · exact works_returnSlot _ _ s
    · exact .refl s
    · exact .refl s
  exact .ite (granted.trans (all _)) (works_regrant all s)

/-! ### The run's end -/

/-- The run's end in the Run Controller and the Rotation Generator (R44, R2). -/
def endNoted (r : EndReason) (s : State) : State :=
  rotationEnd (raiseRun .ended r { s with run := { s.run with state := .ended, endReason := r, holdTimer := none } })

/-- The run's end but for the slots' answer (R44). -/
def endBlocks (r : EndReason) (s : State) : State := forEach allChannels sourceEnd (endNoted r s)

theorem enterEnded_eq (r : EndReason) (s : State) : enterEnded r s = returnSlots (endBlocks r s) := rfl

theorem endBlocks_run (r : EndReason) (s : State) :
    (endBlocks r s).run = { s.run with state := .ended, endReason := r, holdTimer := none } := by
  unfold endBlocks
  rw [forEach_view (fun s => s.run) _ _ (fun n _ s => sourceEnd_run n s)]
  rfl

theorem sourceEnd_rest (n : Fin 16) (s : State) :
    ((sourceEnd n s).uptime, (sourceEnd n s).rot, (sourceEnd n s).faults, (sourceEnd n s).pins, (sourceEnd n s).sup)
      = (s.uptime, s.rot, s.faults, s.pins, s.sup) := by
  unfold sourceEnd raiseCause
  dsimp only
  split
  · split <;> rfl
  · rfl

theorem sources_rest (s : State) :
    (forEach allChannels sourceEnd s).uptime = s.uptime ∧ (forEach allChannels sourceEnd s).rot = s.rot
      ∧ (forEach allChannels sourceEnd s).faults = s.faults ∧ (forEach allChannels sourceEnd s).pins = s.pins
      ∧ (forEach allChannels sourceEnd s).sup = s.sup := by
  have rest := forEach_view (fun s : State => (s.uptime, s.rot, s.faults, s.pins, s.sup)) allChannels sourceEnd
    (fun n _ s => sourceEnd_rest n s) s
  simpa only [Prod.mk.injEq] using rest

theorem endBlocks_rest (r : EndReason) (s : State) :
    (endBlocks r s).uptime = s.uptime ∧ (endBlocks r s).rot = (rotationEnd s).rot ∧ (endBlocks r s).faults = s.faults
      ∧ (endBlocks r s).pins = s.pins ∧ (endBlocks r s).sup = s.sup := sources_rest (endNoted r s)

theorem endBlocks_chan (r : EndReason) (s : State) (n : Fin 16) : (endBlocks r s).chan n = (s.chan n).stopped := by
  refine forEach_at (fun s => s.chan n) Channel.stopped n _ _ (mem_allChannels n) nodup_allChannels
    (fun m _ hm s => ?_) (fun s => ?_) _
  · exact (sourceEnd_chan m s n).trans (if_neg (Ne.symm hm))
  · exact (sourceEnd_chan n s n).trans (if_pos rfl)

theorem sourceEnd_grows (n : Fin 16) (s : State) : s.ntc.Grows (sourceEnd n s).ntc := by
  unfold sourceEnd
  dsimp only
  split
  · exact (works_raiseCause n .starved s).grows
  · exact .refl _

theorem endBlocks_grows (r : EndReason) (s : State) : s.ntc.Grows (endBlocks r s).ntc := by
  have raised : s.ntc.Grows (endNoted r s).ntc := (works_raiseRun .ended r s).grows
  exact forEach_keeps (fun t => s.ntc.Grows t.ntc) allChannels sourceEnd (fun n _ t ht => ht.trans (sourceEnd_grows n t)) _ raised

theorem endBlocks_turns (r : EndReason) (s : State) : (endBlocks r s).rot.turns = stoppedTurns := by
  rw [(endBlocks_rest r s).2.1]
  rfl

theorem endBlocks_ended (r : EndReason) (s : State) : (endBlocks r s).run.state = .ended := by rw [endBlocks_run]

theorem ends_enterEnded (r : EndReason) (h : s.inRun = true) : Ends s (enterEnded r s) := by
  have answer := works_returnSlots (endBlocks r s)
  rw [enterEnded_eq]
  rcases answer.run with g | e
  · refine ⟨h, answer.ended (endBlocks_ended r s), g.turns.trans (endBlocks_turns r s), fun n => ?_⟩
    rw [← endBlocks_chan r s n]
    exact g.chan n
  · exact absurd (endBlocks_ended r s) (not_ended_of_inRun e.before)

theorem enterEnded_grows (r : EndReason) (s : State) : s.ntc.Grows (enterEnded r s).ntc :=
  (endBlocks_grows r s).trans (works_returnSlots _).grows

theorem sources_timers (s : State) : (forEach allChannels sourceEnd s).ntc.timers = s.ntc.timers := by
  have whole := forEach_view (fun t : State => t.ntc.timers) allChannels sourceEnd (fun n _ t => by
    unfold sourceEnd
    dsimp only
    split
    · exact (works_raiseCause n .starved t).timers
    · rfl) s
  simpa only using whole

theorem enterEnded_timers (r : EndReason) (s : State) : (enterEnded r s).ntc.timers = s.ntc.timers := by
  rw [enterEnded_eq, (works_returnSlots _).timers]
  unfold endBlocks
  rw [sources_timers]
  rfl

theorem works_enterEnded (r : EndReason) (h : s.inRun = true) : Works s (enterEnded r s) := by
  refine ⟨by rw [enterEnded_run], fun q => absurd h (Bool.eq_false_iff.mp q), enterEnded_grows r s, .inr (ends_enterEnded r h), enterEnded_timers r s⟩

theorem works_endCause (r : EndReason) (s : State) : Works s (endCause r s) := by
  unfold endCause
  split
  · next h => exact works_enterEnded r h
  · exact .refl s

theorem works_runningCause (r : EndReason) (s : State) : Works s (runningCause r s) := by
  unfold runningCause
  split
  · next h => exact works_enterEnded r (inRun_of_running h)
  · exact .refl s

theorem drainedNow_inRun (h : s.drainedNow = true) : s.inRun = true := by
  unfold State.drainedNow at h
  simp only [Bool.and_eq_true] at h
  exact h.1.1.2

theorem works_drainedTest (s : State) : Works s (drainedTest s) := by
  unfold drainedTest
  split
  · next h => exact works_enterEnded _ (drainedNow_inRun h)
  · exact .refl s

theorem works_handStarved (s : State) : Works s (handStarved s) :=
  Works.trans (t := underrunCause s) (.ite (works_runningCause _ s) (.refl s)) (works_drainedTest _)

theorem works_profileDrained (s : State) : Works s (profileDrained s) :=
  Works.trans (t := { s with rot := { s.rot with drained := true } })
    ⟨rfl, fun _ => rfl, .refl _, .inl ⟨id, rfl, fun _ => rfl⟩, rfl⟩ (works_raise (j := .speed) (by decide) _)

theorem works_profileEmptied (s : State) : Works s (profileEmptied s) :=
  .ite ((works_profileDrained s).trans (works_drainedTest _)) (.refl s)

theorem works_drainAtStart (s : State) : Works s (drainAtStart s) :=
  .ite (works_profileEmptied s) (.ite (works_raise (j := .speed) (by decide) s) (.refl s))

theorem works_pointEnd (s : State) : Works s (pointEnd s) := by
  refine .ite (Works.trans (t := { s with rot := { s.rot with active := none } }) ?_ (works_profileEmptied _)) (.refl s)
  exact ⟨rfl, fun _ => rfl, .refl _, .inl ⟨id, rfl, fun _ => rfl⟩, rfl⟩

/-! ### A slot's apply -/

/-- A change of the run that neither enters nor leaves an end is the run's alone. -/
theorem Works.of_run {r : Run} (h : s.inRun = true) (goes : r.state ≠ .ended) (work : r.work = s.run.work) :
    Works s { s with run := r } :=
  ⟨work, fun q => absurd h (Bool.eq_false_iff.mp q), .refl _, .inl ⟨fun e => absurd e goes, rfl, fun _ => rfl⟩, rfl⟩

theorem works_enterHeld (h : s.run.state = .running) : Works s (enterHeld s) := by
  unfold enterHeld
  refine Works.trans ?_ (works_raiseRun .held .none _)
  exact .of_run (inRun_of_running h) nofun rfl

theorem works_takeHold (s : State) : Works s (takeHold s) := by
  rcases takeHold_cases s with ⟨_, e⟩ | ⟨running, _, e⟩ | ⟨running, _, e⟩
  · rw [e]
    exact .refl s
  · rw [e]
    exact .of_run (inRun_of_running running) (by simp [running]) rfl
  · rw [e]
    exact works_enterHeld running

theorem works_releaseEvent (e : ReleaseEvent) (s : State) : Works s (releaseEvent e s) := by
  by_cases held : s.run.state = .held
  · rw [releaseEvent_of_held e s held]
    refine Works.trans ?_ (works_raiseRun .running .none _)
    exact .of_run (inRun_of_held held) nofun rfl
  · by_cases running : s.run.state = .running
    · rw [releaseEvent_of_running e s running]
      exact .of_run (inRun_of_running running) (by simp [running]) rfl
    · rw [releaseEvent_of_neither e s held running]
      exact .refl s

theorem works_conflict (k : Fin 32) (s : State) : Works s (conflict k s) :=
  ((works_setSlot k _ s).trans (works_raiseFault k _)).trans (works_countRepetition k _)

theorem works_runAction (k : Fin 32) (s : State) : Works s (runAction k s) :=
  (works_setSlot k _ s).trans (works_countRepetition k _)

theorem works_applySwitch (k : Fin 32) (p : Fin 24) (ground aligned : Bool) (s : State) :
    Works s (applySwitch k p ground aligned s) :=
  .ite ((works_setWait p _ s).trans (works_setSlot k _ _)) ((works_setPath p _ s).trans (works_setSlot k _ _))

theorem works_applyRelay (k : Fin 32) (path : RelayPath) (s : State) : Works s (applyRelay k path s) :=
  (works_setSlot k _ s).trans (works_handRelay _ _)

theorem works_proceed (k : Fin 32) (r : FaultRecord) (s : State) : Works s (proceed k r s) := by
  unfold proceed
  dsimp only
  cases r.action with
  | openPin | shortGnd => exact works_applySwitch ..
  | shortSupply | bridge => exact works_applyRelay ..
  | freeze | force | offset => exact (works_setModifier _ _ s).trans (works_setSlot k _ _)
  | toothDrop | crankShift => exact (works_setCrankMod _ s).trans (works_setSlot k _ _)
  | camHold | camShift => exact (works_setCamMod _ _ s).trans (works_setSlot k _ _)
  | battDrop | ignDrop => exact (works_settleFeeds s).trans (works_setSlot k _ _)
  | holdRun => exact (works_runAction k s).trans (works_takeHold _)
  | endRun => exact (works_runAction k s).trans (works_endCause _ _)

theorem works_applySlot (k : Fin 32) (s : State) : Works s (applySlot k s) := by
  unfold applySlot
  split
  · exact .refl s
  · exact .ite (works_conflict k s) ((works_takeHolders k _ s).trans (works_proceed k _ _))

theorem works_fire (k : Fin 32) (s : State) : Works s (fire k s) := by
  have staged : Works s (takeStaged k s) := by
    unfold takeStaged
    dsimp only
    split <;> exact works_setSlot k _ s
  unfold fire
  refine staged.trans ?_
  dsimp only
  split
  · exact .refl _
  · exact .ite (works_applySlot k _) (works_setSlot k _ _)

theorem works_runTrigger (k : Fin 32) (s : State) : Works s (runTrigger k s) := by
  have marked : Works s (markLate k s) := by
    unfold markLate
    split
    · exact works_setSlot k _ s
    all_goals exact .refl s
  exact .ite (marked.trans (works_fire k _)) (.refl s)

theorem works_offerEdge (i : Fin 10) (d : Edge) (k : Fin 32) (s : State) : Works s (offerEdge i d k s) := by
  unfold offerEdge
  refine .ite ?_ (.refl s)
  split
  · exact .ite ((works_setSlot k _ s).trans (.ite (works_fire k _) (.refl _))) (.refl s)
  · exact .ite (works_fire k s) (.refl s)
  all_goals exact .refl s

theorem works_setAligned (p : Fin 24) (timeout : Bool) (s : State) : Works s (setAligned p timeout s) := by
  unfold setAligned
  split
  · exact .refl s
  · exact ((works_setPath p _ s).trans (works_setWait p _ _)).trans (works_setSlot _ _ _)

theorem works_levelChange (src : LineSource) (s : State) : Works s (levelChange src s) :=
  .forEach (fun p s => .ite (works_setAligned p false s) (.refl s)) _ s

theorem works_delayEnd (k : Fin 32) (s : State) : Works s (delayEnd k s) := .ite (works_applySlot k s) (.refl s)

theorem works_widthItem (j : Fin 32) (w : WorkItem) (s : State) : Works s (widthItem j w s) := by
  unfold widthItem
  cases w with
  | release => exact .ite (works_handRelease j s) (.refl s)
  | slot k => exact .ite (works_fire k s) (.refl s)
  | _ => exact .refl s

theorem works_widthEnd (k : Fin 32) (order : List WorkItem) (s : State) : Works s (widthEnd k order s) :=
  .ite ((works_setSlot k _ s).trans (.forEach (works_widthItem k) _ _)) (.refl s)

/-! ### The items -/

theorem works_workItem {w : WorkItem} (h : w ≠ .pulses) (s : State) : Works s (workItem w s) := by
  unfold workItem
  cases w with
  | pulses => exact absurd rfl h
  | change src => exact works_levelChange src s
  | channelNotice n => exact works_raiseChannel n s
  | guardNotice n => exact works_raiseGuard n s
  | speedDrain => exact works_drainAtStart s
  | guardTrip => exact works_runningCause _ s
  | underrun => exact works_handStarved s
  | slot k => exact works_runTrigger k s
  | _ => exact .refl s

/-- With no run in progress an item changes nothing of the run (R41). -/
theorem workItem_quiet (w : WorkItem) {s : State} (h : s.inRun = false) : (workItem w s).run = s.run := by
  by_cases pulses : w = .pulses
  · subst pulses
    exact congrArg (·.1) (runPulses_bench s)
  · exact (works_workItem pulses s).quiet h

end Sys2Proof.Machine
end

section
/-! PROOFS. The run commands HOLD, RESUME, CLEAR and START, and the hold timer. -/

namespace Sys2Proof.Machine

open Sys2Proof.Safety

theorem holdTimeoutDue_of {s : State} {u : Nat} (timer : s.run.holdTimer = some u) :
    s.holdTimeoutDue = true ↔ s.run.state = .held ∧ u ≤ s.uptime := by
  simp [State.holdTimeoutDue, State.reached, timer]

/-- Settles O15: each is one case of the hold, of the release event or of CLEAR, by the run state. -/
theorem holdsReleasesAndClear : Obligations.HoldsReleasesAndClear := by
  refine ⟨fun s => ⟨fun hr hf => ?_, fun hr hf => ?_, fun hr => ?_⟩, fun s => ⟨fun hh => ?_, fun hr => ?_, fun hh hr => ?_⟩,
    fun s u timer => ⟨fun hh hu => ?_, fun early => ?_⟩, fun s => ⟨fun hr hh => ?_, fun busy => ?_⟩⟩
  · refine next_answered (r := reqHold s) ?_ nofun nofun
    simp only [reqHold, takeHold, runAnswer, if_pos hr, hf]
    rfl
  · refine next_answered (r := reqHold s) ?_ nofun nofun
    simp only [reqHold, takeHold, runAnswer, hr, hf, if_true, skipHold]
    rfl
  · refine next_answered (r := reqHold s) ?_ nofun nofun
    rw [reqHold, if_neg hr]
    rfl
  · refine next_answered (r := reqResume s) ?_ nofun nofun
    rw [reqResume, inRun_of_held hh, releaseEvent_of_held _ s hh]
    rfl
  · refine next_answered (r := reqResume s) ?_ nofun nofun
    rw [reqResume, inRun_of_running hr, releaseEvent_of_running _ s hr]
    simp only [if_true, runAnswer, hr]
    rfl
  · refine next_answered (r := reqResume s) ?_ nofun nofun
    rw [reqResume, inRun_of_neither hh hr]
    rfl
  · show Host.Outcome.next (holdTimeout s) = _
    rw [holdTimeout, if_pos ((holdTimeoutDue_of timer).mpr ⟨hh, hu⟩), releaseEvent_of_held _ s hh]
    rfl
  · show Host.Outcome.next (holdTimeout s) = _
    rw [holdTimeout, if_neg]
    exact fun due => early.elim (absurd ((holdTimeoutDue_of timer).mp due).1)
      (fun soon => absurd ((holdTimeoutDue_of timer).mp due).2 (Nat.not_le.mpr soon))
  · refine next_answered (r := reqClear s) ?_ nofun nofun
    have quiet : (s.betweenRuns || s.run.state == .armed) = true := by
      cases e : s.run.state <;> simp_all [State.betweenRuns]
    rw [reqClear, if_pos quiet]
    rfl
  · refine next_answered (r := reqClear s) ?_ nofun nofun
    have running : (s.betweenRuns || s.run.state == .armed) = false := by
      rcases busy with e | e <;> simp [State.betweenRuns, e]
    rw [reqClear, running]
    rfl

/-! ### START (R28) -/

/-- The records of a run cleared, the clamped flags but for (R28). -/
def startRecords (s : State) : State :=
  { s with run := runStart s.run, rot := rotationStart s.run.config s.rot, cap := { s.cap with log := [] } }

/-- Every channel's clamped flag cleared (R77). -/
def clearClamped (s : State) : State := forEach allChannels (fun n s => s.setChan n { s.chan n with clamped := false }) s

theorem startRun_eq (s : State) : startRun s =
    if (clearClamped (startRecords (finishWork s))).run.state = .running
      then runStartEvent (clearClamped (startRecords (finishWork s))) else clearClamped (startRecords (finishWork s)) := rfl

theorem clearClamped_rest (s : State) : { clearClamped s with chans := s.chans } = s :=
  forEach_view (fun t : State => { t with chans := s.chans }) allChannels
    (fun n s => s.setChan n { s.chan n with clamped := false }) (fun _ _ _ => rfl) s

theorem clearClamped_chan (s : State) (n : Fin 16) : (clearClamped s).chan n = { s.chan n with clamped := false } := by
  refine forEach_at (fun s => s.chan n) (fun c => { c with clamped := false }) n _ _ (mem_allChannels n) nodup_allChannels
    (fun m _ hm s => ?_) (fun s => ?_) s
  · exact State.chan_setChan_other _ _ _ _ (Ne.symm hm)
  · exact State.chan_setChan_same _ _ _

theorem inRun_of_between {s : State} (h : between s) : s.inRun = false := by
  rcases h with e | e <;> simp [State.inRun, e]

/-- With no run in progress the items still to be taken change nothing of the run (R41). -/
theorem finishWork_run {s : State} (h : s.inRun = false) : (finishWork s).run = { s.run with work := [] } :=
  forEach_keeps (fun t => t.run = { s.run with work := [] }) s.run.work workItem
    (fun w _ t ht => (workItem_quiet w (by rw [State.inRun, ht]; exact h)).trans ht) (s.setWork []) rfl

theorem exec_start (s : State) : exec .start s = .next (respond 0x11 (reqStart s)) := rfl

theorem reqStart_of_between {s : State} (h : between s) : reqStart s = runAnswer .ok (startRun s) := by
  rw [reqStart, if_pos (betweenRuns_of h)]

theorem between_finishWork {s : State} (h : between s) : between (finishWork s) := by
  unfold between
  rw [finishWork_run (inRun_of_between h)]
  exact h

/-- What START makes of a state with nothing left of the run microsecond (R28, R2, R30, R77). -/
structure Started (s t : State) : Prop where
  run : t.run = runStart s.run
  rot : t.rot = rotationStart s.run.config s.rot
  cap : t.cap = { s.cap with log := [] }
  chan : ∀ n, t.chan n = { s.chan n with clamped := false }
  timers : ∀ l, getAt t.ntc.timers l =
    if s.run.config.startMode = .immediate ∧ getAt s.ntc.routes l = .startPulse then some (s.uptime + 9)
    else getAt s.ntc.timers l
  ntc : { t.ntc with timers := s.ntc.timers } = s.ntc
  rest : t.trace = s.trace ∧ t.faults = s.faults ∧ t.pins = s.pins ∧ t.sup = s.sup ∧ t.uptime = s.uptime ∧ t.link = s.link

theorem runStart_running (r : Run) : (runStart r).state = .running ↔ r.config.startMode = .immediate := by
  unfold runStart
  split
  · next h => exact iff_of_true rfl h
  · next h => exact iff_of_false nofun h

/-- What clearing the records and the clamped flags leaves (R28). -/
theorem clearClamped_startRecords (s : State) :
    (clearClamped (startRecords s)).run = runStart s.run
      ∧ (clearClamped (startRecords s)).rot = rotationStart s.run.config s.rot
      ∧ (clearClamped (startRecords s)).cap = { s.cap with log := [] }
      ∧ (clearClamped (startRecords s)).ntc = s.ntc ∧ (clearClamped (startRecords s)).trace = s.trace
      ∧ (clearClamped (startRecords s)).faults = s.faults ∧ (clearClamped (startRecords s)).pins = s.pins
      ∧ (clearClamped (startRecords s)).sup = s.sup ∧ (clearClamped (startRecords s)).uptime = s.uptime
      ∧ (clearClamped (startRecords s)).link = s.link := by
  have base := clearClamped_rest (startRecords s)
  generalize clearClamped (startRecords s) = v at base
  have field {α : Type} (f : State → α) : f { v with chans := (startRecords s).chans } = f (startRecords s) := congrArg f base
  exact ⟨field State.run, field State.rot, field State.cap, field State.ntc, field State.trace, field State.faults,
    field State.pins, field State.sup, field State.uptime, field State.link⟩

theorem started {s : State} (h : s.run.work = []) : Started s (startRun s) := by
  obtain ⟨run, rot, cap, ntc, trace, faults, pins, sup, uptime, link⟩ := clearClamped_startRecords s
  have chan (n : Fin 16) : (clearClamped (startRecords s)).chan n = { s.chan n with clamped := false } :=
    clearClamped_chan (startRecords s) n
  rw [startRun_eq, finishWork_of_none h]
  generalize clearClamped (startRecords s) = v at *
  by_cases now : v.run.state = .running
  · have immediate := (runStart_running s.run).mp (run ▸ now)
    rw [if_pos now]
    have pulse := pulseEvent_rest (fun r => r == .startPulse) v
    have timer := pulseEvent_timer (fun r => r == .startPulse) v
    unfold runStartEvent
    generalize pulseEvent (fun r => r == .startPulse) v = t at pulse timer
    have field {α : Type} (f : State → α) : f { t with ntc := { t.ntc with timers := v.ntc.timers } } = f v := congrArg f pulse
    refine ⟨(field State.run).trans run, (field State.rot).trans rot, (field State.cap).trans cap,
      fun n => (field (fun u => u.chan n)).trans (chan n), fun l => ?_, ?_, (field State.trace).trans trace,
      (field State.faults).trans faults, (field State.pins).trans pins, (field State.sup).trans sup,
      (field State.uptime).trans uptime, (field State.link).trans link⟩
    · rw [timer l, ntc, uptime]
      simp [immediate]
    · have same := field State.ntc
      rw [ntc] at same
      exact same
  · have later : s.run.config.startMode ≠ .immediate := fun e => now (run ▸ (runStart_running s.run).mpr e)
    rw [if_neg now]
    refine ⟨run, rot, cap, chan, fun l => ?_, by rw [ntc], trace, faults, pins, sup, uptime, link⟩
    rw [ntc]
    simp [later]

/-- Settles O14: what is left of the last microsecond is taken first and keeps the run; then every block is set as R28 gives. -/
theorem startBeginsARun : Obligations.StartBeginsARun := by
  refine fun s => ⟨fun hb => ?_, fun hb => ⟨?_, ?_⟩, fun hb hw => ?_⟩
  · refine next_answered (r := reqStart s) ?_ nofun nofun
    rw [reqStart, betweenRuns_of_not hb]
    rfl
  · have taken : (finishWork s).run.work = [] := by rw [finishWork_run (inRun_of_between hb)]
    rw [exec_start, exec_start, reqStart_of_between hb, reqStart_of_between (between_finishWork hb), startRun_eq (finishWork s),
      finishWork_of_none taken, startRun_eq]
  · rw [finishWork_run (inRun_of_between hb)]
  · obtain ⟨run, rot, cap, chan, timers, ntc, trace, faults, pins, sup, uptime, link⟩ := started hw
    rw [exec_start, reqStart_of_between hb]
    generalize startRun s = t at run rot cap chan timers ntc trace faults pins sup uptime link
    refine ⟨_, rfl, run.trans ?_, rot, cap, chan, timers, ntc, trace, faults, pins, sup, uptime, ?_⟩
    · unfold runStart
      cases s.run.config.startMode <;> rfl
    · show (answered 0x11 .ok [t.run.state.code] t).link = _
      unfold answered
      dsimp only
      rw [link, uptime]
      rfl

end Sys2Proof.Machine
end

section
/-! PROOFS. The Rotation Generator: the requests on the speed profile, the end of a point, and the line levels. -/

namespace Sys2Proof.Machine

open Sys2Proof.Safety

variable {s t : State}

/-! ### The drained condition (R43) -/

/-- Every enabled STREAM channel is STARVED with nothing queued. -/
def Dry (s : State) : Prop :=
  ∀ n, (s.chan n).enable = true → (s.chan n).mode = .stream → (s.chan n).state = .starved ∧ (s.chan n).queue = []

theorem undrained_eq_false_iff {c : Channel} :
    c.undrained = false ↔ (c.enable = true → c.mode = .stream → c.state = .starved ∧ c.queue = []) := by
  unfold Channel.undrained
  cases c.enable <;> simp

theorem drainedNow_iff : s.drainedNow = true ↔
    s.run.config.endOnDrain = true ∧ s.inRun = true ∧ s.rot.drained = true ∧ Dry s := by
  simp only [State.drainedNow, Bool.and_eq_true, and_assoc, List.all_eq_true, Bool.not_eq_true', undrained_eq_false_iff]
  refine and_congr_right fun _ => and_congr_right fun _ => and_congr_right fun _ => ?_
  exact ⟨fun h n => h n (mem_allChannels n), fun h n _ => h n⟩

theorem drainedTest_of (h : s.drainedNow = true) : drainedTest s = enterEnded .drained s := if_pos h

theorem drainedTest_of_not (h : ¬ (s.run.config.endOnDrain = true ∧ s.inRun = true ∧ s.rot.drained = true ∧ Dry s)) :
    drainedTest s = s := if_neg (mt drainedNow_iff.mp h)

theorem isPending_run_endNoted (r : EndReason) (s : State) : (endNoted r s).isPending .run = true := by
  unfold endNoted rotationEnd raiseRun
  exact isPending_raise_self .run { s with run := { s.run with state := .ended, endReason := r, holdTimer := none } }

theorem grows_sources (s : State) : s.ntc.Grows (forEach allChannels sourceEnd s).ntc :=
  forEach_keeps (fun t => s.ntc.Grows t.ntc) allChannels sourceEnd (fun n _ t ht => ht.trans (sourceEnd_grows n t)) s (.refl _)

theorem isPending_run_enterEnded (r : EndReason) (s : State) : (enterEnded r s).isPending .run = true := by
  have sources : (endNoted r s).ntc.Grows (endBlocks r s).ntc := by
    unfold endBlocks
    exact grows_sources _
  have slots : (endBlocks r s).ntc.Grows (enterEnded r s).ntc := by
    rw [enterEnded_eq]
    exact (works_returnSlots _).grows
  exact (sources.trans slots).pending NoticeKind.run.bit (isPending_run_endNoted r s)

theorem isPending_enterEnded {k : NoticeKind} (r : EndReason) (h : s.isPending k = true) : (enterEnded r s).isPending k = true :=
  (enterEnded_grows r s).pending _ h

theorem enterEnded_state (r : EndReason) (s : State) : (enterEnded r s).run.state = .ended ∧ (enterEnded r s).run.endReason = r := by
  rw [enterEnded_run]
  exact ⟨rfl, rfl⟩

/-- A drained profile that ends the run has raised SPEED and RUN (R10, R43). -/
theorem drainedEnd (s : State) :
    (enterEnded .drained (profileDrained s)).run.state = .ended ∧ (enterEnded .drained (profileDrained s)).run.endReason = .drained
      ∧ (enterEnded .drained (profileDrained s)).isPending .speed = true
      ∧ (enterEnded .drained (profileDrained s)).isPending .run = true := by
  obtain ⟨state, reason⟩ := enterEnded_state .drained (profileDrained s)
  have speed : (profileDrained s).isPending .speed = true := isPending_raise_self .speed _
  exact ⟨state, reason, isPending_enterEnded .drained speed, isPending_run_enterEnded .drained _⟩

theorem profileEmptied_of (run : s.inRun = true) (active : s.rot.active = none) (queue : s.rot.queue = [])
    (drained : s.rot.drained = false) : profileEmptied s = drainedTest (profileDrained s) := by
  simp [profileEmptied, State.profileEmpty, run, active, queue, drained]

theorem profileEmptied_of_not (h : s.inRun = false ∨ s.rot.active.isNone = false ∨ s.rot.queue ≠ [] ∨ s.rot.drained = true) :
    profileEmptied s = s := by
  rcases h with h | h | h | h <;> simp [profileEmptied, State.profileEmpty, h]

theorem drainedNow_profileDrained : (profileDrained s).drainedNow = true ↔
    s.run.config.endOnDrain = true ∧ s.inRun = true ∧ Dry s := by
  rw [drainedNow_iff]
  exact ⟨fun ⟨config, run, _, dry⟩ => ⟨config, run, dry⟩, fun ⟨config, run, dry⟩ => ⟨config, run, rfl, dry⟩⟩

/-! ### SPEED-PUSH (R8) -/

theorem reqSpeedPush_refused {count : Nat} {ps : List RawPoint} (length : ps.length = count) (h : count = 0 ∨ 4 < count) :
    reqSpeedPush count ps s = refuse s .badField s.speedDepth := by
  rw [reqSpeedPush, if_neg (not_not_intro length), if_pos]
  exact h.elim .inl fun h => .inr (.inl h)

theorem reqSpeedPush_eq {count : Nat} {ps : List RawPoint} (length : ps.length = count) (low : 1 ≤ count) (high : count ≤ 4)
    (range : ps.all pointInRange = true) : reqSpeedPush count ps s =
      if 16 < s.rot.queue.length + count then refuse s .queueFull s.speedDepth
      else ({ s with rot := { s.rot with queue := s.rot.queue ++ ps.map storedPoint, drained := false } },
        { status := if ps.any (fun p => decide (192000 < p.target)) then .clamped else .ok,
          body := le 1 (s.rot.queue ++ ps.map storedPoint).length }) := by
  rw [reqSpeedPush, if_neg (not_not_intro length), if_neg]
  · rfl
  · rintro (h | h | h)
    · omega
    · omega
    · exact absurd range (Bool.eq_false_iff.mp h)

theorem any_above_eq (ps : List RawPoint) :
    (if ps.any (fun p => decide (192000 < p.target)) then Status.clamped else .ok)
      = if ps.all (fun p => decide (p.target ≤ 192000)) then .ok else .clamped := by
  have flip : ps.any (fun p => decide (192000 < p.target)) = !ps.all (fun p => decide (p.target ≤ 192000)) := by
    rw [List.not_all_eq_any_not]
    congr 1
    funext p
    rw [← decide_not, decide_eq_decide, Nat.not_le]
  rw [flip]
  cases ps.all (fun p => decide (p.target ≤ 192000)) <;> rfl

/-- Settles O5: by the request's checks in their order. -/
theorem speedPushAppendsOrRefuses : Obligations.SpeedPushAppendsOrRefuses := by
  intro count ps s inRange
  have range : ps.all pointInRange = true := List.all_eq_true.mpr fun p hp => by
    obtain ⟨ramp, hold⟩ := inRange p hp
    simp [pointInRange, Config.max24, ramp, hold]
  refine ⟨fun length => ?_, fun length bad => ?_, fun length low high full => ?_, fun length low high room => ?_⟩
  · refine next_badLength (r := reqSpeedPush count ps s) (body := []) ?_
    rw [reqSpeedPush, if_pos length]
    rfl
  · refine next_answered (r := reqSpeedPush count ps s) ?_ nofun nofun
    rw [reqSpeedPush_refused length bad]
    rfl
  · refine next_answered (r := reqSpeedPush count ps s) ?_ nofun nofun
    rw [reqSpeedPush_eq length low high range, if_pos full]
    rfl
  · refine next_answered (r := reqSpeedPush count ps s) ?_ (by split <;> nofun) (by split <;> nofun)
    rw [reqSpeedPush_eq length low high range, if_neg (Nat.not_lt.mpr room), any_above_eq, List.length_append,
      List.length_map, length]
    rfl

/-! ### SPEED-FLUSH (R9) -/

/-- The profile after a SPEED-FLUSH, before it is found empty. -/
def flushedProfile (f : Nat) (s : State) : State :=
  { s with rot := { s.rot with queue := [], active := if f = 1 then none else s.rot.active } }

/-- A SPEED-FLUSH takes something from the profile and leaves it empty in a run. -/
def flushEmpties (f : Nat) (s : State) : Bool :=
  (decide (f = 1) && s.rot.active.isSome || !s.rot.queue.isEmpty) && s.inRun && (flushedProfile f s).rot.active.isNone
    && !s.rot.drained

/-- What a SPEED-FLUSH answers. -/
def flushBody (f : Nat) (s : State) : List Byte :=
  le 1 s.rot.queue.length ++ [if decide (f = 1) && s.rot.active.isSome then 1 else 0]

theorem reqSpeedFlush_eq {f : Nat} (h : f < 2) : reqSpeedFlush f s =
    (if flushEmpties f s then drainedTest (profileDrained (flushedProfile f s)) else flushedProfile f s,
      { status := .ok, body := flushBody f s }) := by
  have state : { s with rot := { s.rot with queue := [], active := if decide (f = 1) then none else s.rot.active } }
      = flushedProfile f s := by
    unfold flushedProfile
    simp only [decide_eq_true_eq]
  have some_left : decide (0 < s.rot.queue.length) = !s.rot.queue.isEmpty := by cases s.rot.queue <;> simp
  rw [reqSpeedFlush, flag?_of_le (Nat.le_of_lt_succ h)]
  dsimp only
  rw [state, some_left]
  refine congrArg₂ Prod.mk ?_ rfl
  unfold flushEmpties
  cases taken : (decide (f = 1) && s.rot.active.isSome || !s.rot.queue.isEmpty)
  · rfl
  · have empty : (flushedProfile f s).profileEmpty = ((flushedProfile f s).rot.active.isNone && !s.rot.drained) := by
      unfold State.profileEmpty
      show ((flushedProfile f s).rot.active.isNone && true && !s.rot.drained) = _
      rw [Bool.and_true]
    rw [if_pos rfl, profileEmptied, empty, Bool.true_and, ← Bool.and_assoc]
    rfl

/-- A request that answers OK changes the link as its answer gives. -/
theorem respond_ok_link {kind : Byte} {body : List Byte} {v : State} (h : v.still = s.still) :
    (respond kind (v, { status := .ok, body := body })).link = (answered kind .ok body s).link := by
  rw [respond_answered kind .ok body v nofun nofun]
  unfold answered
  dsimp only
  rw [State.still_link h, State.still_uptime h]

/-- Settles O6: the flush, then the profile found empty, then the drained test. -/
theorem speedFlushEmptiesTheQueue : Obligations.SpeedFlushEmptiesTheQueue := by
  intro f s
  dsimp only
  refine ⟨fun hf => ?_, fun hf h => ?_, fun hf config empties dry => ?_, fun hf => ?_⟩
  · refine next_answered (r := reqSpeedFlush f s) ?_ nofun nofun
    rw [reqSpeedFlush, flag?_eq_none hf]
    rfl
  · refine next_answered (r := reqSpeedFlush f s) ?_ nofun nofun
    rw [reqSpeedFlush_eq hf]
    refine congrArg₂ Prod.mk ?_ rfl
    cases empties : flushEmpties f s with
    | false => exact (if_neg (Bool.eq_false_iff.mp empties)).symm
    | true =>
      refine Eq.trans ?_ (if_pos empties).symm
      rw [if_pos rfl, drainedTest]
      refine if_neg fun drained => ?_
      obtain ⟨config, _, dry⟩ := drainedNow_profileDrained.mp drained
      rcases h with h | h | h
      · exact absurd config (Bool.eq_false_iff.mp h)
      · exact absurd empties (Bool.eq_false_iff.mp h)
      · exact h dry
  · have empties : flushEmpties f s = true := empties
    have run : s.inRun = true := by
      unfold flushEmpties at empties
      simp only [Bool.and_eq_true] at empties
      exact empties.1.1.2
    refine ⟨_, rfl, ?_⟩
    rw [reqSpeedFlush_eq hf, if_pos empties, drainedTest_of ((drainedNow_profileDrained (s := flushedProfile f s)).mpr ⟨config, run, dry⟩)]
    have facts := drainedEnd (flushedProfile f s)
    generalize enterEnded .drained (profileDrained (flushedProfile f s)) = e at facts
    exact facts
  · refine ⟨_, rfl, ?_⟩
    rw [reqSpeedFlush_eq hf]
    have calm : Calm (flushedProfile f s)
        (if flushEmpties f s then drainedTest (profileDrained (flushedProfile f s)) else flushedProfile f s) :=
      .ite ((calm_profileDrained _).trans (calm_drainedTest _)) (.refl _)
    generalize (if flushEmpties f s then drainedTest (profileDrained (flushedProfile f s)) else flushedProfile f s) = v at calm
    have still : v.still = s.still := calm.still
    refine ⟨calm.rotQueue, fun h1 => ?_, (State.still_trace still : v.trace = s.trace),
      (State.still_cap still : v.cap = s.cap), respond_ok_link still⟩
    rcases calm.active with e | e
    · exact e.trans (if_pos h1)
    · exact e

/-! ### The end of a speed point (R6) -/

theorem pointEndDue_of {a : ActivePoint} (h : s.rot.active = some a) :
    s.pointEndDue = decide (max 1 (a.point.ramp + a.point.hold) ≤ a.k) := by
  simp [State.pointEndDue, SpeedPoint.length, h]

theorem exec_speedPointEnd (s : State) : exec .speedPointEnd s = .next (pointEnd s) := rfl

/-- Settles O7: the point's end, then the profile found empty, then the drained test. -/
theorem speedPointEndsAtItsLength : Obligations.SpeedPointEndsAtItsLength := by
  intro a s active
  dsimp only
  have due := pointEndDue_of active
  refine ⟨fun early => ?_, fun played => ⟨fun h => ?_, fun queue run drained => ?_⟩⟩
  · rw [exec_speedPointEnd, pointEnd, due, decide_eq_false (Nat.not_le.mpr early)]
    rfl
  · rw [exec_speedPointEnd, pointEnd, due, decide_eq_true played, if_pos rfl, profileEmptied_of_not]
    rcases h with h | h | h
    · exact .inr (.inr (.inl h))
    · exact .inl h
    · exact .inr (.inr (.inr h))
  · rw [exec_speedPointEnd, pointEnd, due, decide_eq_true played, if_pos rfl,
      profileEmptied_of (s := { s with rot := { s.rot with active := none } }) run rfl queue drained]
    refine ⟨fun h => ?_, fun config dry => ?_⟩
    · rw [drainedTest, if_neg]
      · rfl
      · intro now
        obtain ⟨config, _, dry⟩ := drainedNow_profileDrained.mp now
        exact h.elim (absurd config ∘ Bool.eq_false_iff.mp) fun wet => wet dry
    · refine ⟨_, rfl, ?_⟩
      rw [drainedTest_of ((drainedNow_profileDrained (s := { s with rot := { s.rot with active := none } })).mpr ⟨config, run, dry⟩)]
      exact drainedEnd _

/-! ### The crank line (R13, R14) -/

theorem crankAngle_eq_mul {w : Wheel} (h : 36000 % w.teeth = 0) : w.pitch * w.teeth = 36000 :=
  Nat.div_mul_cancel (Nat.dvd_of_mod_eq_zero h)

theorem inGap_iff {w : Wheel} {i : Nat} (first : ∀ g ∈ w.gaps, g.first < w.teeth ∧ g.count ≤ 3) (teeth : 4 ≤ w.teeth)
    (hi : i < w.teeth) : w.inGap i = true ↔ ∃ g ∈ w.gaps, ∃ j < g.count, (g.first + j) % w.teeth = i := by
  simp only [Wheel.inGap, List.any_eq_true, decide_eq_true_eq]
  refine exists_congr fun g => and_congr_right fun hg => ?_
  obtain ⟨low, count⟩ := first g hg
  constructor
  · intro h
    refine ⟨(i + w.teeth - g.first) % w.teeth, h, ?_⟩
    rw [Nat.add_mod_mod, show g.first + (i + w.teeth - g.first) = i + w.teeth by omega, Nat.add_mod_right, Nat.mod_eq_of_lt hi]
  · rintro ⟨j, hj, rfl⟩
    have back : ((g.first + j) % w.teeth + w.teeth - g.first) % w.teeth = j % w.teeth := by
      by_cases wrap : g.first + j < w.teeth
      · rw [Nat.mod_eq_of_lt wrap, show g.first + j + w.teeth - g.first = j + w.teeth by omega, Nat.add_mod_right]
      · have past : (g.first + j) % w.teeth = g.first + j - w.teeth := by
          rw [Nat.mod_eq_sub_mod (Nat.not_lt.mp wrap), Nat.mod_eq_of_lt (by omega)]
        rw [past, show g.first + j - w.teeth + w.teeth - g.first = j by omega]
    rw [back]
    exact (Nat.mod_le _ _).trans_lt hj

/-- The level of a set wheel at its position, with the tooth and the place in it. -/
theorem level_of_teeth {w : Wheel} (h : w.teeth ≠ 0) (m : Option CrankMod) (theta : Nat) :
    let p := (((theta : Int) - w.offset - CrankMod.shiftOf m) % 36000).toNat
    w.level m theta = (decide (p % w.pitch < w.duty) && !w.inGap (p / w.pitch) && !CrankMod.drops m (p / w.pitch)) := by
  intro p
  unfold Wheel.level
  rw [if_neg h]
  have place (q : Nat) : q - q / w.pitch * w.pitch = q % w.pitch := by rw [Nat.mul_comm, ← Nat.mod_eq_sub]
  dsimp only
  rw [place]
  rfl

theorem drops_iff {m : Option CrankMod} {i : Nat} : CrankMod.drops m i = true ↔ m = some (.toothDrop i) := by
  simp [CrankMod.drops]

theorem level_iff {w : Wheel} {m : Option CrankMod} {theta p : Nat}
    (position : p = (((theta : Int) - w.offset - CrankMod.shiftOf m) % 36000).toNat) (law : WheelLaw w) :
    w.level m theta = true ↔ w.teeth ≠ 0 ∧ p % w.pitch < w.duty
      ∧ (∀ g ∈ w.gaps, ∀ j < g.count, (g.first + j) % w.teeth ≠ p / w.pitch) ∧ m ≠ some (.toothDrop (p / w.pitch)) := by
  rcases law with zero | ⟨low, _, whole, _, _, _, _, gaps⟩
  · simp [Wheel.level, zero]
  · have set : w.teeth ≠ 0 := by omega
    have pitch : w.pitch * w.teeth = 36000 := crankAngle_eq_mul whole
    have tooth : p / w.pitch < w.teeth := by
      rw [Nat.div_lt_iff_lt_mul (Nat.pos_of_mul_pos_right (pitch ▸ (by decide) : 0 < w.pitch * w.teeth)), Nat.mul_comm, pitch]
      omega
    rw [level_of_teeth set, ← position]
    simp only [Bool.and_eq_true, decide_eq_true_eq, Bool.not_eq_true', Bool.eq_false_iff, ne_eq,
      inGap_iff (fun g hg => ⟨(gaps g hg).1, (gaps g hg).2.2⟩) low tooth, drops_iff]
    push Not
    exact ⟨fun ⟨⟨place, gap⟩, drop⟩ => ⟨set, place, gap, drop⟩, fun ⟨_, place, gap, drop⟩ => ⟨⟨place, gap⟩, drop⟩⟩

/-- Settles O10: the level's three tests are the three conditions of R13 and R19. -/
theorem crankLevelFollowsTheTeeth : Obligations.CrankLevelFollowsTheTeeth := by
  intro w m theta law _
  have level := level_iff (m := m) (theta := theta) rfl law
  rcases m with _ | _ | _ <;> exact level

/-- The level at a position counted on past the revolution: the place within the tooth, and whether the tooth is there. -/
theorem level_at {w : Wheel} (teeth : w.teeth ≠ 0) (whole : w.pitch * w.teeth = 36000) (m : Option CrankMod) {theta x : Nat}
    (h : (x : Int) % 36000 = ((theta : Int) - w.offset - CrankMod.shiftOf m) % 36000) :
    w.level m (theta % 72000) = (decide (x % w.pitch < w.duty)
      && (!w.inGap (x / w.pitch % w.teeth) && !CrankMod.drops m (x / w.pitch % w.teeth))) := by
  have position : ((((theta % 72000 : Nat) : Int) - w.offset - CrankMod.shiftOf m) % 36000).toNat = x % 36000 := by omega
  have tooth : x % 36000 / w.pitch = x / w.pitch % w.teeth := by rw [← whole, Nat.mod_mul_right_div_self]
  have place : x % 36000 % w.pitch = x % w.pitch := by rw [← whole, Nat.mod_mul_right_mod]
  rw [level_of_teeth teeth, position, tooth, place, Bool.and_assoc]

/-- Over at most 8 centidegrees at most one part of a tooth begins: what reads the same at both ends reads the same between. -/
theorem no_part_between {pitch duty : Nat} (low : 8 ≤ duty) (high : duty + 8 ≤ pitch) (there : Nat → Bool) {x d j : Nat}
    (hd : d ≤ 8) (hj : j ≤ d)
    (same : (decide (x % pitch < duty) && there (x / pitch)) = (decide ((x + d) % pitch < duty) && there ((x + d) / pitch))) :
    (decide ((x + j) % pitch < duty) && there ((x + j) / pitch)) = (decide (x % pitch < duty) && there (x / pitch)) := by
  have pos : 0 < pitch := by omega
  have within (r i : Nat) (h : r < pitch) : (pitch * i + r) % pitch = r ∧ (pitch * i + r) / pitch = i :=
    ⟨by rw [Nat.mul_add_mod, Nat.mod_eq_of_lt h], by rw [Nat.mul_add_div pos, Nat.div_eq_of_lt h, Nat.add_zero]⟩
  obtain ⟨a, r, hr, rfl⟩ : ∃ a r, r < pitch ∧ x = pitch * a + r :=
    ⟨x / pitch, x % pitch, Nat.mod_lt _ pos, (Nat.div_add_mod x pitch).symm⟩
  rw [(within r a hr).1, (within r a hr).2] at same ⊢
  have at_step (i : Nat) (hi : i ≤ 8) : (r + i < pitch ∧ (pitch * a + r + i) % pitch = r + i ∧ (pitch * a + r + i) / pitch = a)
      ∨ (pitch ≤ r + i ∧ (pitch * a + r + i) % pitch = r + i - pitch ∧ (pitch * a + r + i) / pitch = a + 1) := by
    by_cases h : r + i < pitch
    · exact .inl ⟨h, Nat.add_assoc .. ▸ within (r + i) a h⟩
    · have next : pitch * a + r + i = pitch * (a + 1) + (r + i - pitch) := by rw [Nat.mul_add, Nat.mul_one]; omega
      exact .inr ⟨Nat.not_lt.mp h, next ▸ within (r + i - pitch) (a + 1) (by omega)⟩
  rcases at_step d hd with ⟨inside, place, tooth⟩ | ⟨outside, place, tooth⟩
  · rw [place, tooth] at same
    rcases at_step j (hj.trans hd) with ⟨_, place', tooth'⟩ | ⟨h, _⟩
    · rw [place', tooth']
      by_cases early : r + d < duty
      · rw [decide_eq_true (show r + j < duty by omega), decide_eq_true (show r < duty by omega)]
      · rw [decide_eq_false early, Bool.false_and] at same
        by_cases late : duty ≤ r
        · rw [decide_eq_false (show ¬ r + j < duty by omega), decide_eq_false (show ¬ r < duty by omega)]
        · rw [decide_eq_true (Nat.not_le.mp late), Bool.true_and] at same
          rw [same, Bool.and_false, Bool.and_false]
    · omega
  · have resting : ¬ r < duty := by omega
    rw [place, tooth, decide_eq_false resting, Bool.false_and, decide_eq_true (show r + d - pitch < duty by omega),
      Bool.true_and] at same
    rw [decide_eq_false resting, Bool.false_and]
    rcases at_step j (hj.trans hd) with ⟨_, place', tooth'⟩ | ⟨_, place', tooth'⟩
    · rw [place', decide_eq_false (show ¬ r + j < duty by omega), Bool.false_and]
    · rw [tooth', ← same, Bool.and_false]

/-- Settles O11: both parts of a tooth are at least 8 centidegrees long. -/
theorem noToothPartIsPassedUnseen : Obligations.NoToothPartIsPassedUnseen := by
  intro w m theta d j law hd hj same
  rcases law with zero | ⟨low, _, whole, _, duty, rest, _, _⟩
  · simp [Wheel.level, zero]
  · have set : w.teeth ≠ 0 := by omega
    have pitch : w.pitch * w.teeth = 36000 := crankAngle_eq_mul whole
    obtain ⟨x, hx⟩ : ∃ x : Nat, (x : Int) = ((theta : Int) - w.offset - CrankMod.shiftOf m) % 36000 :=
      ⟨_, Int.toNat_of_nonneg (Int.emod_nonneg _ (by decide))⟩
    have at_angle (i : Nat) := level_at set pitch m (theta := theta + i) (x := x + i) (by push_cast; omega)
    have first := level_at set pitch m (theta := theta) (x := x) (by omega)
    rw [first, at_angle] at same
    rw [first, at_angle]
    exact no_part_between duty rest (fun i => !w.inGap (i % w.teeth) && !CrankMod.drops m (i % w.teeth)) hd hj same

/-! ### The cam lines (R16) -/

/-- Settles O12: the last edge at or below the position is the last one left by the filter. -/
theorem camLevelFollowsTheEdges : Obligations.CamLevelFollowsTheEdges := by
  intro es theta _ _
  refine ⟨?_, ?_, ?_, fun _ => rfl, fun _ => rfl⟩
  · rintro rfl
    rfl
  · rintro a e b rfl he hb
    have after : b.filter (fun f => decide (f.angle ≤ theta)) = [] := by
      rw [List.filter_eq_nil_iff]
      exact fun f hf => by simpa using hb f hf
    simp [camLevel, camListLevel, List.filter_append, he, after]
  · intro e he below
    have all : es.filter (fun f => decide (f.angle ≤ theta)) = [] := by
      rw [List.filter_eq_nil_iff]
      exact fun f hf => by simpa using below f hf
    simp [camLevel, camListLevel, all, Option.mem_def.mp he]

end Sys2Proof.Machine
end

section
/-! PROOFS. The Capture Unit: the configuration of an input, the filter, the delivery of an accepted edge, and the capture
log. -/

namespace Sys2Proof.Machine

open Sys2Proof.Safety

variable {s t : State}

/-! ### CAPTURE-CONFIG and LINE-CONFIG (R94) -/

theorem parseInput_of_legal {c : RawInputConfig} (h : InputLegal c) :
    parseInput c = some (decide (c.enable = 1), c.interval, edgeOf c.edge) := by
  obtain ⟨enable, interval, edge⟩ := h
  unfold parseInput
  rw [flag?_of_le enable, EdgeSel.ofCode_of_le edge]
  exact if_pos interval

theorem parseInput_of_illegal {c : RawInputConfig} (h : ¬ InputLegal c) : parseInput c = none := by
  unfold parseInput
  by_cases enable : c.enable ≤ 1
  · by_cases edge : c.edge ≤ 2
    · rw [flag?_of_le enable, EdgeSel.ofCode_of_le edge]
      exact if_neg fun interval => h ⟨enable, interval, edge⟩
    · rw [flag?_of_le enable, EdgeSel.ofCode_of_gt (Nat.not_le.mp edge)]
  · rw [flag?_eq_none (Nat.not_le.mp enable)]

theorem configured_eq_inputStored (c : RawInputConfig) (now : Nat) (x : Input) :
    x.configured (decide (c.enable = 1)) c.interval (edgeOf c.edge) now = inputStored c now x := by
  unfold Input.configured inputStored
  simp only [decide_eq_true_eq]

theorem configInput_of_legal {c : RawInputConfig} {k : Fin 10} (hb : between s) (h : InputLegal c) :
    configInput (some k) c s = (s.setInput k (inputStored c s.uptime (s.input k)), .bare .ok) := by
  unfold configInput
  rw [if_pos (betweenRuns_of hb), parseInput_of_legal h]
  dsimp only
  rw [configured_eq_inputStored]

theorem configInput_of_illegal {c : RawInputConfig} {k : Option (Fin 10)} (hb : between s) (h : k = none ∨ ¬ InputLegal c) :
    configInput k c s = refuse s .badField [] := by
  unfold configInput
  rw [if_pos (betweenRuns_of hb)]
  rcases h with h | h
  · rw [h]
  · rw [parseInput_of_illegal h]
    cases k <;> rfl

theorem configInput_of_run (k : Option (Fin 10)) (c : RawInputConfig) (hb : ¬ between s) :
    configInput k c s = refuse s .wrongState [] := by
  unfold configInput
  rw [betweenRuns_of_not hb]
  rfl

theorem captureInput_none {c : RawInputConfig} (h : ¬ c.input < 8) : (if c.input ≤ 7 then index? 10 c.input else none) = none :=
  if_neg (by omega)

theorem lineInput_none {c : RawInputConfig} (h : ¬ c.input < 2) :
    (if c.input ≤ 1 then index? 10 (c.input + 8) else none) = none := if_neg (by omega)

/-- Settles O29: both requests configure one input by the same checks. -/
theorem inputConfigStoresAndRestarts : Obligations.InputConfigStoresAndRestarts := by
  refine fun c s => ⟨fun hb => ⟨?_, ?_⟩, fun hb => ⟨fun h => ?_, fun h => ?_, fun h k => ⟨fun hk hc => ?_, fun hc => ?_⟩⟩⟩
  · refine next_answered (r := reqCaptureConfig c s) ?_ nofun nofun
    exact configInput_of_run _ c hb
  · refine next_answered (r := reqLineConfig c s) ?_ nofun nofun
    exact configInput_of_run _ c hb
  · refine next_answered (r := reqCaptureConfig c s) ?_ nofun nofun
    refine configInput_of_illegal hb ?_
    by_cases hc : c.input < 8
    · exact .inr fun legal => h ⟨hc, legal⟩
    · exact .inl (captureInput_none hc)
  · refine next_answered (r := reqLineConfig c s) ?_ nofun nofun
    refine configInput_of_illegal hb ?_
    by_cases hc : c.input < 2
    · exact .inr fun legal => h ⟨hc, legal⟩
    · exact .inl (lineInput_none hc)
  · refine next_answered (r := reqCaptureConfig c s) ?_ nofun nofun
    rw [reqCaptureConfig, if_pos (by omega), index?_of_eq hc]
    exact configInput_of_legal hb h
  · refine next_answered (r := reqLineConfig c s) ?_ nofun nofun
    rw [reqLineConfig, if_pos (by omega), index?_of_eq hc]
    exact configInput_of_legal hb h

/-! ### The filter (R95, R96) -/

theorem sampleDue_iff {k : Fin 10} : s.sampleDue k = true ↔
    (s.input k).enable = true ∧ ∃ u, (s.input k).phase = some u ∧ u ≤ s.uptime := by
  simp [State.sampleDue, State.reached, Option.any_eq_true]

theorem pinLevel_of {k : Fin 10} {line lv : Bool} (hline : 8 ≤ k.val → lv = line)
    (htap : ∀ i : Fin 8, i.val = k.val → lv = s.tapLevel i line) : s.pinLevel k line = lv := by
  unfold State.pinLevel
  split
  · next h => exact (htap ⟨k.val, h⟩ rfl).symm
  · next h => exact (hline (Nat.not_lt.mp h)).symm

/-- The state with input `k` sampled: its new filter, the phase moved on, the level on its line. -/
def sampledInput (k : Fin 10) (line : Bool) (y : Input) (s : State) : State :=
  s.setInput k { y with phase := some (s.uptime + (s.input k).interval), wire := line }

theorem sampleInput_idle {k : Fin 10} (line : Bool) (order : List WorkItem)
    (h : ¬ ((s.input k).enable = true ∧ ∃ u, (s.input k).phase = some u ∧ u ≤ s.uptime)) : sampleInput k line order s = s :=
  if_neg (mt sampleDue_iff.mp h)

/-- A sample that accepts no edge. -/
theorem sampleInput_of_none {k : Fin 10} {line : Bool} {order : List WorkItem} {y : Input} (due : s.sampleDue k = true)
    (h : (s.input k).sample (s.pinLevel k line) = (y, none)) : sampleInput k line order s = sampledInput k line y s := by
  unfold sampleInput
  rw [if_pos due]
  dsimp only
  rw [h]
  rfl

/-- A sample that accepts an edge. -/
theorem sampleInput_of_some {k : Fin 10} {line : Bool} {order : List WorkItem} {y : Input} {d : Edge}
    (due : s.sampleDue k = true) (h : (s.input k).sample (s.pinLevel k line) = (y, some d)) :
    sampleInput k line order s =
      if (s.input k).edge.matches d then deliverEdge k d order (sampledInput k line y s) else sampledInput k line y s := by
  unfold sampleInput
  rw [if_pos due]
  dsimp only
  rw [h]
  rfl

theorem Input.sample_of_acquiring {x : Input} (lv : Bool) (h : x.acquire = true ∨ x.level = none) :
    x.sample lv = ({ x with level := some lv, agree := 0, acquire := false }, none) := by
  unfold Input.sample
  rcases h with h | h
  · rw [h]
  · rw [h]
    cases x.acquire <;> rfl

theorem Input.sample_of_agreeing {x : Input} {lv : Bool} (acquire : x.acquire = false) (level : x.level = some lv) :
    x.sample lv = ({ x with agree := 0 }, none) := by
  simp [Input.sample, acquire, level]

theorem Input.sample_of_counting {x : Input} {lv : Bool} (acquire : x.acquire = false) (level : x.level = some (!lv))
    (few : x.agree < 2) : x.sample lv = ({ x with agree := x.agree + 1 }, none) := by
  simp [Input.sample, acquire, level, few]

/-- The direction of the edge to a level. -/
def edgeTo (lv : Bool) : Edge := if lv then .rise else .fall

theorem Input.sample_of_third {x : Input} {lv : Bool} (acquire : x.acquire = false) (level : x.level = some (!lv))
    (many : 2 ≤ x.agree) : x.sample lv = ({ x with level := some lv, agree := 0 }, some (edgeTo lv)) := by
  simp [Input.sample, acquire, level, Nat.not_lt.mpr many, edgeTo]

theorem matches_edgeTo {e : EdgeSel} {lv : Bool} : e.matches (edgeTo lv) = true ↔ names e lv := by
  cases e <;> cases lv <;> simp [EdgeSel.matches, edgeTo, names]

theorem matches_edgeTo_of {e : EdgeSel} {lv : Bool} (h : names e lv) : e.matches (edgeTo lv) = true := matches_edgeTo.mpr h

/-- The state with the accepted level of input `k` moved to `lv`. -/
def acceptedInput (k : Fin 10) (line lv : Bool) (s : State) : State :=
  sampledInput k line { s.input k with level := some lv, agree := 0 } s

/-- The sample that accepts an edge its input's select names delivers it. -/
theorem sampleInput_of_accepts {k : Fin 10} {line lv : Bool} (order : List WorkItem) (level : s.pinLevel k line = lv)
    (h : Accepts (s.input k) lv s.uptime) :
    sampleInput k line order s = deliverEdge k (edgeTo lv) order (acceptedInput k line lv s) := by
  obtain ⟨enable, phase, acquire, old, many, named⟩ := h
  rw [sampleInput_of_some (sampleDue_iff.mpr ⟨enable, phase⟩) (by rw [level]; exact Input.sample_of_third acquire old many),
    if_pos (matches_edgeTo_of named)]
  rfl

theorem exec_inputSample (k : Fin 10) (line : Bool) (order : List WorkItem) (s : State) :
    exec (.inputSample k line order) s = .next (sampleInput k line order s) := rfl

/-! ### The level at a tap (R141, R143) -/

theorem tapPin_eq_none {i : Fin 8} (h : ∀ p, getAt s.pins.routed p ≠ .tap i) : s.tapPin i = none := by
  unfold State.tapPin
  rw [List.find?_eq_none]
  exact fun p _ => by simpa using h p

theorem pairwise_allPins : allPins.Pairwise (· < ·) := by decide

/-- The search finds the lowest pin mapped to the tap. -/
theorem tapPin_eq_some {i : Fin 8} {p : Fin 24} (h : getAt s.pins.routed p = .tap i)
    (first : ∀ q < p, getAt s.pins.routed q ≠ .tap i) : s.tapPin i = some p := by
  obtain ⟨before, behind, split⟩ := List.append_of_mem (mem_allPins p)
  unfold State.tapPin
  rw [List.find?_eq_some_iff_append]
  refine ⟨by simp [h], before, behind, split, fun q hq => ?_⟩
  have below : q < p := (List.pairwise_append.mp (split ▸ pairwise_allPins)).2.2 q hq p List.mem_cons_self
  simpa using first q below

theorem tapLevel_of_none {i : Fin 8} (line : Bool) (h : s.tapPin i = none) : s.tapLevel i line = false := by
  unfold State.tapLevel
  rw [h]

theorem tapLevel_of_some {i : Fin 8} {p : Fin 24} (line : Bool) (h : s.tapPin i = some p) :
    s.tapLevel i line = (s.contact p).imposes.getD line := by
  unfold State.tapLevel
  rw [h]

theorem contact_of_moving {p : Fin 24} (h : s.moving p = true) : s.contact p = .moving := if_pos h

theorem contact_of_normal {p : Fin 24} (still : s.moving p = false) (h : s.path p = .normal) : s.contact p = s.rigSide p := by
  simp [State.contact, still, h]

theorem contact_of_open {p : Fin 24} (still : s.moving p = false) (h : s.path p = .openPath) : s.contact p = .nothing := by
  simp [State.contact, still, h]

theorem contact_of_shortGnd {p : Fin 24} (still : s.moving p = false) (h : s.path p = .shortGnd) : s.contact p = .ground := by
  simp [State.contact, still, h]

theorem contact_of_shortSupply {p : Fin 24} (still : s.moving p = false) (h : s.path p = .shortSupply) :
    s.contact p = .battery s.sup.battAct := by
  simp [State.contact, still, h]

theorem contact_of_bridge {p q : Fin 24} (still : s.moving p = false) (h : s.path p = .bridge q) :
    s.contact p = if s.bridgeTarget p then s.rigSide p else s.rigSide q := by
  simp [State.contact, still, h]

theorem bridgeTarget_of {p a b : Fin 24} {k : Fin 32} {r : FaultRecord} (holder : s.holder (pinTarget p) = some k)
    (record : (s.slot k).record = some r) (action : r.action = .bridge a b) : s.bridgeTarget p = (a == p) := by
  simp [State.bridgeTarget, holder, record, action]

theorem rigSide_of_tap {p : Fin 24} {i : Fin 8} (h : getAt s.pins.routed p = .tap i) : s.rigSide p = .load i := by
  simp [State.rigSide, h]

theorem rigSide_of_line {p : Fin 24} {src : LineSource} (h : getAt s.pins.routed p = .line src) :
    s.rigSide p = .source (s.sourceOut src) := by
  simp [State.rigSide, h]

theorem drvEn_eq : s.drvEn = decide (s.sup.driver = .on) := by
  unfold State.drvEn
  exact beq_eq_decide ..

/-- With the drivers off no line of the part imposes a level. -/
theorem rigSide_imposes_of_off {q : Fin 24} (h : s.sup.driver ≠ .on) : (s.rigSide q).imposes = none := by
  have off : s.drvEn = false := by rw [drvEn_eq, decide_eq_false h]
  have high (on : Bool) (d : PinDrive) : s.driven on d = .highImpedance := by simp [State.driven, off]
  unfold State.rigSide
  cases getAt s.pins.routed q with
  | line src => cases src <;> simp [State.sourceOut, State.crankOut, State.camOut, State.channelOut, high, Contact.imposes]
  | tap => rfl
  | unused => rfl

theorem driven_level (h : s.sup.driver = .on) (b : Bool) : s.driven true (.level b) = .level b := by
  simp [State.driven, drvEn_eq, h]

/-- Settles O30: a sample with no edge to deliver, case by case. -/
theorem inputSampleMovesTheFilter : Obligations.InputSampleMovesTheFilter := by
  refine ⟨fun k line order u s => ⟨fun off => ?_, fun phase early => ?_, fun lv hline htap enable phase now =>
    ⟨fun acquire => ?_, fun acquire level => ?_, fun acquire level few => ?_, fun acquire level many unnamed => ?_⟩⟩,
    fun i line s => ⟨fun unmapped => ?_, fun p mapped first => ⟨fun moving => ?_, fun still => ⟨fun h => ?_, fun h => ?_, fun h => ?_,
      fun q k r path holder record => ⟨fun action => ?_, fun action apart => ⟨fun on src => ?_, fun c on src => ?_,
        fun n pulse on pin src => ?_, fun off => ?_⟩⟩⟩⟩⟩⟩
  · rw [exec_inputSample, sampleInput_idle]
    exact fun due => absurd due.1 (Bool.eq_false_iff.mp off)
  · rw [exec_inputSample, sampleInput_idle]
    rintro ⟨_, u', phase', past⟩
    obtain rfl : u = u' := Option.some.inj (phase.symm.trans phase')
    omega
  all_goals try
    have due : s.sampleDue k = true := sampleDue_iff.mpr ⟨enable, u, phase, now⟩
    have level_at_pin : s.pinLevel k line = lv := pinLevel_of hline htap
    rw [exec_inputSample]
  · rw [sampleInput_of_none due (by rw [level_at_pin]; exact Input.sample_of_acquiring lv acquire)]
    rfl
  · rw [sampleInput_of_none due (by rw [level_at_pin]; exact Input.sample_of_agreeing acquire level)]
    rfl
  · rw [sampleInput_of_none due (by rw [level_at_pin]; exact Input.sample_of_counting acquire level few)]
    rfl
  · rw [sampleInput_of_some due (by rw [level_at_pin]; exact Input.sample_of_third acquire level many),
      if_neg (mt matches_edgeTo.mp unnamed)]
    rfl
  · exact tapLevel_of_none line (tapPin_eq_none unmapped)
  all_goals rw [tapLevel_of_some line (tapPin_eq_some mapped first)]
  · rw [contact_of_moving moving]
    rfl
  · rcases h with h | h
    · rw [contact_of_normal still h, rigSide_of_tap mapped]
      rfl
    · rw [contact_of_open still h]
      rfl
  · rw [contact_of_shortGnd still h]
    rfl
  · rw [contact_of_shortSupply still h]
    cases s.sup.battAct <;> rfl
  · rw [contact_of_bridge still path, bridgeTarget_of holder record action, beq_self_eq_true, if_pos rfl, rigSide_of_tap mapped]
    rfl
  all_goals rw [contact_of_bridge still path, bridgeTarget_of holder record action, beq_false_of_ne apart.symm, if_neg nofun]
  · rw [rigSide_of_line src, State.sourceOut, State.crankOut, driven_level on]
    rfl
  · rw [rigSide_of_line src, State.sourceOut, State.camOut, driven_level on]
    rfl
  · rw [rigSide_of_line src, State.sourceOut, State.channelOut, pin, if_neg (Nat.not_lt.mpr pulse), driven_level on]
    rfl
  · rw [rigSide_imposes_of_off off]
    rfl

end Sys2Proof.Machine
end

section
/-! PROOFS. The capture log and the accepted edges: O34, O31, O32, O33. -/

namespace Sys2Proof.Machine

open Sys2Proof.Safety

variable {s t : State}

/-! ### Reading the log (R106, R108) -/

theorem exec_captureRead (n : Nat) (s : State) : exec (.captureRead n) s = .next (respond 0x41 (reqCaptureRead n s)) := rfl

theorem exec_runClockWrap (s : State) : exec .runClockWrap s = .next (clockWrap s) := rfl

/-- Settles O34: what is taken and what is left, and the wrap by whether some record is stamped above 0. -/
theorem recordsLeaveTheLog : Obligations.RecordsLeaveTheLog := by
  refine ⟨fun n s => ⟨fun out => ?_, fun low high => ?_⟩, fun s => ⟨fun still => ?_, fun due above => ?_, fun due zero => ?_⟩⟩
  · rw [exec_captureRead]
    refine next_answered (r := reqCaptureRead n s) (if_neg (by omega)) nofun nofun
  · rw [exec_captureRead]
    refine next_answered (r := reqCaptureRead n s) ((if_pos ⟨low, high⟩).trans ?_) nofun nofun
    dsimp only
    rw [List.length_take, List.length_drop, List.flatMap]
    rfl
  · rw [exec_runClockWrap, clockWrap, still, if_neg nofun]
  · rw [exec_runClockWrap, clockWrap, due, if_pos rfl]
    obtain ⟨r, mem, above⟩ := above
    have shorter : (s.cap.log.filter (fun r => r.clock == 0)).length < s.cap.log.length :=
      List.length_filter_lt_length_iff_exists.mpr ⟨r, mem, by simpa using above.ne'⟩
    exact congrArg _ (if_pos (decide_eq_true shorter))
  · rw [exec_runClockWrap, clockWrap, due, if_pos rfl]
    have same : s.cap.log.filter (fun r => r.clock == 0) = s.cap.log :=
      List.filter_eq_self.mpr fun r mem => by simpa using zero r mem
    refine congrArg _ ((if_neg ?_).trans rfl)
    rw [same]
    simp

/-! ### The deliveries of an edge -/

/-- A loop in which only the pass of one place does something. -/
theorem forEach_one {α : Type} {f : α → State → State} {xs : List α} {k : α} (mem : k ∈ xs) (nodup : xs.Nodup)
    (before : ∀ x ∈ xs, x ≠ k → f x s = s) (after : ∀ x ∈ xs, x ≠ k → f x (f k s) = f k s) : forEach xs f s = f k s := by
  obtain ⟨as, bs, rfl⟩ := List.append_of_mem mem
  have apart := (List.nodup_middle.mp nodup)
  have fresh : ∀ x ∈ as ++ bs, x ≠ k := fun x hx e => (List.nodup_cons.mp apart).1 (e ▸ hx)
  rw [forEach_append, forEach_id as f s fun x hx => before x (by simp [hx]) (fresh x (by simp [hx])), forEach_cons]
  exact forEach_id bs f _ fun x hx => after x (by simp [hx]) (fresh x (by simp [hx]))

theorem nodup_edgeItems : edgeItems.Nodup := by decide

theorem mem_edgeItems_slot (k : Fin 32) : WorkItem.slot k ∈ edgeItems :=
  List.mem_cons_of_mem _ (List.mem_map_of_mem (mem_allSlots k))

theorem offerEdge_idle {k : Fin 10} {d : Edge} {j : Fin 32} (h : (s.slot j).state ≠ .armed) : offerEdge k d j s = s := by
  unfold offerEdge State.looks
  rw [beq_false_of_ne h, Bool.false_and, if_neg nofun]

theorem runEdge_of_run {k : Fin 10} {d : Edge} (h : s.inRun = true) :
    runEdge k d s = if s.run.config.isLineRelease k d then releaseEvent .line s
      else if s.run.config.isCaptureRelease k d then releaseEvent .capture s else s := by
  have : s.run.state ≠ .armed := fun e => by simp [State.inRun, e] at h
  rw [runEdge, if_neg this]

/-- The edges of an accepted edge's deliveries raise notices, none of the capture log's. -/
theorem grows_edgeItem (st : RunState) (k : Fin 10) (d : Edge) (w : WorkItem) (s : State) :
    s.ntc.Grows (edgeItem st k d w s).ntc := by
  unfold edgeItem
  split
  · unfold runEdge
    split
    · split
      · exact .trans (b := (raiseRun .running .none { s with run := { s.run with state := .running } }).ntc)
          (works_raiseRun _ _ { s with run := { s.run with state := .running } }).grows (grows_pulseEvent _ _)
      · exact .refl _
    · split
      · exact (works_releaseEvent _ s).grows
      · split
        · exact (works_releaseEvent _ s).grows
        · exact .refl _
  · split
    · exact (works_offerEdge _ _ _ s).grows
    · exact .refl _
  all_goals exact .refl _

/-- The deliveries of an edge after it was written to the log. -/
def edgeItemsTaken (st : RunState) (k : Fin 10) (d : Edge) (order : List WorkItem) (s : State) : State :=
  forEach (orderItems order edgeItems) (edgeItem st k d) s

theorem deliverEdge_eq (k : Fin 10) (d : Edge) (order : List WorkItem) (s : State) :
    deliverEdge k d order s = edgeItemsTaken s.run.state k d order (logEdge k d s) := rfl

theorem calm_edgeItemsTaken (st : RunState) (k : Fin 10) (d : Edge) (order : List WorkItem) (s : State) :
    Calm s (edgeItemsTaken st k d order s) := .forEach (calm_edgeItem st k d) _ s

theorem grows_edgeItemsTaken (st : RunState) (k : Fin 10) (d : Edge) (order : List WorkItem) (s : State) :
    s.ntc.Grows (edgeItemsTaken st k d order s).ntc :=
  forEach_keeps (fun t => s.ntc.Grows t.ntc) _ _ (fun w _ t h => h.trans (grows_edgeItem st k d w t)) s (.refl _)

/-- Only the Run Controller answers the edge: it stands in no slot's way. -/
theorem edgeItemsTaken_of_no_slot {st : RunState} {k : Fin 10} {d : Edge} (order : List WorkItem)
    (slots : st = .running → ∀ j, (s.slot j).state ≠ .armed) (faults : (runEdge k d s).faults = s.faults) :
    edgeItemsTaken st k d order s = runEdge k d s := by
  have idle (t : State) (ht : t.faults = s.faults) (w : WorkItem) (hw : w ≠ .runControl) : edgeItem st k d w t = t := by
    cases w with
    | runControl => exact absurd rfl hw
    | slot j =>
      by_cases run : st = .running
      · have here : (t.slot j).state ≠ .armed := by
          rw [State.slot, ht]
          exact slots run j
        exact (if_pos run).trans (offerEdge_idle here)
      · exact if_neg run
    | _ => rfl
  exact forEach_one (f := edgeItem st k d) (own_mem_orderItems _ _ _ (List.mem_cons_self ..)) (nodup_orderItems nodup_edgeItems)
    (fun w _ hw => idle s rfl w hw) (fun w _ hw => idle _ faults w hw)

/-! ### The record (R99, R102 to R105) -/

/-- The record of the edge to `lv` on capture input `i` (R102). -/
def edgeRecord (i : Fin 8) (lv : Bool) (s : State) : CaptureRecord := s.record i (edgeTo lv) (decide (s.run.state = .held))

theorem logEdge_of_run {k : Fin 10} {i : Fin 8} (lv : Bool) (h : k.val = i.val) (run : s.inRun = true) :
    logEdge k (edgeTo lv) s = writeRecord (edgeRecord i lv s) s := by
  have at_i : (⟨k.val, h ▸ i.isLt⟩ : Fin 8) = i := Fin.ext h
  rw [logEdge, dif_pos (h ▸ i.isLt), if_pos run, at_i, edgeRecord, ← beq_eq_decide]

theorem logEdge_of_line {k : Fin 10} (d : Edge) (h : 8 ≤ k.val) : logEdge k d s = s := dif_neg (Nat.not_lt.mpr h)

theorem writeRecord_of_room {r : CaptureRecord} (h : s.cap.log.length < 512) : writeRecord r s =
    (if s.cap.log.length + 1 = s.ntc.threshold then raise .captureFill else id)
      { s with cap := { s.cap with log := s.cap.log ++ [r] } } := by
  rw [writeRecord, if_pos (show s.cap.log.length < Config.captureLog from h), raiseIf]
  by_cases full : s.cap.log.length + 1 = s.ntc.threshold
  · rw [if_pos full, if_pos (beq_iff_eq.mpr full)]
  · rw [if_neg full, if_neg (mt beq_iff_eq.mp full), id]

theorem writeRecord_of_full {r : CaptureRecord} (h : s.cap.log.length = 512) : writeRecord r s =
    raise .captureOverflow { s with cap := { s.cap with log := s.cap.log.dropLast ++ [{ r with replaced := true }] } } :=
  if_neg (by simp [h, Config.captureLog])

/-- What writing a record leaves alone. -/
def State.unlogged (s : State) :=
  (s.run, s.rot, s.faults, (s.trace, s.chans, s.pins, s.sup, s.link, s.uptime), s.ntc.runState, s.ntc.timers, s.ntc.routes)

theorem writeRecord_unlogged (r : CaptureRecord) (s : State) : (writeRecord r s).unlogged = s.unlogged := by
  unfold writeRecord raiseIf
  split
  · split <;> rfl
  · rfl

theorem logEdge_unlogged (k : Fin 10) (d : Edge) (s : State) : (logEdge k d s).unlogged = s.unlogged := by
  unfold logEdge
  split
  · split
    · exact writeRecord_unlogged ..
    · rfl
  · rfl

/-- With no slot armed and no release by an edge enabled the Run Controller does nothing either. -/
theorem runEdge_idle {k : Fin 10} {d : Edge} (run : s.inRun = true) (line : s.run.config.isLineRelease k d = false)
    (capture : s.run.config.isCaptureRelease k d = false) : runEdge k d s = s := by
  rw [runEdge_of_run run, line, capture, if_neg nofun, if_neg nofun]

theorem edgeItemsTaken_of_quiet {k : Fin 10} {d : Edge} (st : RunState) (order : List WorkItem) (run : s.inRun = true) (h : QuietEdges s) :
    edgeItemsTaken st k d order s = s := by
  obtain ⟨slots, line, capture⟩ := h
  have idle : runEdge k d s = s := runEdge_idle run (by simp [RunConfig.isLineRelease, line]) (by simp [RunConfig.isCaptureRelease, capture])
  rw [edgeItemsTaken_of_no_slot order (fun _ => slots) (by rw [idle]), idle]

/-- The deliveries leave the log and its notices as they were written. -/
theorem edgeItemsTaken_log (st : RunState) (k : Fin 10) (d : Edge) (order : List WorkItem) (w : State) :
    let t := edgeItemsTaken st k d order w
    t.cap = w.cap ∧ t.uptime = w.uptime ∧ t.trace = w.trace
      ∧ t.isPending .captureOverflow = w.isPending .captureOverflow ∧ t.isPending .captureFill = w.isPending .captureFill := by
  have calm := calm_edgeItemsTaken st k d order w
  have grows := grows_edgeItemsTaken st k d order w
  exact ⟨State.still_cap calm.still, calm.uptime, State.still_trace calm.still, grows.log _ (.inr rfl), grows.log _ (.inl rfl)⟩

/-- Settles O31: the record is written before the deliveries, which leave the log and its notices alone. -/
theorem captureEdgeIsRecorded : Obligations.CaptureEdgeIsRecorded := by
  intro i line order u s k hk x lv r sampled appended newest run enable phase now acquire level many named
  have level_at_pin : s.pinLevel k line = lv := pinLevel_of (fun h => absurd i.isLt (by omega)) fun j hj => by
    rw [Fin.ext (hj.trans hk) (a := j) (b := i)]
  have accepts : Accepts (s.input k) lv s.uptime := ⟨enable, ⟨u, phase, now⟩, acquire, level, many, named⟩
  have inRun : (acceptedInput k line lv s).inRun = true := run.elim inRun_of_running inRun_of_held
  rw [exec_inputSample, sampleInput_of_accepts order level_at_pin accepts, deliverEdge_eq, logEdge_of_run lv hk inRun]
  generalize (acceptedInput k line lv s).run.state = st
  generalize hw : writeRecord _ _ = w
  obtain ⟨cap, uptime, trace, overflow, fill⟩ := edgeItemsTaken_log st k (edgeTo lv) order w
  have quiet_items (h : QuietEdges w) (run : w.inRun = true) := edgeItemsTaken_of_quiet (k := k) (d := edgeTo lv) st order run h
  refine ⟨fun room => ?_, fun full => ?_⟩
  · rw [writeRecord_of_room (show (acceptedInput k line lv s).cap.log.length < 512 from room)] at hw
    change (if s.cap.log.length + 1 = s.ntc.threshold then raise .captureFill else id) appended = w at hw
    by_cases full : s.cap.log.length + 1 = s.ntc.threshold
    · rw [if_pos full] at hw ⊢
      subst hw
      refine ⟨⟨_, rfl, cap, uptime, trace, overflow.trans ?_, ?_⟩, fun quiet => ?_⟩
      · exact (isPending_raise ..).trans (Bool.or_false _)
      · rw [fill, isPending_raise_self]
        simp [full]
      · rw [quiet_items quiet inRun]
    · rw [if_neg full] at hw ⊢
      subst hw
      refine ⟨⟨_, rfl, cap, uptime, trace, overflow, ?_⟩, fun quiet => ?_⟩
      · rw [fill, or_iff_left full]
        rfl
      · rw [quiet_items quiet inRun]
  · rw [writeRecord_of_full (show (acceptedInput k line lv s).cap.log.length = 512 from full)] at hw
    change raise .captureOverflow newest = w at hw
    subst hw
    refine ⟨⟨_, rfl, cap, uptime, trace, overflow.trans (isPending_raise_self ..), fill.trans ?_⟩, fun quiet => ?_⟩
    · exact (isPending_raise ..).trans (Bool.or_false _)
    · rw [quiet_items quiet inRun]

/-! ### The start edge (R29) -/

/-- What the start edge does: the run is RUNNING, RUN is raised and the START_PULSE routes are reached. -/
theorem startEdge_facts (s : State) :
    (startEdge s).run = { s.run with state := .running } ∧ (startEdge s).isPending .run = true
      ∧ (startEdge s).ntc.runState = .running ∧ (startEdge s).ntc.runReason = .none
      ∧ (∀ l, getAt (startEdge s).ntc.timers l =
          if getAt s.ntc.routes l = .startPulse then some (s.uptime + 9) else getAt s.ntc.timers l)
      ∧ (startEdge s).faults = s.faults ∧ (startEdge s).cap = s.cap ∧ (startEdge s).rot = s.rot
      ∧ (startEdge s).chans = s.chans ∧ (startEdge s).pins = s.pins ∧ (startEdge s).sup = s.sup
      ∧ (startEdge s).link = s.link := by
  unfold startEdge runStartEvent
  have run_pending := isPending_raise_self .run { s with run := { s.run with state := .running } }
  have rest := pulseEvent_rest (fun r => r == .startPulse) (raiseRun .running .none { s with run := { s.run with state := .running } })
  have timer := pulseEvent_timer (fun r => r == .startPulse) (raiseRun .running .none { s with run := { s.run with state := .running } })
  generalize pulseEvent _ _ = t at *
  have field {α : Type} (f : State → α) := congrArg f rest
  refine ⟨field State.run, (field (·.isPending .run)).trans run_pending, field (·.ntc.runState), field (·.ntc.runReason),
    fun l => (timer l).trans ?_, field State.faults, field State.cap, field State.rot, field State.chans, field State.pins,
    field State.sup, field State.link⟩
  simp only [beq_iff_eq]
  rfl

/-- Settles O32: in ARMED the Run Controller is the edge's only destination. -/
theorem startEdgeBeginsTheRun : Obligations.StartEdgeBeginsTheRun := by
  intro line order u k s x armed mode input startEdge_names named enable phase now acquire level many
  have high : 8 ≤ k.val := by omega
  have accepts : Accepts (s.input k) line s.uptime := ⟨enable, ⟨u, phase, now⟩, acquire, level, many, named⟩
  have level_at_pin : s.pinLevel k line = line := pinLevel_of (fun _ => rfl) fun i hi => absurd i.isLt (by omega)
  have isStart : (acceptedInput k line line s).run.config.isStart k (edgeTo line) = true := by
    rw [RunConfig.isStart, show (acceptedInput k line line s).run.config = s.run.config from rfl, mode, input,
      matches_edgeTo_of startEdge_names]
    simp
  have runs : runEdge k (edgeTo line) (acceptedInput k line line s) = startEdge (acceptedInput k line line s) := by
    rw [runEdge, if_pos (show (acceptedInput k line line s).run.state = .armed from armed), if_pos isStart]
  obtain ⟨run, pending, runState, reason, timers, faults, cap, rot, chans, pins, sup, link⟩ :=
    startEdge_facts (acceptedInput k line line s)
  have state : (acceptedInput k line line s).run.state = .armed := armed
  rw [exec_inputSample, sampleInput_of_accepts order level_at_pin accepts, deliverEdge_eq, logEdge_of_line _ high, state,
    edgeItemsTaken_of_no_slot (st := .armed) order (fun h => nomatch h) (by rw [runs, faults]), runs]
  exact ⟨_, rfl, run, pending, runState, reason, timers, faults, by rw [cap]; rfl, rot, chans, pins, sup, link⟩

end Sys2Proof.Machine
end

section
/-! PROOFS. What an instant action puts in force and takes away, with everything it leaves alone. -/

namespace Sys2Proof.Machine

open Sys2Proof.Safety

variable {s t u : State} {k : Fin 32} {ts : List (Fin 45)}

/-! ### What differs at most in the slots, the holders and the targets -/

theorem sameBut_refl (ts : List (Fin 45)) (s : State) : sameBut ts s s :=
  ⟨rfl, rfl, rfl, rfl, rfl, rfl, fun _ => rfl, fun _ _ => rfl, rfl, fun _ _ => rfl, rfl, fun _ => rfl, fun _ _ => rfl, rfl,
    fun _ _ => rfl, rfl, fun _ _ _ => rfl⟩

theorem sameBut_trans (h : sameBut ts s t) (h' : sameBut ts t u) : sameBut ts s u := by
  obtain ⟨a1, a2, a3, a4, a5, a6, a7, a8, a9, a10, a11, a12, a13, a14, a15, a16, a17⟩ := h
  obtain ⟨b1, b2, b3, b4, b5, b6, b7, b8, b9, b10, b11, b12, b13, b14, b15, b16, b17⟩ := h'
  refine ⟨b1.trans a1, b2.trans a2, b3.trans a3, b4.trans a4, b5.trans a5, b6.trans a6, fun n => ?_,
    fun n hn => (b8 n hn).trans (a8 n hn), ?_, fun p hp => (b10 p hp).trans (a10 p hp), ?_, fun h => (b12 h).trans (a12 h),
    fun c h => (b13 c h).trans (a13 c h), ?_, fun h h' => (b15 h h').trans (a15 h h'), ?_,
    fun j h h' => (b17 j h h').trans (a17 j h h')⟩
  · exact (congrArg (fun c : Channel => { c with modifier := (s.chan n).modifier }) (b7 n)).trans (a7 n)
  · exact (congrArg (fun p : PinMatrix => { p with paths := s.pins.paths }) b9).trans a9
  · exact (congrArg (fun r : Rotation => { r with crankMod := s.rot.crankMod, camMods := s.rot.camMods }) b11).trans a11
  · exact (congrArg (fun u : Supply => { u with battDrop := s.sup.battDrop, ignDrop := s.sup.ignDrop, battAct := s.sup.battAct, ignAct := s.sup.ignAct, driver := s.sup.driver }) b14).trans a14
  · exact (congrArg (fun n : Notices => { n with pending := s.ntc.pending, faultMask := s.ntc.faultMask }) b16).trans a16

theorem sameBut_setSlot (k : Fin 32) (x : Slot) (s : State) : sameBut ts s (s.setSlot k x) := sameBut_refl ts s

theorem sameBut_setHolder (g : Fin 45) (h : Option (Fin 32)) (s : State) : sameBut ts s (s.setHolder g h) := sameBut_refl ts s

theorem sameBut_raise {j : NoticeKind} (h : j = .supply ∨ j = .fault) (s : State) : sameBut ts s (raise j s) := by
  refine ⟨rfl, rfl, rfl, rfl, rfl, rfl, fun _ => rfl, fun _ _ => rfl, rfl, fun _ _ => rfl, rfl, fun _ => rfl, fun _ _ => rfl, rfl,
    fun _ _ => rfl, rfl, fun i hs hf => ?_⟩
  have other : i ≠ j := h.elim (fun e => e ▸ hs) (fun e => e ▸ hf)
  rw [isPending_raise, decide_eq_false other, Bool.or_false]

theorem sameBut_raiseFault (k : Fin 32) (s : State) : sameBut ts s (raiseFault k s) :=
  sameBut_trans (sameBut_raise (.inr rfl) s) ⟨rfl, rfl, rfl, rfl, rfl, rfl, fun _ => rfl, fun _ _ => rfl, rfl, fun _ _ => rfl, rfl,
    fun _ => rfl, fun _ _ => rfl, rfl, fun _ _ => rfl, rfl, fun _ _ _ => rfl⟩

theorem sameBut_forEach {α : Type} {f : α → State → State} (h : ∀ x s, sameBut ts s (f x s)) (xs : List α) (s : State) :
    sameBut ts s (forEach xs f s) :=
  forEach_keeps (sameBut ts s) xs f (fun x _ t ht => sameBut_trans ht (h x t)) s (sameBut_refl ts s)

theorem sameBut_takeHolders (k : Fin 32) (gs : List (Fin 45)) (s : State) : sameBut ts s (takeHolders k gs s) :=
  sameBut_forEach (fun g s => sameBut_setHolder g (some k) s) gs s

theorem sameBut_clearHolders (k : Fin 32) (s : State) : sameBut ts s (clearHolders k s) :=
  sameBut_forEach (fun g s => by
    split
    · exact sameBut_setHolder g none s
    · exact sameBut_refl ts s) _ s

theorem sameBut_countRepetition (k : Fin 32) (s : State) : sameBut ts s (countRepetition k s) := by
  unfold countRepetition
  refine sameBut_trans (sameBut_setSlot k { s.slot k with remaining := (s.slot k).remaining.count } s) ?_
  dsimp only
  split
  · unfold toDone
    refine sameBut_trans (sameBut_raiseFault k _) ?_
    dsimp only
    split <;> exact sameBut_setSlot k _ _
  · exact sameBut_setSlot k _ _

theorem sameBut_setPath {p : Fin 24} (h : pinTarget p ∈ ts) (x : Path) (s : State) : sameBut ts s (s.setPath p x) := by
  refine ⟨rfl, rfl, rfl, rfl, rfl, rfl, fun _ => rfl, fun _ _ => rfl, rfl, fun q hq => ?_, rfl, fun _ => rfl, fun _ _ => rfl, rfl,
    fun _ _ => rfl, rfl, fun _ _ _ => rfl⟩
  exact State.path_setPath_other s p x q fun e => hq (e ▸ h)

theorem sameBut_setModifier {n : Fin 16} (h : chanTarget n ∈ ts) (m : Option ChanMod) (s : State) :
    sameBut ts s (setModifier n m s) := by
  refine ⟨rfl, rfl, rfl, rfl, rfl, rfl, fun j => ?_, fun j hj => ?_, rfl, fun _ _ => rfl, rfl, fun _ => rfl, fun _ _ => rfl, rfl,
    fun _ _ => rfl, rfl, fun _ _ _ => rfl⟩
  · unfold setModifier
    rw [State.chan_setChan]
    split
    · next e => rw [e]
    · rfl
  · exact State.chan_setChan_other _ _ _ _ fun e => hj (e ▸ h)

theorem sameBut_setCrankMod (h : 40 ∈ ts) (m : Option CrankMod) (s : State) : sameBut ts s (setCrankMod m s) :=
  ⟨rfl, rfl, rfl, rfl, rfl, rfl, fun _ => rfl, fun _ _ => rfl, rfl, fun _ _ => rfl, rfl, fun h' => absurd h h', fun _ _ => rfl, rfl,
    fun _ _ => rfl, rfl, fun _ _ _ => rfl⟩

theorem sameBut_setCamMod {c : Fin 2} (h : camTarget c ∈ ts) (m : Option CamMod) (s : State) : sameBut ts s (setCamMod c m s) :=
  ⟨rfl, rfl, rfl, rfl, rfl, rfl, fun _ => rfl, fun _ _ => rfl, rfl, fun _ _ => rfl, rfl, fun _ => rfl,
    fun _ hd => getAt_setAt_other _ _ _ _ fun e => hd (e ▸ h), rfl, fun _ _ => rfl, rfl, fun _ _ _ => rfl⟩

/-- The feeds settled after a drop is put in force or taken away. -/
theorem sameBut_settleFeeds {v : Supply} (h : 43 ∈ ts ∨ 44 ∈ ts) (same : { v with battDrop := s.sup.battDrop, ignDrop := s.sup.ignDrop } = s.sup) :
    sameBut ts s (settleFeeds { s with sup := v }) := by
  have settled : sameBut ts s { s with sup := v.settled s.uptime } := by
    refine ⟨rfl, rfl, rfl, rfl, rfl, rfl, fun _ => rfl, fun _ _ => rfl, rfl, fun _ _ => rfl, rfl, fun _ => rfl, fun _ _ => rfl,
      congrArg (fun u : Supply => { u with battAct := s.sup.battAct, ignAct := s.sup.ignAct, driver := s.sup.driver }) same,
      fun h1 h2 => absurd h (by simp [h1, h2]), rfl, fun _ _ _ => rfl⟩
  unfold settleFeeds raiseIf
  split
  · exact sameBut_trans settled (sameBut_raise (.inl rfl) _)
  · exact settled

/-! ### An instant action in force -/

/-- An action that is done at once, without the relay sequencer, an edge or the Run Controller. -/
def Instant (r : FaultRecord) : Prop := r.action.relay = none ∧ r.action.targets ≠ [] ∧ r.aligned = false

theorem inForce_setSlot {a : Action} (h : inForce a s t) (k : Fin 32) (x : Slot) : inForce a s (t.setSlot k x) := by
  cases a <;> exact h

/-- An instant action puts itself in force, touching its target only; then its slot is ACTIVE. -/
theorem proceed_instant {r : FaultRecord} (h : Instant r) (s : State) : ∃ v,
    proceed k r s = v.setSlot k (entered (s.slot k)) ∧ v.faults = s.faults ∧ inForce r.action s v ∧ sameBut r.action.targets s v := by
  obtain ⟨relay, some_target, now⟩ := h
  have act {v : State} (h : v.faults = s.faults) : enterActive k (v.slot k).applied v = v.setSlot k (entered (s.slot k)) := by
    have same : v.slot k = s.slot k := by unfold State.slot; rw [h]
    rw [enterActive, same]
    rfl
  unfold proceed
  cases hr : r.action with
  | openPin p =>
    refine ⟨s.setPath p .openPath, ?_, rfl, getAt_setAt_same .., sameBut_setPath (.head _) _ s⟩
    simp only [applySwitch, now]
    exact act rfl
  | shortGnd p =>
    refine ⟨s.setPath p .shortGnd, ?_, rfl, getAt_setAt_same .., sameBut_setPath (.head _) _ s⟩
    simp only [applySwitch, now]
    exact act rfl
  | freeze n | force n _ | offset n _ =>
    exact ⟨_, act rfl, rfl, congrArg Channel.modifier (State.chan_setChan_same ..), sameBut_setModifier (.head _) _ s⟩
  | toothDrop | crankShift => exact ⟨_, act rfl, rfl, rfl, sameBut_setCrankMod (.head _) _ s⟩
  | camHold | camShift => exact ⟨_, act rfl, rfl, getAt_setAt_same .., sameBut_setCamMod (.head _) _ s⟩
  | battDrop =>
    refine ⟨_, act (settleFeeds_faults _), settleFeeds_faults _, ?_, sameBut_settleFeeds (.inl (.head _)) rfl⟩
    simp [inForce, settleFeeds_sup, setBattDrop, Supply.settled, Supply.battery, Supply.ignition, Supply.nextDriver]
  | ignDrop =>
    refine ⟨_, act (settleFeeds_faults _), settleFeeds_faults _, ?_, sameBut_settleFeeds (.inr (.head _)) rfl⟩
    simp [inForce, settleFeeds_sup, setIgnDrop, Supply.settled, Supply.ignition]
  | shortSupply | bridge => rw [hr] at relay; cases relay
  | holdRun | endRun => rw [hr] at some_target; exact absurd rfl some_target

/-! ### Apply (R123, R124) -/

theorem applySlot_of_free {r : FaultRecord} (record : (s.slot k).record = some r)
    (free : ∀ g ∈ r.action.targets, s.holder g = none) :
    applySlot k s = proceed k r (takeHolders k r.action.targets s) := by
  have none_held : r.action.targets.any (fun g => (s.holder g).isSome) = false := by
    simpa [List.any_eq_false] using free
  rw [applySlot, record]
  exact if_neg (Bool.eq_false_iff.mp none_held)

theorem applySlot_of_held {r : FaultRecord} (record : (s.slot k).record = some r)
    (held : ¬ ∀ g ∈ r.action.targets, s.holder g = none) : applySlot k s = conflict k s := by
  have some_held : r.action.targets.any (fun g => (s.holder g).isSome) = true := by
    simpa [List.any_eq_true, Option.isSome_iff_ne_none] using held
  rw [applySlot, record]
  exact if_pos some_held

theorem inForce_congr {a : Action} (rot : t.rot = s.rot) (chans : t.chans = s.chans) (h : inForce a t u) : inForce a s u := by
  have chan (n : Fin 16) : t.chan n = s.chan n := by unfold State.chan; rw [chans]
  cases a with
  | freeze n => exact h.trans (by rw [chan n])
  | camHold c => exact h.trans (by rw [rot])
  | _ => exact h

/-- What the apply of an instant action with its targets free does. -/
structure Applied (k : Fin 32) (r : FaultRecord) (s t : State) : Prop where
  slot : t.slot k = entered (s.slot k)
  others : ∀ j, j ≠ k → t.slot j = s.slot j
  holder : ∀ g, t.holder g = if g ∈ r.action.targets then some k else s.holder g
  force : inForce r.action s t
  rest : sameBut r.action.targets s t

theorem applySlot_instant {r : FaultRecord} (record : (s.slot k).record = some r)
    (free : ∀ g ∈ r.action.targets, s.holder g = none) (h : Instant r) : Applied k r s (applySlot k s) := by
  rw [applySlot_of_free record free]
  obtain ⟨v, eq, faults, force, rest⟩ := proceed_instant (k := k) h (takeHolders k r.action.targets s)
  have same := takeHolders_rest k r.action.targets s
  simp only [Prod.mk.injEq] at same
  obtain ⟨-, rot, chans, -⟩ := same
  have slot (j : Fin 32) : v.slot j = s.slot j := by
    rw [← takeHolders_slot k r.action.targets s j]
    unfold State.slot
    rw [faults]
  have holder (g : Fin 45) : v.holder g = (takeHolders k r.action.targets s).holder g := by
    unfold State.holder
    rw [faults]
  rw [eq, takeHolders_slot]
  refine ⟨State.slot_setSlot_same .., fun j hj => ?_, fun g => ?_, inForce_setSlot (inForce_congr rot chans force) k _,
    sameBut_trans (sameBut_takeHolders k _ s) (sameBut_trans rest (sameBut_setSlot k _ v))⟩
  · rw [State.slot_setSlot_other _ _ _ _ hj, slot]
  · rw [State.setSlot_holder, holder, takeHolders_holder]

end Sys2Proof.Machine
end

section
/-! PROOFS. Firing, and the destinations of an accepted edge: O33. -/

namespace Sys2Proof.Machine

open Sys2Proof.Safety

variable {s t u : State} {k : Fin 32}

/-! ### Firing (R115, R121) -/

/-- The slot as its trigger fires: a staged copy taken with its repetitions, the progress at 0. -/
def firing (x : Slot) : Slot :=
  match x.staged with
  | some r => { x with record := some r, staged := none, remaining := .ofRepeat r.rep, progress := 0 }
  | none => { x with progress := 0 }

theorem firing_of_none {x : Slot} (h : x.staged = none) : firing x = { x with progress := 0 } := by
  unfold firing
  rw [h]

theorem takeStaged_eq (k : Fin 32) (s : State) : takeStaged k s = s.setSlot k (firing (s.slot k)) := by
  unfold takeStaged firing
  dsimp only
  cases (s.slot k).staged <;> rfl

theorem fire_of_delay {r : FaultRecord} (record : (firing (s.slot k)).record = some r) (delay : r.delay ≠ 0) :
    fire k s = s.setSlot k { firing (s.slot k) with state := .waiting } := by
  unfold fire
  rw [takeStaged_eq]
  dsimp only
  rw [State.slot_setSlot_same, record, State.setSlot_setSlot_same]
  exact if_neg delay

theorem fire_at_once {r : FaultRecord} (record : (firing (s.slot k)).record = some r) (delay : r.delay = 0) :
    fire k s = applySlot k (s.setSlot k (firing (s.slot k))) := by
  unfold fire
  rw [takeStaged_eq]
  dsimp only
  rw [State.slot_setSlot_same, record]
  exact if_pos delay

theorem looks_iff : s.looks k = true ↔ (s.slot k).state = .armed ∧ (s.slot k).since < s.uptime := by
  simp [State.looks]

/-! ### An edge at one slot (R100, R120) -/

theorem offerEdge_capture {j : Fin 10} {d : Edge} {c : Fin 8} {e : EdgeSel} {m : Nat} (looks : s.looks k = true)
    (trigger : s.trigger k = some (.capture c e m)) : offerEdge j d k s =
      if c.val = j.val ∧ e.matches d = true then
        let n := min ((s.slot k).occurrences + 1) 255
        let t := s.setSlot k { s.slot k with occurrences := n }
        if m ≤ n ∧ t.run.inMicro = true then fire k t else t
      else s := by
  unfold offerEdge
  rw [if_pos looks, trigger]
  rfl

theorem offerEdge_line {j : Fin 10} {d : Edge} {l : Fin 2} {e : EdgeSel} (looks : s.looks k = true)
    (trigger : s.trigger k = some (.line l e)) : offerEdge j d k s =
      if l.val + 8 = j.val ∧ e.matches d = true ∧ s.run.inMicro = true then fire k s else s := by
  unfold offerEdge
  rw [if_pos looks, trigger]
  rfl

/-- One slot alone is armed: it is the edge's only destination. -/
theorem edgeItemsTaken_of_slot {j : Fin 10} {d : Edge} (order : List WorkItem) (run : s.run.state = .running)
    (line : s.run.config.isLineRelease j d = false) (capture : s.run.config.isCaptureRelease j d = false)
    (alone : ∀ i, i ≠ k → (s.slot i).state ≠ .armed) (keeps : (offerEdge j d k s).run = s.run)
    (others : ∀ i, i ≠ k → (offerEdge j d k s).slot i = s.slot i) :
    edgeItemsTaken .running j d order s = offerEdge j d k s := by
  have idle (t : State) (htr : t.run = s.run) (hts : ∀ i, i ≠ k → t.slot i = s.slot i) (w : WorkItem) (hw : w ≠ .slot k) :
      edgeItem .running j d w t = t := by
    cases w with
    | runControl =>
      exact runEdge_idle ((inRun_congr htr).trans (inRun_of_running run)) (by rw [htr, line]) (by rw [htr, capture])
    | slot i =>
      have hi : i ≠ k := fun e => hw (by rw [e])
      have offered : edgeItem .running j d (.slot i) t = offerEdge j d i t := by rw [edgeItem, if_pos rfl]
      exact offered.trans (offerEdge_idle (by rw [hts i hi]; exact alone i hi))
    | _ => rfl
  exact forEach_one (f := edgeItem .running j d) (own_mem_orderItems _ _ _ (mem_edgeItems_slot k)) (nodup_orderItems nodup_edgeItems)
    (fun w _ hw => idle s rfl (fun _ _ => rfl) w hw) (fun w _ hw => idle _ keeps others w hw)

/-! ### The state that an accepted edge finds -/

theorem isLineRelease_iff {c : RunConfig} {j : Fin 10} {lv : Bool} : c.isLineRelease j (edgeTo lv) = true ↔
    c.line.enable = true ∧ c.line.input.val + 8 = j.val ∧ names c.line.edge lv := by
  simp [RunConfig.isLineRelease, matches_edgeTo, and_assoc]

theorem isCaptureRelease_iff {c : RunConfig} {j : Fin 10} {lv : Bool} : c.isCaptureRelease j (edgeTo lv) = true ↔
    c.capture.enable = true ∧ c.capture.input.val = j.val ∧ names c.capture.edge lv := by
  simp [RunConfig.isCaptureRelease, matches_edgeTo, and_assoc]

/-- The accepted edge in the log, before its deliveries. -/
def deliverable (j : Fin 10) (line lv : Bool) (s : State) : State := logEdge j (edgeTo lv) (acceptedInput j line lv s)

theorem exec_of_accepts {j : Fin 10} {line lv : Bool} (order : List WorkItem) (level : s.pinLevel j line = lv)
    (h : Accepts (s.input j) lv s.uptime) : exec (.inputSample j line order) s =
      .next (edgeItemsTaken s.run.state j (edgeTo lv) order (deliverable j line lv s)) := by
  rw [exec_inputSample, sampleInput_of_accepts order level h, deliverEdge_eq]
  rfl

/-- What an accepted edge leaves alone where it puts no action in force. -/
def Untouched (j : Fin 10) (s t : State) : Prop :=
  t.trace = s.trace ∧ t.rot = s.rot ∧ t.chans = s.chans ∧ t.pins = s.pins ∧ t.sup = s.sup ∧ t.link = s.link
    ∧ t.uptime = s.uptime ∧ (8 ≤ j.val → t.cap.log = s.cap.log)

theorem deliverable_facts (j : Fin 10) (line lv : Bool) (s : State) :
    Untouched j s (deliverable j line lv s) ∧ (deliverable j line lv s).run = s.run
      ∧ (deliverable j line lv s).faults = s.faults := by
  have rest := logEdge_unlogged j (edgeTo lv) (acceptedInput j line lv s)
  have log (h : 8 ≤ j.val) : deliverable j line lv s = acceptedInput j line lv s := logEdge_of_line _ h
  unfold deliverable at *
  simp only [State.unlogged, Prod.mk.injEq] at rest
  obtain ⟨run, rot, faults, ⟨trace, chans, pins, sup, link, uptime⟩, -⟩ := rest
  exact ⟨⟨trace, rot, chans, pins, sup, link, uptime, fun h => by rw [log h]; rfl⟩, run, faults⟩

/-! ### A slot that an edge fires -/

theorem State.setSlot_slot_self (s : State) (k : Fin 32) : s.setSlot k (s.slot k) = s := by
  unfold State.setSlot State.slot
  rw [setAt_getAt]

theorem fire_delayed {y : Slot} {r : FaultRecord} (record : y.record = some r) (staged : y.staged = none) (delay : r.delay ≠ 0) :
    fire k (s.setSlot k y) = s.setSlot k { y with state := .waiting, progress := 0 } := by
  have fired : firing ((s.setSlot k y).slot k) = { y with progress := 0 } := by
    rw [State.slot_setSlot_same, firing_of_none staged]
  rw [fire_of_delay (r := r) (by rw [fired]; exact record) delay, fired, State.setSlot_setSlot_same]

theorem fire_applied {y : Slot} {r : FaultRecord} (record : y.record = some r) (staged : y.staged = none) (delay : r.delay = 0)
    (free : ∀ g ∈ r.action.targets, s.holder g = none) (instant : Instant r) :
    Applied k r (s.setSlot k { y with progress := 0 }) (fire k (s.setSlot k y)) := by
  have fired : firing ((s.setSlot k y).slot k) = { y with progress := 0 } := by
    rw [State.slot_setSlot_same, firing_of_none staged]
  rw [fire_at_once (r := r) (by rw [fired]; exact record) delay, fired, State.setSlot_setSlot_same]
  exact applySlot_instant (by rw [State.slot_setSlot_same]; exact record) free instant

/-- Settles O33: the Run Controller's answer by the run state, and the one armed slot's by its trigger. -/
theorem acceptedEdgesFireAndRelease : Obligations.AcceptedEdgesFireAndRelease := by
  intro j line lv order s hline htap accepts cfg byLine byCapture same released flagged
  have level : s.pinLevel j line = lv := pinLevel_of hline htap
  have exec_eq := exec_of_accepts order level accepts
  obtain ⟨untouched, run, faults⟩ := deliverable_facts j line lv s
  generalize deliverable j line lv s = w at exec_eq untouched run faults
  have isLine : w.run.config.isLineRelease j (edgeTo lv) = true ↔ byLine := by rw [run]; exact isLineRelease_iff
  have isCapture : w.run.config.isCaptureRelease j (edgeTo lv) = true ↔ byCapture := by rw [run]; exact isCaptureRelease_iff
  have capture_only (h : byCapture) : ¬ byLine := fun h' => by
    have low : s.run.config.capture.input.val < 8 := s.run.config.capture.input.isLt
    have here : s.run.config.capture.input.val = j.val := h.2.1
    have there : s.run.config.line.input.val + 8 = j.val := h'.2.1
    omega
  have slot (k : Fin 32) : w.slot k = s.slot k := by unfold State.slot; rw [faults]
  have inRun (h : s.run.state = .held ∨ s.run.state = .running) : w.inRun = true := by
    rw [inRun_congr run]
    exact h.elim inRun_of_held inRun_of_running
  have runEdge_line (h : w.inRun = true) (hl : byLine) : runEdge j (edgeTo lv) w = releaseEvent .line w := by
    rw [runEdge_of_run h, if_pos (isLine.mpr hl)]
  have runEdge_capture (h : w.inRun = true) (hc : byCapture) : runEdge j (edgeTo lv) w = releaseEvent .capture w := by
    rw [runEdge_of_run h, if_neg (mt isLine.mp (capture_only hc)), if_pos (isCapture.mpr hc)]
  have release (h : s.run.state = .held) (e : ReleaseEvent) (he : runEdge j (edgeTo lv) w = releaseEvent e w) : released e.only := by
    rw [releaseEvent_of_held e w (by rw [run, h])] at he
    rw [edgeItemsTaken_of_no_slot order (fun run' => by rw [h] at run'; cases run') (by rw [he]; rfl), he] at exec_eq
    exact ⟨_, exec_eq, untouched, faults, isPending_raise_self .run _, rfl, rfl, by rw [raiseRun_run, run]⟩
  have flag (h : s.run.state = .running) (quiet : ∀ k, (s.slot k).state ≠ .armed) (e : ReleaseEvent)
      (he : runEdge j (edgeTo lv) w = releaseEvent e w) : flagged (s.run.flags.set e) := by
    rw [releaseEvent_of_running e w (by rw [run, h])] at he
    rw [edgeItemsTaken_of_no_slot order (fun _ k => by rw [slot]; exact quiet k) (by rw [he]), he] at exec_eq
    exact ⟨_, exec_eq, untouched, faults, by rw [run]⟩
  have none (h : s.run.state = .held ∨ s.run.state = .running ∧ ∀ k, (s.slot k).state ≠ .armed) (hl : ¬ byLine) (hc : ¬ byCapture) :
      flagged s.run.flags := by
    have idle : runEdge j (edgeTo lv) w = w := by
      rw [runEdge_of_run (inRun (h.imp id And.left)), if_neg (mt isLine.mp hl), if_neg (mt isCapture.mp hc)]
    rw [edgeItemsTaken_of_no_slot order (fun running k => by
      rw [slot]
      exact h.elim (fun held => by rw [held] at running; cases running) (·.2 k)) (by rw [idle]), idle] at exec_eq
    exact ⟨_, exec_eq, untouched, faults, by rw [run]⟩
  refine ⟨fun held hl => release held .line (runEdge_line (inRun (.inl held)) hl),
    fun held hc => release held .capture (runEdge_capture (inRun (.inl held)) hc), fun held => none (.inl held),
    fun running quiet => ⟨fun hl => flag running quiet .line (runEdge_line (inRun (.inr running)) hl),
      fun hc => flag running quiet .capture (runEdge_capture (inRun (.inr running)) hc), none (.inr ⟨running, quiet⟩)⟩, ?_⟩
  intro running hl hc k r armed since record staged alone x others becomes fires
  have run_w : w.run.state = .running := by rw [run, running]
  have alone_w (i : Fin 32) (hi : i ≠ k) : (w.slot i).state ≠ .armed := by rw [slot]; exact alone i hi
  have looks : w.looks k = true := looks_iff.mpr ⟨by rw [slot, armed], by rw [slot, untouched.2.2.2.2.2.2.1]; exact since⟩
  have taken (keeps) (apart) := edgeItemsTaken_of_slot (j := j) (d := edgeTo lv) order run_w
    (Bool.eq_false_iff.mpr (mt isLine.mp hl)) (Bool.eq_false_iff.mpr (mt isCapture.mp hc)) alone_w keeps apart
  rw [running] at exec_eq
  have settle (y : Slot) (h : offerEdge j (edgeTo lv) k w = w.setSlot k y) : becomes y := by
    rw [taken (by rw [h]; rfl) (fun i hi => by rw [h, State.slot_setSlot_other _ _ _ _ hi]), h] at exec_eq
    exact ⟨_, exec_eq, untouched, run, fun i hi => by rw [State.slot_setSlot_other _ _ _ _ hi, slot],
      State.slot_setSlot_same .., (congrArg Faults.holders faults :)⟩
  have stay (h : offerEdge j (edgeTo lv) k w = w) : becomes x := by
    rw [taken (by rw [h]) (fun i _ => by rw [h]), h] at exec_eq
    exact ⟨_, exec_eq, untouched, run, fun i _ => slot i, slot k, congrArg Faults.holders faults⟩
  have shoot (y : Slot) (hy : y.record = some r) (hs : y.staged = Option.none)
      (h : offerEdge j (edgeTo lv) k w = fire k (w.setSlot k y)) : fires y := by
    refine ⟨fun delay => settle _ (h.trans (fire_delayed hy hs delay)), fun delay free relay target now => ?_⟩
    have free_w : ∀ g ∈ r.action.targets, w.holder g = Option.none := by unfold State.holder; rw [faults]; exact free
    have applied := fire_applied (k := k) (s := w) hy hs delay free_w ⟨relay, target, now⟩
    rw [← h] at applied
    obtain ⟨own, rest, holder, force, but⟩ := applied
    have same_run : (offerEdge j (edgeTo lv) k w).run = w.run := but.2.1
    have apart (i : Fin 32) (hi : i ≠ k) : (offerEdge j (edgeTo lv) k w).slot i = w.slot i :=
      (rest i hi).trans (State.slot_setSlot_other _ _ _ _ hi)
    rw [taken same_run apart] at exec_eq
    exact ⟨_, exec_eq, fun i hi => (apart i hi).trans (slot i), by rw [own, State.slot_setSlot_same],
      inForce_congr untouched.2.1 untouched.2.2.1 force, same_run.trans run, fun g => by
        rw [holder g, State.setSlot_holder]; unfold State.holder; rw [faults]⟩
  have trigger_w : w.trigger k = some r.trigger := by rw [State.trigger, slot, record]; rfl
  refine ⟨fun c e m trigger => ⟨fun input named few => settle _ ?_, fun input named enough micro => shoot _ record staged ?_,
    fun other => stay ?_⟩, fun l e trigger => ⟨fun input named micro => shoot x record staged ?_, fun other => stay ?_⟩⟩
  all_goals rw [trigger] at trigger_w
  · rw [offerEdge_capture looks trigger_w, if_pos ⟨input, matches_edgeTo_of named⟩, slot]
    exact if_neg fun both => few.elim (fun lt => absurd both.1 (Nat.not_le.mpr lt)) fun still => by
      have micro : w.run.inMicro = true := both.2
      rw [run, still] at micro
      cases micro
  · rw [offerEdge_capture looks trigger_w, if_pos ⟨input, matches_edgeTo_of named⟩, slot]
    exact if_pos ⟨enough, show w.run.inMicro = true by rw [run, micro]⟩
  · rw [offerEdge_capture looks trigger_w,
      if_neg fun both => other.elim (absurd both.1) fun unnamed => unnamed (matches_edgeTo.mp both.2)]
  · rw [offerEdge_line looks trigger_w, if_pos ⟨input, matches_edgeTo_of named, by rw [run, micro]⟩,
      show x = w.slot k from (slot k).symm, State.setSlot_slot_self]
  · rw [offerEdge_line looks trigger_w, if_neg]
    rintro ⟨input, named, micro⟩
    rcases other with apart | unnamed | still
    · exact apart input
    · exact unnamed (matches_edgeTo.mp named)
    · rw [run, still] at micro
      cases micro

end Sys2Proof.Machine
end

section
/-! PROOFS. Slots that return toward LOADED: what they take away, what they hand over, and what they leave alone. -/

namespace Sys2Proof.Machine

open Sys2Proof.Safety

variable {s t u : State} {k : Fin 32}

/-! ### What returning slots may do -/

/-- The entry waits for the drive, or the drive has granted it in this microsecond. -/
def Waits (e : RelayEntry) (s : State) : Prop := e ∈ s.pins.waitList ∨ s.pins.drive = .busy e s.uptime

/-- From `s` to `t` slots return: actions on the targets `T` are taken away, the slots `A` hand releases over, and waiting
APPLYs may be withdrawn. -/
structure Frees (A : Fin 32 → Prop) (T : Fin 45 → Prop) (s t : State) : Prop where
  still : t.still = s.still
  run : t.run = s.run
  map : t.pins.map = s.pins.map
  chan : ∀ n, t.chan n = { s.chan n with modifier := (t.chan n).modifier }
  modifier : ∀ n, ¬ T (chanTarget n) → (t.chan n).modifier = (s.chan n).modifier
  rot : { t.rot with crankMod := s.rot.crankMod, camMods := s.rot.camMods } = s.rot
  crank : ¬ T 40 → t.rot.crankMod = s.rot.crankMod
  cam : ∀ c, ¬ T (camTarget c) → getAt t.rot.camMods c = getAt s.rot.camMods c
  path : ∀ p, ¬ T (pinTarget p) → t.path p = s.path p
  sup : { t.sup with battDrop := s.sup.battDrop, ignDrop := s.sup.ignDrop, battAct := s.sup.battAct, ignAct := s.sup.ignAct,
                     driver := s.sup.driver } = s.sup
  ntc : { t.ntc with pending := s.ntc.pending } = s.ntc
  pending : ∀ j : NoticeKind, j ≠ .supply → t.isPending j = s.isPending j
  drive : ∀ e u, t.pins.drive = .busy e u → u = s.uptime ∨ t.pins.drive = s.pins.drive
  entries : ∀ e ∈ transitions t, e ∈ transitions s ∨ e.kind = .release ∧ A e.slot
  releases : ∀ e, e.kind = .release → Waits e s → Waits e t
  wait : ∀ p, ∀ w ∈ t.wait p, w ∈ s.wait p
  holder : ∀ g j, t.holder g = some j → s.holder g = some j
  away : ∀ a, takenAway a s → takenAway a t

/-- The drive's choice stands where it is closed. -/
def Closes (s t : State) : Prop := s.grantOpen = false → t.grantOpen = false ∧ t.pins.drive = s.pins.drive

variable {A : Fin 32 → Prop} {T : Fin 45 → Prop}

theorem Frees.refl (s : State) : Frees A T s s where
  still := rfl
  run := rfl
  map := rfl
  chan _ := rfl
  modifier _ _ := rfl
  rot := rfl
  crank _ := rfl
  cam _ _ := rfl
  path _ _ := rfl
  sup := rfl
  ntc := rfl
  pending _ _ := rfl
  drive _ _ _ := .inr rfl
  entries _ h := .inl h
  releases _ _ h := h
  wait _ _ h := h
  holder _ _ h := h
  away _ h := h

theorem Frees.uptime (h : Frees A T s t) : t.uptime = s.uptime := State.still_uptime h.still

theorem Frees.trans (h : Frees A T s t) (h' : Frees A T t u) : Frees A T s u where
  still := h'.still.trans h.still
  run := h'.run.trans h.run
  map := h'.map.trans h.map
  chan n := by rw [h'.chan n, h.chan n]
  modifier n hn := (h'.modifier n hn).trans (h.modifier n hn)
  rot := (congrArg (fun r : Rotation => { r with crankMod := s.rot.crankMod, camMods := s.rot.camMods }) h'.rot).trans h.rot
  crank hc := (h'.crank hc).trans (h.crank hc)
  cam c hc := (h'.cam c hc).trans (h.cam c hc)
  path p hp := (h'.path p hp).trans (h.path p hp)
  sup := (congrArg (fun u : Supply => { u with battDrop := s.sup.battDrop, ignDrop := s.sup.ignDrop, battAct := s.sup.battAct, ignAct := s.sup.ignAct, driver := s.sup.driver }) h'.sup).trans h.sup
  ntc := (congrArg (fun n : Notices => { n with pending := s.ntc.pending }) h'.ntc).trans h.ntc
  pending j hj := (h'.pending j hj).trans (h.pending j hj)
  drive e x busy := by
    rcases h'.drive e x busy with now | same
    · exact .inl (now.trans h.uptime)
    · rcases h.drive e x (same ▸ busy) with now | same'
      · exact .inl now
      · exact .inr (same.trans same')
  entries e he := by
    rcases h'.entries e he with he | own
    · exact h.entries e he
    · exact .inr own
  releases e he w := h'.releases e he (h.releases e he w)
  wait p w hw := h.wait p w (h'.wait p w hw)
  holder g j hg := h.holder g j (h'.holder g j hg)
  away a ha := h'.away a (h.away a ha)

theorem Closes.refl (s : State) : Closes s s := fun h => ⟨h, rfl⟩

theorem Closes.trans (h : Closes s t) (h' : Closes t u) : Closes s u := fun closed =>
  have ⟨closed', same⟩ := h closed
  have ⟨closed'', same'⟩ := h' closed'
  ⟨closed'', same'.trans same⟩

theorem Frees.ite {c : Prop} [Decidable c] (h : Frees A T s t) (h' : Frees A T s u) : Frees A T s (if c then t else u) := by
  split
  · exact h
  · exact h'

theorem Frees.forEach {α : Type} {f : α → State → State} (h : ∀ x s, Frees A T s (f x s)) (xs : List α) (s : State) :
    Frees A T s (forEach xs f s) :=
  forEach_keeps (Frees A T s) xs f (fun x _ t ht => ht.trans (h x t)) s (.refl s)

theorem Frees.mono {A' : Fin 32 → Prop} {T' : Fin 45 → Prop} (h : Frees A T s t) (hA : ∀ j, A j → A' j) (hT : ∀ g, T g → T' g) :
    Frees A' T' s t :=
  { h with
    modifier := fun n hn => h.modifier n (mt (hT _) hn)
    crank := fun hc => h.crank (mt (hT _) hc)
    cam := fun c hc => h.cam c (mt (hT _) hc)
    path := fun p hp => h.path p (mt (hT _) hp)
    entries := fun e he => (h.entries e he).imp_right fun own => ⟨own.1, hA _ own.2⟩ }

/-! ### The holder table and the waits -/

/-- Only the slots, the holders and the alignment waits differ. -/
theorem frees_table {f : Faults} {w : Vector (Option AlignWait) 24} (wait : ∀ p, ∀ x ∈ getAt w p, x ∈ s.wait p)
    (holder : ∀ g j, getAt f.holders g = some j → s.holder g = some j) :
    Frees A T s { s with faults := f, pins := { s.pins with waits := w } } :=
  { Frees.refl (A := A) (T := T) s with wait := wait, holder := holder, away := fun a ha => by cases a <;> exact ha }

theorem frees_setSlot (k : Fin 32) (x : Slot) (s : State) : Frees A T s (s.setSlot k x) :=
  frees_table (fun _ _ h => h) fun _ _ h => h

theorem frees_toLoaded (k : Fin 32) (s : State) : Frees A T s (toLoaded k s) := frees_setSlot k _ s

theorem frees_clearHolders (k : Fin 32) (s : State) : Frees A T s (clearHolders k s) := by
  refine .forEach (fun g s => .ite ?_ (.refl s)) _ s
  refine frees_table (fun _ _ h => h) fun g' j h => ?_
  rw [getAt_setAt] at h
  split at h
  · cases h
  · exact h

theorem frees_closeWait (k : Fin 32) (s : State) : Frees A T s (closeWait k s) := by
  refine .forEach (fun p s => .ite ?_ (.refl s)) _ s
  refine frees_table (fun q x h => ?_) fun _ _ h => h
  rw [getAt_setAt] at h
  split at h
  · cases h
  · exact h

/-! ### Actions taken away -/

theorem takenAway_congr {a : Action} (path : ∀ p, s.path p = .normal → t.path p = .normal)
    (modifier : ∀ n, (s.chan n).modifier = none → (t.chan n).modifier = none)
    (crank : s.rot.crankMod = none → t.rot.crankMod = none)
    (cam : ∀ c, getAt s.rot.camMods c = none → getAt t.rot.camMods c = none)
    (batt : s.sup.battDrop = false → s.sup.battAct = s.sup.battCmd → t.sup.battDrop = false ∧ t.sup.battAct = t.sup.battCmd)
    (ign : s.sup.ignDrop = false → t.sup.ignDrop = false) (h : takenAway a s) : takenAway a t := by
  cases a with
  | openPin p | shortGnd p => exact path p h
  | freeze n | force n _ | offset n _ => exact modifier n h
  | toothDrop | crankShift => exact crank h
  | camHold c | camShift c _ => exact cam c h
  | battDrop => exact batt h.1 h.2
  | ignDrop => exact ign h
  | shortSupply | bridge | holdRun | endRun => trivial

theorem frees_setPath {p : Fin 24} (h : T (pinTarget p)) (s : State) : Frees A T s (s.setPath p .normal) :=
  { Frees.refl (A := A) (T := T) s with
    path := fun q hq => State.path_setPath_other s p .normal q fun e => hq (e ▸ h)
    away := fun _ => takenAway_congr (fun q hq => by
      rw [State.path_setPath]
      split
      · rfl
      · exact hq) (fun _ h => h) id (fun _ h => h) (fun h h' => ⟨h, h'⟩) id }

theorem frees_setModifier {n : Fin 16} (h : T (chanTarget n)) (s : State) : Frees A T s (setModifier n none s) := by
  have chan (m : Fin 16) : (setModifier n none s).chan m = if m = n then { s.chan n with modifier := none } else s.chan m :=
    State.chan_setChan ..
  refine { Frees.refl (A := A) (T := T) s with
    chan := fun m => ?_
    modifier := fun m hm => ?_
    away := fun a => takenAway_congr (fun _ h => h) (fun m hm => ?_) id (fun _ h => h) (fun h h' => ⟨h, h'⟩) id }
  · rw [chan m]
    split
    · next e => rw [e]
    · rfl
  · rw [chan m, if_neg (by rintro rfl; exact hm h)]
  · rw [chan m]
    split
    · rfl
    · exact hm

theorem frees_setCrankMod (h : T 40) (s : State) : Frees A T s (setCrankMod none s) :=
  { Frees.refl (A := A) (T := T) s with
    crank := fun hc => absurd h hc
    away := fun _ => takenAway_congr (fun _ h => h) (fun _ h => h) (fun _ => rfl) (fun _ h => h) (fun h h' => ⟨h, h'⟩) id }

theorem frees_setCamMod {c : Fin 2} (h : T (camTarget c)) (s : State) : Frees A T s (setCamMod c none s) :=
  { Frees.refl (A := A) (T := T) s with
    cam := fun d hd => getAt_setAt_other _ _ _ _ fun e => hd (e ▸ h)
    away := fun _ => takenAway_congr (fun _ h => h) (fun _ h => h) id (fun d hd => by
      show getAt (setAt s.rot.camMods c none) d = none
      rw [getAt_setAt]
      split
      · rfl
      · exact hd) (fun h h' => ⟨h, h'⟩) id }

/-- The feeds settled after a drop is taken away. -/
theorem frees_settleFeeds {v : Supply} (same : { v with battDrop := s.sup.battDrop, ignDrop := s.sup.ignDrop } = s.sup)
    (batt : s.sup.battDrop = false → v.battDrop = false) (ign : s.sup.ignDrop = false → v.ignDrop = false) :
    Frees A T s (settleFeeds { s with sup := v }) := by
  have settled : Frees A T s { s with sup := v.settled s.uptime } :=
    { Frees.refl (A := A) (T := T) s with
      sup := congrArg (fun u : Supply => { u with battAct := s.sup.battAct, ignAct := s.sup.ignAct, driver := s.sup.driver }) same
      away := fun a => takenAway_congr (fun _ h => h) (fun _ h => h) id (fun _ h => h)
        (fun h _ => ⟨batt h, by simp [Supply.settled, Supply.battery, batt h]⟩) ign }
  unfold settleFeeds raiseIf
  refine .ite (settled.trans ?_) settled
  exact { Frees.refl (A := A) (T := T) _ with
    ntc := rfl
    pending := fun j hj => by rw [isPending_raise, decide_eq_false hj, Bool.or_false]
    away := fun a ha => by cases a <;> exact ha }

theorem frees_takeAway (a : Action) (s : State) : Frees A (· ∈ a.targets) s (takeAway a s) := by
  cases a with
  | openPin | shortGnd => exact frees_setPath (.head _) s
  | freeze | force | offset => exact frees_setModifier (.head _) s
  | toothDrop | crankShift => exact frees_setCrankMod (.head _) s
  | camHold | camShift => exact frees_setCamMod (.head _) s
  | battDrop => exact frees_settleFeeds rfl (fun _ => rfl) id
  | ignDrop => exact frees_settleFeeds rfl id (fun _ => rfl)
  | shortSupply | bridge | holdRun | endRun => exact .refl s

theorem takeAway_away (a : Action) (s : State) : takenAway a (takeAway a s) := by
  cases a with
  | openPin | shortGnd => exact State.path_setPath_same ..
  | freeze | force | offset => exact congrArg Channel.modifier (State.chan_setChan_same ..)
  | toothDrop | crankShift => rfl
  | camHold | camShift => exact getAt_setAt_same ..
  | battDrop => simp [takenAway, takeAway, setBattDrop, Supply.settled, Supply.battery]
  | ignDrop => simp [takenAway, takeAway, setIgnDrop, Supply.settled]
  | shortSupply | bridge | holdRun | endRun => trivial

/-! ### The relay drive -/

theorem frees_setWaitList {l : List RelayEntry} (entries : ∀ e ∈ l, e ∈ s.pins.waitList ∨ e.kind = .release ∧ A e.slot)
    (releases : ∀ e, e.kind = .release → e ∈ s.pins.waitList → e ∈ l) : Frees A T s (s.setWaitList l) := by
  refine { Frees.refl (A := A) (T := T) s with
    entries := fun e he => ?_, releases := fun e he w => w.imp_left (releases e he), away := fun a ha => by cases a <;> exact ha }
  rcases List.mem_append.mp he with busy | waits
  · exact .inl (List.mem_append_left _ busy)
  · exact (entries e waits).imp_left (List.mem_append_right _)

theorem frees_withdrawApply (k : Fin 32) (s : State) : Frees A T s (withdrawApply k s) :=
  frees_setWaitList (fun _ he => .inl (List.mem_filter.mp he).1) fun _ kind he => List.mem_filter.mpr ⟨he, by simp [kind]⟩

theorem transitions_of_busy {e : RelayEntry} {x : Nat} (h : s.pins.drive = .busy e x) : transitions s = e :: s.pins.waitList := by
  rw [transitions, h]
  rfl

theorem transitions_of_free (h : s.pins.drive = .free) : transitions s = s.pins.waitList := by
  rw [transitions, h]
  rfl

theorem relayGrant_of {e : RelayEntry} (free : s.pins.drive = .free) (h : chooseEntry s.pins.waitList = some e) :
    relayGrant s = (s.setWaitList (s.pins.waitList.erase e)).setDrive (.busy e s.uptime) := by
  have due : s.grantDue = true := by
    cases hw : s.pins.waitList with
    | nil => rw [hw] at h; cases h
    | cons => simp [State.grantDue, free, hw]
  unfold relayGrant
  rw [if_pos due, h]

theorem relayGrant_of_not (h : s.pins.drive ≠ .free ∨ s.pins.waitList = []) : relayGrant s = s := by
  refine if_neg fun due => ?_
  simp only [State.grantDue, Bool.and_eq_true, beq_iff_eq, Bool.not_eq_true', List.isEmpty_eq_false_iff] at due
  exact h.elim (absurd due.1) (absurd · due.2)

theorem chooseEntry_eq_none {l : List RelayEntry} (h : chooseEntry l = none) : l = [] := by
  cases l with
  | nil => rfl
  | cons a l =>
    unfold chooseEntry at h
    split at h
    · cases h
    · split at h <;> cases h

/-- A grant does nothing, or takes the entry it chooses. -/
theorem relayGrant_cases (s : State) : (s.pins.drive ≠ .free ∨ s.pins.waitList = []) ∧ relayGrant s = s
    ∨ ∃ e, s.pins.drive = .free ∧ chooseEntry s.pins.waitList = some e
        ∧ relayGrant s = (s.setWaitList (s.pins.waitList.erase e)).setDrive (.busy e s.uptime) := by
  by_cases free : s.pins.drive = .free
  · cases h : chooseEntry s.pins.waitList with
    | none => exact .inl ⟨.inr (chooseEntry_eq_none h), relayGrant_of_not (.inr (chooseEntry_eq_none h))⟩
    | some e => exact .inr ⟨e, free, rfl, relayGrant_of free h⟩
  · exact .inl ⟨.inl free, relayGrant_of_not (.inl free)⟩

theorem frees_relayGrant (s : State) : Frees A T s (relayGrant s) := by
  rcases relayGrant_cases s with ⟨-, same⟩ | ⟨e, free, chosen, granted⟩
  · rw [same]
    exact .refl s
  · have mem := mem_of_chooseEntry chosen
    rw [granted]
    refine { Frees.refl (A := A) (T := T) s with
      drive := fun f x busy => .inl (Drive.busy.inj busy).2.symm, entries := fun f hf => .inl ?_, releases := fun f _ w => ?_
      away := fun a ha => by cases a <;> exact ha }
    · rw [transitions_of_busy (e := e) (x := s.uptime) rfl] at hf
      rw [transitions_of_free free]
      rcases List.mem_cons.mp hf with rfl | hf
      · exact mem
      · exact List.mem_of_mem_erase hf
    · rcases w with waits | busy
      · by_cases same : f = e
        · exact .inr (by rw [same]; rfl)
        · exact .inl ((List.mem_erase_of_ne same).mpr waits)
      · rw [free] at busy
        cases busy

theorem grantOpen_iff : s.grantOpen = true ↔
    ∃ e, s.pins.drive = .busy e s.uptime ∧ (e.kind = .release ∨ (s.slot e.slot).releaseEnd = .rep) := by
  unfold State.grantOpen
  cases s.pins.drive with
  | busy e x =>
    simp only [Bool.and_eq_true, Bool.or_eq_true, beq_iff_eq, Drive.busy.injEq]
    constructor
    · rintro ⟨rfl, h⟩
      exact ⟨e, ⟨rfl, rfl⟩, h⟩
    · rintro ⟨f, ⟨rfl, rfl⟩, h⟩
      exact ⟨rfl, h⟩
  | free => simp
  | recovering => simp

theorem frees_reopenGrant (h : s.grantOpen = true) : Frees A T s (reopenGrant s) := by
  obtain ⟨e, busy, -⟩ := grantOpen_iff.mp h
  have reopened : reopenGrant s = (s.setWaitList (e :: s.pins.waitList)).setDrive .free := by
    unfold reopenGrant
    rw [busy]
  rw [reopened]
  refine { Frees.refl (A := A) (T := T) s with
    drive := nofun, entries := fun f hf => .inl ?_, releases := fun f _ w => ?_, away := fun a ha => by cases a <;> exact ha }
  · rw [transitions_of_busy busy]
    exact hf
  · rcases w with waits | now
    · exact .inl (.tail _ waits)
    · rw [busy] at now
      obtain ⟨rfl, -⟩ := Drive.busy.inj now
      exact .inl (.head _)

theorem regrant_of_closed {f : State → State} (h : s.grantOpen = false) : regrant f s = f s := if_neg (Bool.eq_false_iff.mp h)

theorem regrant_of_open {f : State → State} (h : s.grantOpen = true) : regrant f s = relayGrant (f (reopenGrant s)) := if_pos h

theorem faults_reopenGrant (s : State) : (reopenGrant s).faults = s.faults := State.offDrive_faults (offDrive_reopenGrant s)

theorem faults_relayGrant (s : State) : (relayGrant s).faults = s.faults := State.offDrive_faults (offDrive_relayGrant s)

theorem frees_regrant {f : State → State} (h : ∀ t, t.faults = s.faults → Frees A T t (f t)) : Frees A T s (regrant f s) := by
  cases state : s.grantOpen with
  | false =>
    rw [regrant_of_closed state]
    exact h s rfl
  | true =>
    rw [regrant_of_open state]
    exact ((frees_reopenGrant state).trans (h _ (faults_reopenGrant s))).trans (frees_relayGrant _)

theorem frees_handRelay {e : RelayEntry} (kind : e.kind = .release) (own : A e.slot) (s : State) : Frees A T s (handRelay e s) :=
  frees_regrant fun s _ => frees_setWaitList (fun f hf => (List.mem_append.mp hf).imp id fun h => by
    rw [List.mem_singleton.mp h]
    exact ⟨kind, own⟩) fun _ _ hf => List.mem_append_left _ hf

/-! ### Where the choice is closed -/

theorem Closes.of_drive (drive : t.pins.drive = s.pins.drive) (uptime : t.uptime = s.uptime)
    (ends : ∀ j, (t.slot j).releaseEnd = (s.slot j).releaseEnd ∨ (t.slot j).releaseEnd = .load) : Closes s t := by
  refine fun closed => ⟨Bool.eq_false_iff.mpr fun opened => ?_, drive⟩
  obtain ⟨e, busy, kind⟩ := grantOpen_iff.mp opened
  rw [drive, uptime] at busy
  refine Bool.eq_false_iff.mp closed (grantOpen_iff.mpr ⟨e, busy, kind.imp_right fun rep => ?_⟩)
  rcases ends e.slot with same | load
  · rw [← same, rep]
  · rw [rep] at load
    cases load

theorem Closes.of_faults (pins : t.pins.drive = s.pins.drive) (uptime : t.uptime = s.uptime) (faults : t.faults.slots = s.faults.slots) :
    Closes s t := .of_drive pins uptime fun j => .inl (by unfold State.slot; rw [faults])

theorem closes_setSlot {x : Slot} (h : x.releaseEnd = (s.slot k).releaseEnd ∨ x.releaseEnd = .load) : Closes s (s.setSlot k x) := by
  refine .of_drive rfl rfl fun j => ?_
  rw [State.slot_setSlot]
  split
  · next e => exact e ▸ h
  · exact .inl rfl

theorem closes_regrant {f : State → State} (h : Closes s (f s)) : Closes s (regrant f s) := fun closed => by
  rw [regrant_of_closed closed]
  exact h closed

theorem closes_handRelay (e : RelayEntry) (s : State) : Closes s (handRelay e s) := closes_regrant (.of_faults rfl rfl rfl)

theorem clearHolders_drive (k : Fin 32) (s : State) : (clearHolders k s).pins.drive = s.pins.drive := by rw [clearHolders_pins]

theorem closes_clearHolders (k : Fin 32) (s : State) : Closes s (clearHolders k s) :=
  .of_drive (clearHolders_drive k s) (State.still_uptime (still_clearHolders k s)) fun j => .inl (by rw [clearHolders_slot])

theorem closes_toLoaded (k : Fin 32) (s : State) : Closes s (toLoaded k s) := closes_setSlot (.inl rfl)

/-! ### One slot returned (R131, R133) -/

/-- A release that goes to LOADED, or is handed over. -/
theorem frees_handRelease (load : (s.slot k).releaseEnd = .load) (own : A k)
    (targets : ∀ g ∈ recordTargets (s.slot k), T g) : Frees A T s (handRelease k s) ∧ Closes s (handRelease k s) := by
  have done (t : State) (h : (t.slot k).releaseEnd = .load) : Frees A T t (releaseDone k t) ∧ Closes t (releaseDone k t) := by
    unfold releaseDone
    dsimp only
    rw [clearHolders_slot, h]
    exact ⟨(frees_clearHolders k t).trans (frees_toLoaded k _), (closes_clearHolders k t).trans (closes_toLoaded k _)⟩
  unfold handRelease
  split
  · exact done s load
  · next r record =>
    split
    · exact ⟨frees_handRelay rfl own s, closes_handRelay _ s⟩
    · have away := (frees_takeAway (A := A) r.action s).mono (A' := A) (T' := T) (fun _ h => h) fun g hg =>
        targets g (by rw [recordTargets_of_record record]; exact hg)
      obtain ⟨frees, closes⟩ := done (takeAway r.action s) (by rw [takeAway_slot]; exact load)
      obtain ⟨faults, -, -, -, drive, -⟩ := takeAway_rest r.action s
      exact ⟨away.trans frees, (Closes.of_faults drive away.uptime (by rw [faults])).trans closes⟩

/-- The slot is ACTIVE: its return hands a release over or takes its action away. -/
def Acts (s : State) (k : Fin 32) : Prop := (s.slot k).state = .active

variable {o : SlotOutcome}

/-- The outcome is written into the slot. -/
def noted (o : SlotOutcome) (k : Fin 32) (s : State) : State := s.setSlot k { s.slot k with outcome := o }

theorem noted_slot (o : SlotOutcome) (k : Fin 32) (s : State) : (noted o k s).slot k = { s.slot k with outcome := o } :=
  State.slot_setSlot_same ..

/-- How each state of a slot returns (R131, R133). -/
theorem returnSlot_of_armed (h : (s.slot k).state = .armed ∨ (s.slot k).state = .waiting) :
    returnSlot o k s = toLoaded k (noted o k s) := by
  rcases h with h | h <;> simp [returnSlot, State.returns, h, noted]

theorem returnSlot_of_aligning (h : (s.slot k).state = .aligning) :
    returnSlot o k s = toLoaded k (clearHolders k (closeWait k (noted o k s))) := by
  simp [returnSlot, State.returns, h, noted]

@[simp] theorem inFlight_setSlot (s : State) (k : Fin 32) (x : Slot) (j : Fin 32) : (s.setSlot k x).inFlight j = s.inFlight j := rfl

theorem returnSlot_of_listed (h : (s.slot k).state = .pending) (flies : s.inFlight k = false) :
    returnSlot o k s = toLoaded k (clearHolders k (withdrawApply k (noted o k s))) := by
  simp [returnSlot, State.returns, h, noted, flies]

theorem returnSlot_of_flying (h : (s.slot k).state = .pending) (flies : s.inFlight k = true) (rep : (s.slot k).releaseEnd = .rep) :
    returnSlot o k s = s.setSlot k { s.slot k with outcome := o, releaseEnd := .load } := by
  simp [returnSlot, State.returns, h, flies, rep]

theorem returnSlot_of_marked (h : (s.slot k).state = .pending ∧ s.inFlight k = true ∨ (s.slot k).state = .releasing)
    (load : (s.slot k).releaseEnd = .load) : returnSlot o k s = s := by
  rcases h with ⟨h, flies⟩ | h
  · simp [returnSlot, State.returns, h, flies, load]
  · simp [returnSlot, State.returns, h, load]

theorem returnSlot_of_releasing (h : (s.slot k).state = .releasing) (rep : (s.slot k).releaseEnd = .rep) :
    returnSlot o k s = s.setSlot k { s.slot k with outcome := o, releaseEnd := .load } := by
  simp [returnSlot, State.returns, h, rep]

theorem returnSlot_of_active (h : (s.slot k).state = .active) :
    returnSlot o k s = handRelease k (s.setSlot k { s.slot k with state := .releasing, outcome := o, releaseEnd := .load }) := by
  simp [returnSlot, State.returns, h]

theorem returnSlot_of_idle (h : (s.slot k).state = .empty ∨ (s.slot k).state = .loaded ∨ (s.slot k).state = .done) :
    returnSlot o k s = s := by
  rcases h with h | h | h <;> simp [returnSlot, State.returns, h]

/-- `Frees` with the choice left where it is closed. -/
def Lets (A : Fin 32 → Prop) (T : Fin 45 → Prop) (s t : State) : Prop := Frees A T s t ∧ Closes s t

theorem Lets.trans (h : Lets A T s t) (h' : Lets A T t u) : Lets A T s u := ⟨h.1.trans h'.1, h.2.trans h'.2⟩

theorem lets_setSlot {x : Slot} (h : x.releaseEnd = (s.slot k).releaseEnd ∨ x.releaseEnd = .load) : Lets A T s (s.setSlot k x) :=
  ⟨frees_setSlot k x s, closes_setSlot h⟩

theorem closeWait_drive (k : Fin 32) (s : State) : (closeWait k s).pins.drive = s.pins.drive := by
  unfold closeWait
  exact forEach_view (fun s : State => s.pins.drive) _ _ (fun p _ s => by split <;> rfl) s

theorem lets_closeWait (k : Fin 32) (s : State) : Lets A T s (closeWait k s) :=
  ⟨frees_closeWait k s, .of_drive (closeWait_drive k s) (State.still_uptime (still_closeWait k s)) fun j => .inl (by rw [closeWait_slot])⟩

theorem lets_withdrawApply (k : Fin 32) (s : State) : Lets A T s (withdrawApply k s) :=
  ⟨frees_withdrawApply k s, .of_faults rfl rfl rfl⟩

/-- A return is made of these steps: what each of them does, the return does. -/
theorem returnSlot_of_steps {R : State → State → Prop} (o : SlotOutcome) (k : Fin 32) (s : State) (refl : ∀ s, R s s)
    (trans : ∀ s t u, R s t → R t u → R s u)
    (slot : ∀ s x, x.releaseEnd = (s.slot k).releaseEnd ∨ x.releaseEnd = .load → R s (s.setSlot k x))
    (clear : ∀ s, R s (clearHolders k s)) (close : ∀ s, R s (closeWait k s)) (withdraw : ∀ s, R s (withdrawApply k s))
    (hand : ∀ x, x.releaseEnd = .load → recordTargets x = recordTargets (s.slot k) → Acts s k →
      R (s.setSlot k x) (handRelease k (s.setSlot k x))) : R s (returnSlot o k s) := by
  have same {t : State} (h : t = s) : R s t := by rw [h]; exact refl s
  have load (t : State) : R t (toLoaded k t) := by
    unfold toLoaded
    exact slot t _ (.inl rfl)
  have unload (t : State) : R t (toLoaded k (clearHolders k t)) := trans _ _ _ (clear t) (load _)
  have note : R s (noted o k s) := slot s _ (.inl rfl)
  cases state : (s.slot k).state with
  | empty => exact same (returnSlot_of_idle (.inl state))
  | loaded => exact same (returnSlot_of_idle (.inr (.inl state)))
  | done => exact same (returnSlot_of_idle (.inr (.inr state)))
  | armed =>
    rw [returnSlot_of_armed (.inl state)]
    exact trans _ _ _ note (load _)
  | waiting =>
    rw [returnSlot_of_armed (.inr state)]
    exact trans _ _ _ note (load _)
  | aligning =>
    rw [returnSlot_of_aligning state]
    exact trans _ _ _ (trans _ _ _ note (close _)) (unload _)
  | pending =>
    cases flies : s.inFlight k with
    | false =>
      rw [returnSlot_of_listed state flies]
      exact trans _ _ _ (trans _ _ _ note (withdraw _)) (unload _)
    | true =>
      cases ends : (s.slot k).releaseEnd with
      | rep =>
        rw [returnSlot_of_flying state flies ends]
        exact slot s _ (.inr rfl)
      | load => exact same (returnSlot_of_marked (.inl ⟨state, flies⟩) ends)
  | active =>
    rw [returnSlot_of_active state]
    exact trans _ _ _ (slot s _ (.inr rfl)) (hand _ rfl rfl state)
  | releasing =>
    cases ends : (s.slot k).releaseEnd with
    | rep =>
      rw [returnSlot_of_releasing state ends]
      exact slot s _ (.inr rfl)
    | load => exact same (returnSlot_of_marked (.inr state) ends)

theorem lets_returnSlot (o : SlotOutcome) (own : Acts s k → A k) (targets : Acts s k → ∀ g ∈ recordTargets (s.slot k), T g) :
    Lets A T s (returnSlot o k s) :=
  returnSlot_of_steps (R := Lets A T) o k s (fun s => ⟨.refl s, .refl s⟩) (fun _ _ _ h h' => h.trans h')
    (fun _ _ h => lets_setSlot h)
    (fun s => ⟨frees_clearHolders k s, closes_clearHolders k s⟩) (lets_closeWait k) (lets_withdrawApply k)
    fun x load same acts => frees_handRelease (by rw [State.slot_setSlot_same]; exact load) (own acts) (by
      rw [State.slot_setSlot_same, same]
      exact targets acts)

/-! ### What a return leaves of the other slots -/

/-- Slot `j` and what it holds stay. -/
def Spares (j : Fin 32) (s t : State) : Prop := t.slot j = s.slot j ∧ ∀ g, t.holder g = some j ↔ s.holder g = some j

theorem Spares.refl (j : Fin 32) (s : State) : Spares j s s := ⟨rfl, fun _ => .rfl⟩

theorem Spares.trans {j : Fin 32} (h : Spares j s t) (h' : Spares j t u) : Spares j s u :=
  ⟨h'.1.trans h.1, fun g => (h'.2 g).trans (h.2 g)⟩

theorem Spares.of_faults {j : Fin 32} (h : t.faults = s.faults) : Spares j s t := by
  refine ⟨?_, fun g => ?_⟩
  · unfold State.slot
    rw [h]
  · unfold State.holder
    rw [h]

theorem spares_clearHolders {j : Fin 32} (h : j ≠ k) (s : State) : Spares j s (clearHolders k s) := by
  refine ⟨clearHolders_slot .., fun g => ?_⟩
  rw [clearHolders_holder]
  split
  · next own => exact ⟨nofun, fun e => absurd (Option.some.inj (e.symm.trans own)) h⟩
  · exact .rfl

theorem spares_setSlot {j : Fin 32} (h : j ≠ k) (x : Slot) (s : State) : Spares j s (s.setSlot k x) :=
  ⟨State.slot_setSlot_other _ _ _ _ h, fun _ => .rfl⟩

theorem spares_releaseDone {j : Fin 32} (h : j ≠ k) (s : State) : Spares j s (releaseDone k s) := by
  refine ⟨releaseDone_slot_other k s j h, fun g => ?_⟩
  rw [releaseDone_holder, ← clearHolders_holder]
  exact (spares_clearHolders h s).2 g

theorem spares_handRelease {j : Fin 32} (h : j ≠ k) (s : State) : Spares j s (handRelease k s) := by
  unfold handRelease
  split
  · exact spares_releaseDone h s
  · split
    · exact .of_faults (State.offDrive_faults (offDrive_handRelay _ s))
    · exact (Spares.of_faults (takeAway_rest _ s).1).trans (spares_releaseDone h _)

theorem closeWait_faults (k : Fin 32) (s : State) : (closeWait k s).faults = s.faults := by
  unfold closeWait
  exact forEach_view (fun s : State => s.faults) _ _ (fun p _ s => by split <;> rfl) s

theorem spares_returnSlot {j : Fin 32} (h : j ≠ k) (o : SlotOutcome) (s : State) : Spares j s (returnSlot o k s) :=
  returnSlot_of_steps o k s (Spares.refl j) (fun _ _ _ => Spares.trans) (fun s x _ => spares_setSlot h x s)
    (spares_clearHolders h) (fun s => .of_faults (closeWait_faults k s)) (fun _ => .of_faults rfl)
    fun _ _ _ _ => spares_handRelease h _

theorem spares_regrant {j : Fin 32} {f : State → State} (h : ∀ t, Spares j t (f t)) (s : State) : Spares j s (regrant f s) := by
  unfold regrant
  split
  · exact ((Spares.of_faults (faults_reopenGrant s)).trans (h _)).trans (.of_faults (faults_relayGrant _))
  · exact h s

theorem spares_cancelSlot {j : Fin 32} (h : j ≠ k) (s : State) : Spares j s (cancelSlot k s) := by
  unfold cancelSlot
  split
  · exact spares_regrant (spares_returnSlot h .cancelled) s
  · exact spares_returnSlot h .cancelled s

theorem Acts.congr (h : t.slot k = s.slot k) : Acts t k ↔ Acts s k := by unfold Acts; rw [h]

theorem lets_cancelSlot (own : Acts s k → A k) (targets : Acts s k → ∀ g ∈ recordTargets (s.slot k), T g) :
    Lets A T s (cancelSlot k s) := by
  have returned (t : State) (h : t.faults = s.faults) : Lets A T t (returnSlot .cancelled k t) := by
    have same : t.slot k = s.slot k := by unfold State.slot; rw [h]
    exact lets_returnSlot .cancelled (own ∘ (Acts.congr same).mp) fun acts => by
      rw [same]
      exact targets ((Acts.congr same).mp acts)
  unfold cancelSlot
  split
  · exact ⟨frees_regrant fun t h => (returned t h).1, closes_regrant (returned s rfl).2⟩
  · exact returned s rfl

/-! ### All the slots returned -/

/-- A pass over slots in which each touches its own. -/
structure Passes (A : Fin 32 → Prop) (T : Fin 45 → Prop) (f : Fin 32 → State → State) : Prop where
  lets : ∀ k s, (Acts s k → A k) → (Acts s k → ∀ g ∈ recordTargets (s.slot k), T g) → Lets A T s (f k s)
  spares : ∀ k s j, j ≠ k → Spares j s (f k s)

variable {f : Fin 32 → State → State}

/-- The slots still to return are those the parameters allow. -/
def Allowed (A : Fin 32 → Prop) (T : Fin 45 → Prop) (s : State) (k : Fin 32) : Prop :=
  Acts s k → A k ∧ ∀ g ∈ recordTargets (s.slot k), T g

theorem Allowed.congr (h : t.slot k = s.slot k) (a : Allowed A T s k) : Allowed A T t k := by
  unfold Allowed
  rw [Acts.congr h, h]
  exact a

theorem Passes.loop (h : Passes A T f) {xs : List (Fin 32)} (nodup : xs.Nodup) (s : State) (all : ∀ k ∈ xs, Allowed A T s k) :
    Lets A T s (forEach xs f s) := by
  induction xs generalizing s with
  | nil => exact ⟨.refl s, .refl s⟩
  | cons k xs ih =>
    have head := all k (by simp)
    refine (h.lets k s (fun acts => (head acts).1) fun acts => (head acts).2).trans (ih (List.nodup_cons.mp nodup).2 _ fun j hj => ?_)
    have apart : j ≠ k := fun e => (List.nodup_cons.mp nodup).1 (e ▸ hj)
    exact (all j (by simp [hj])).congr (h.spares k s j apart).1

theorem Passes.loop_spares (h : Passes A T f) {xs : List (Fin 32)} {j : Fin 32} (apart : j ∉ xs) (s : State) :
    Spares j s (forEach xs f s) :=
  forEach_keeps (Spares j s) xs f (fun x hx t ht => ht.trans (h.spares x t j fun e => apart (e ▸ hx))) s (.refl j s)

/-- One slot's return within the pass: the others' before and after it leave the slot to it. -/
theorem Passes.at (h : Passes A T f) (k : Fin 32) (s : State) (all : ∀ k, Allowed A T s k) : ∃ u,
    Lets A T s u ∧ Spares k s u ∧ Lets A T (f k u) (forEach allSlots f s) ∧ Spares k (f k u) (forEach allSlots f s) := by
  obtain ⟨before, behind, split⟩ := List.append_of_mem (mem_allSlots k)
  have nodup := split ▸ nodup_allSlots
  have apart := List.nodup_append.mp nodup
  have fresh := List.nodup_cons.mp apart.2.1
  have not_before : k ∉ before := fun hk => apart.2.2 k hk k (by simp) rfl
  have early := h.loop apart.1 s fun j _ => all j
  have spared := h.loop_spares not_before s
  refine ⟨forEach before f s, early, spared, ?_⟩
  rw [split, forEach_append, forEach_cons]
  refine ⟨h.loop fresh.2 _ fun j hj => ?_, h.loop_spares fresh.1 _⟩
  have not_k : j ≠ k := fun e => fresh.1 (e ▸ hj)
  have late : j ∉ before := fun hb => apart.2.2 j hb j (by simp [hj]) rfl
  exact (all j).congr (((h.spares k _ j not_k).1).trans (h.loop_spares late s).1)

end Sys2Proof.Machine
end

section
/-! PROOFS. FAULT-ARM and FAULT-CANCEL: O36, O37. -/

namespace Sys2Proof.Machine

open Sys2Proof.Safety

variable {s t u : State} {k : Fin 32} {o : SlotOutcome}

/-! ### Masks of slots -/

theorem getLsbD_foldl_twoPow (ks : List (Fin 32)) (m : SlotMask) (k : Fin 32) :
    (ks.foldl (fun m j => m ||| BitVec.twoPow 32 j.val) m).getLsbD k.val = (m.getLsbD k.val || decide (k ∈ ks)) := by
  induction ks generalizing m with
  | nil => simp
  | cons j ks ih =>
    have bit : (BitVec.twoPow 32 j.val).getLsbD k.val = decide (k = j) := by
      rw [BitVec.getLsbD_twoPow]
      simp [Fin.ext_iff, eq_comm]
    rw [List.foldl_cons, ih, BitVec.getLsbD_or, bit, Bool.or_assoc, ← Bool.decide_or]
    simp

theorem getLsbD_maskOf (f : Fin 32 → Bool) (k : Fin 32) : (maskOf f).getLsbD k.val = f k := by
  unfold maskOf
  rw [getLsbD_foldl_twoPow]
  simp [mem_allSlots]

/-! ### FAULT-ARM (R118) -/

theorem armable_iff : s.armable k = true ↔ (s.slot k).state = .loaded ∨ (s.slot k).state = .done := by
  simp [State.armable]

/-- The slot after FAULT-ARM names it in microsecond `now`. -/
def armed (now : Nat) (x : Slot) : Slot :=
  if x.state = .loaded ∨ x.state = .done then
    { x with
      state := .armed, remaining := .ofRepeat ((x.record.map (·.rep)).getD 0), occurrences := 0, progress := 0, late := false
      releaseEnd := .rep, since := now }
  else x

theorem armSlot_eq (k : Fin 32) (s : State) : armSlot k s = s.setSlot k (armed s.uptime (s.slot k)) := by
  unfold armSlot armed
  dsimp only
  by_cases h : s.armable k = true
  · rw [if_pos h, if_pos (armable_iff.mp h)]
  · rw [if_neg h, if_neg (mt armable_iff.mpr h), State.setSlot_slot_self]

/-- The slots of a mask armed, one after the other. -/
def armMask (mask : SlotMask) (s : State) : State :=
  forEach allSlots (fun k s => if mask.getLsbD k.val then armSlot k s else s) s

theorem armMask_rest (mask : SlotMask) (s : State) :
    { armMask mask s with faults := { (armMask mask s).faults with slots := s.faults.slots } } = s := by
  unfold armMask
  refine forEach_view (fun t : State => { t with faults := { t.faults with slots := s.faults.slots } }) allSlots
    (fun k s => if mask.getLsbD k.val then armSlot k s else s) (fun k _ t => ?_) s
  dsimp only
  split
  · rw [armSlot_eq]
    rfl
  · rfl

theorem armMask_slot (mask : SlotMask) (s : State) (k : Fin 32) :
    (armMask mask s).slot k = if mask.getLsbD k.val then armed s.uptime (s.slot k) else s.slot k := by
  unfold armMask
  refine congrArg (·.1) (forEach_at (fun t => (t.slot k, t.uptime))
    (fun v => (if mask.getLsbD k.val then armed v.2 v.1 else v.1, v.2)) k allSlots
    (fun k s => if mask.getLsbD k.val then armSlot k s else s) (mem_allSlots k) nodup_allSlots (fun j _ hj t => ?_) (fun t => ?_) s)
  · split
    · rw [armSlot_eq, State.slot_setSlot_other _ _ _ _ hj.symm]
      rfl
    · rfl
  · dsimp only
    split
    · rw [armSlot_eq, State.slot_setSlot_same]
      rfl
    · rfl

/-- Settles O36: the pass of each slot is the only one that touches it. -/
theorem faultArmArmsItsSlots : Obligations.FaultArmArmsItsSlots := by
  intro mask s named
  have slot := armMask_slot mask s
  have rest := armMask_rest mask s
  have exec_eq : exec (.faultArm mask) s = .next (answered 0x52 .ok
      (le 4 (maskOf fun k => mask.getLsbD k.val && s.armable k).toNat) (armMask mask s)) :=
    next_answered (r := reqFaultArm mask s) rfl nofun nofun
  generalize armMask mask s = t at slot rest exec_eq
  have field {α : Type} (f : State → α) := congrArg f rest
  refine ⟨_, maskOf fun k => mask.getLsbD k.val && s.armable k, exec_eq, fun k hk => ?_, fun k hk => ?_, fun k => ?_, ?_, field (·.faults.holders)⟩
  · show t.slot k = _
    rw [slot k, if_pos hk.1, armed, if_pos hk.2]
    cases hr : (s.slot k).record with
    | none => simp [Reps.ofRepeat, hr]
    | some r => simp [Reps.ofRepeat, hr]
  · show t.slot k = _
    rw [slot k]
    split
    · next bit => rw [armed, if_neg fun idle => hk ⟨bit, idle⟩]
    · rfl
  · rw [getLsbD_maskOf, Bool.and_eq_true, armable_iff]
  · exact field fun v => answered 0x52 .ok _ { v with faults := s.faults }

/-! ### What the return of one slot makes of it -/

/-- The slot LOADED with an outcome, its staged copy its record (R115, R131). -/
def unloaded (o : SlotOutcome) (x : Slot) : Slot :=
  { x with state := .loaded, outcome := o, record := x.staged.or x.record, staged := none }

theorem toLoaded_noted (h : u.slot k = { s.slot k with outcome := o }) : (toLoaded k u).slot k = unloaded o (s.slot k) := by
  rw [toLoaded_slot_same, h]
  rfl

theorem not_holder_clearHolders (k : Fin 32) (s : State) (g : Fin 45) : (clearHolders k s).holder g ≠ some k := by
  rw [clearHolders_holder]
  split
  · nofun
  · next h => exact h

theorem toLoaded_holder (k : Fin 32) (s : State) (g : Fin 45) : (toLoaded k s).holder g = s.holder g := rfl

theorem not_holder_unload (k : Fin 32) (s : State) (g : Fin 45) : (toLoaded k (clearHolders k s)).holder g ≠ some k := by
  rw [toLoaded_holder]
  exact not_holder_clearHolders k s g

theorem returned_armed (h : (s.slot k).state = .armed ∨ (s.slot k).state = .waiting) :
    (returnSlot o k s).slot k = unloaded o (s.slot k) := by
  rw [returnSlot_of_armed h]
  exact toLoaded_noted (noted_slot o k s)

theorem returned_aligning (h : (s.slot k).state = .aligning) :
    (returnSlot o k s).slot k = unloaded o (s.slot k) ∧ (∀ g, (returnSlot o k s).holder g ≠ some k)
      ∧ ∀ p, ∀ w ∈ (returnSlot o k s).wait p, w.slot ≠ k := by
  rw [returnSlot_of_aligning h]
  refine ⟨toLoaded_noted (by rw [clearHolders_slot, closeWait_slot, noted_slot]), not_holder_unload k _, fun p w hw => ?_⟩
  unfold State.wait at hw
  rw [toLoaded_pins, clearHolders_pins] at hw
  change w ∈ (closeWait k (noted o k s)).wait p at hw
  rw [closeWait_wait] at hw
  split at hw
  · cases hw
  · next none_own =>
    intro own
    exact none_own (by rw [Option.mem_def.mp hw]; simp [own])

theorem returned_listed (h : (s.slot k).state = .pending) (flies : s.inFlight k = false) :
    (returnSlot o k s).slot k = unloaded o (s.slot k) ∧ (∀ g, (returnSlot o k s).holder g ≠ some k)
      ∧ ∀ e ∈ transitions (returnSlot o k s), e.slot = k → e.kind = .release := by
  rw [returnSlot_of_listed h flies]
  refine ⟨toLoaded_noted (by rw [clearHolders_slot, withdrawApply_slot, noted_slot]), not_holder_unload k _, fun e he own => ?_⟩
  unfold transitions at he
  rw [toLoaded_pins, clearHolders_pins] at he
  rcases List.mem_append.mp he with busy | waits
  · change e ∈ (match s.pins.drive with | .busy e _ => [e] | .free | .recovering _ => []) at busy
    unfold State.inFlight at flies
    cases drive : s.pins.drive with
    | busy f x =>
      rw [drive] at busy flies
      rw [List.mem_singleton.mp busy] at own
      simp [own] at flies
    | free => rw [drive] at busy; cases busy
    | recovering => rw [drive] at busy; cases busy
  · have kept := (List.mem_filter.mp waits).2
    cases kind : e.kind with
    | release => rfl
    | apply => simp [own, kind] at kept

theorem returned_instant {r : FaultRecord} (h : (s.slot k).state = .active) (record : (s.slot k).record = some r)
    (relay : r.action.relay = none) :
    (returnSlot o k s).slot k = { unloaded o (s.slot k) with releaseEnd := .load }
      ∧ (∀ g, (returnSlot o k s).holder g ≠ some k) ∧ takenAway r.action (returnSlot o k s) := by
  rw [returnSlot_of_active h]
  generalize hu : s.setSlot k { s.slot k with state := .releasing, outcome := o, releaseEnd := .load } = u
  have slot : u.slot k = { s.slot k with state := .releasing, outcome := o, releaseEnd := .load } := by
    rw [← hu, State.slot_setSlot_same]
  have released : handRelease k u = toLoaded k (clearHolders k (takeAway r.action u)) := by
    rw [handRelease, slot, record]
    dsimp only
    rw [relay]
    unfold releaseDone
    dsimp only
    rw [clearHolders_slot, takeAway_slot, slot]
  have own : (toLoaded k (clearHolders k (takeAway r.action u))).slot k = { unloaded o (s.slot k) with releaseEnd := .load } := by
    rw [toLoaded_slot_same, clearHolders_slot, takeAway_slot, slot]
    rfl
  rw [released]
  refine ⟨own, not_holder_unload k _, ?_⟩
  have cleared := (frees_clearHolders (A := fun _ => True) (T := fun _ => True) k (takeAway r.action u)).trans (frees_toLoaded k _)
  exact cleared.away _ (takeAway_away r.action u)

/-- A relay release is handed over (R126, R151). -/
theorem handRelay_waits (e : RelayEntry) (s : State) : Waits e (handRelay e s) := by
  unfold handRelay
  cases closed : s.grantOpen with
  | false =>
    rw [regrant_of_closed closed]
    exact .inl (List.mem_append_right _ (.head _))
  | true =>
    rw [regrant_of_open closed]
    have listed : e ∈ ((reopenGrant s).setWaitList ((reopenGrant s).pins.waitList ++ [e])).pins.waitList :=
      List.mem_append_right _ (.head _)
    rcases relayGrant_cases ((reopenGrant s).setWaitList ((reopenGrant s).pins.waitList ++ [e])) with ⟨-, same⟩ | ⟨f, -, -, granted⟩
    · rw [same]
      exact .inl listed
    · rw [granted]
      by_cases chosen : e = f
      · exact .inr (by rw [chosen]; rfl)
      · exact .inl ((List.mem_erase_of_ne chosen).mpr listed)

theorem returned_relay {r : FaultRecord} {path : RelayPath} (h : (s.slot k).state = .active) (record : (s.slot k).record = some r)
    (relay : r.action.relay = some path) :
    (returnSlot o k s).slot k = { s.slot k with state := .releasing, outcome := o, releaseEnd := .load }
      ∧ Waits { slot := k, kind := .release, path := path, since := s.uptime } (returnSlot o k s)
      ∧ (∀ g, (returnSlot o k s).holder g = s.holder g) := by
  rw [returnSlot_of_active h]
  generalize hu : s.setSlot k { s.slot k with state := .releasing, outcome := o, releaseEnd := .load } = u
  have slot : u.slot k = { s.slot k with state := .releasing, outcome := o, releaseEnd := .load } := by
    rw [← hu, State.slot_setSlot_same]
  have handed : handRelease k u = handRelay { slot := k, kind := .release, path := path, since := u.uptime } u := by
    rw [handRelease, slot, record]
    dsimp only
    rw [relay]
  rw [handed]
  refine ⟨by rw [handRelay_slot, slot], ?_, fun g => by rw [handRelay_holder, ← hu, State.setSlot_holder]⟩
  have waits := handRelay_waits { slot := k, kind := .release, path := path, since := u.uptime } u
  rwa [show u.uptime = s.uptime by rw [← hu]; rfl] at waits ⊢

/-! ### FAULT-CANCEL (R131, R155) -/

theorem cancelSlot_of_not (h : ¬ ((s.slot k).state = .pending ∧ s.inFlight k = true)) : cancelSlot k s = returnSlot .cancelled k s :=
  if_neg h

theorem cancelSlot_of_flying (h : (s.slot k).state = .pending) (flies : s.inFlight k = true) :
    cancelSlot k s = regrant (returnSlot .cancelled k) s := if_pos ⟨h, flies⟩

theorem inFlight_iff : s.inFlight k = true ↔ ∃ e x, s.pins.drive = .busy e x ∧ e.slot = k := by
  unfold State.inFlight
  cases s.pins.drive with
  | busy e x => simp
  | free => simp
  | recovering => simp

theorem inFlight_congr (h : t.pins.drive = s.pins.drive) : t.inFlight k = s.inFlight k := by
  unfold State.inFlight
  rw [h]

/-- What a cancel of a PENDING slot whose APPLY waits or was granted in this microsecond does. -/
def Withdrawn (o : SlotOutcome) (k : Fin 32) (s t : State) : Prop :=
  t.slot k = unloaded o (s.slot k) ∧ (∀ g, t.holder g ≠ some k) ∧ ∀ e ∈ transitions t, e.slot = k → e.kind = .release

theorem cancelled_listed (h : (s.slot k).state = .pending) (rep : (s.slot k).releaseEnd = .rep)
    (now : ∀ e x, s.pins.drive = .busy e x → e.slot = k → x = s.uptime) : Withdrawn .cancelled k s (cancelSlot k s) := by
  cases flies : s.inFlight k with
  | false =>
    rw [cancelSlot_of_not (by simp [flies])]
    exact returned_listed h flies
  | true =>
    obtain ⟨e, x, busy, own⟩ := inFlight_iff.mp flies
    have opened : s.grantOpen = true := grantOpen_iff.mpr ⟨e, by rw [busy, now e x busy own], .inr (by rw [own, rep])⟩
    have slot : (reopenGrant s).slot k = s.slot k := by unfold State.slot; rw [faults_reopenGrant]
    have grounded : (reopenGrant s).inFlight k = false := by
      unfold reopenGrant State.inFlight
      rw [busy]
      rfl
    rw [cancelSlot_of_flying h flies, regrant_of_open opened]
    obtain ⟨y, holder, entries⟩ := returned_listed (o := .cancelled) (by rw [slot]; exact h) grounded
    have faults := faults_relayGrant (returnSlot .cancelled k (reopenGrant s))
    have perm := (same_relayGrant (returnSlot .cancelled k (reopenGrant s))).entry
    generalize relayGrant (returnSlot .cancelled k (reopenGrant s)) = t at faults perm
    refine ⟨?_, fun g => ?_, fun e he => entries e (perm.mem_iff.mp he)⟩
    · unfold State.slot at y ⊢
      rw [faults, y]
      exact congrArg _ slot
    · unfold State.holder at holder ⊢
      rw [faults]
      exact holder g

/-- The slots of a mask cancelled, one after the other. -/
def cancelIn (mask : SlotMask) (k : Fin 32) (s : State) : State := if mask.getLsbD k.val then cancelSlot k s else s

theorem passes_cancelIn (A : Fin 32 → Prop) (T : Fin 45 → Prop) (mask : SlotMask) : Passes A T (cancelIn mask) where
  lets k s own targets := by
    unfold cancelIn
    split
    · exact lets_cancelSlot own targets
    · exact ⟨.refl s, .refl s⟩
  spares k s j h := by
    unfold cancelIn
    split
    · exact spares_cancelSlot h s
    · exact .refl j s

/-- The targets of the slots that are ACTIVE. -/
def ActiveTarget (s : State) (g : Fin 45) : Prop := ∃ j, Acts s j ∧ g ∈ recordTargets (s.slot j)

theorem allowed_active (s : State) (k : Fin 32) : Allowed (Acts s) (ActiveTarget s) s k := fun acts => ⟨acts, fun _ hg => ⟨k, acts, hg⟩⟩

theorem grantOpen_eq_false (h : ∀ e, s.pins.drive ≠ .busy e s.uptime) : s.grantOpen = false := by
  refine Bool.eq_false_iff.mpr fun opened => ?_
  obtain ⟨e, busy, -⟩ := grantOpen_iff.mp opened
  exact h e busy

/-- Settles O37: each slot's own pass decides it; the passes before leave it and the drive to it, those after keep what it did. -/
theorem faultCancelReturnsItsSlots : Obligations.FaultCancelReturnsItsSlots := by
  intro mask s
  have passes := passes_cancelIn (Acts s) (ActiveTarget s) mask
  have loop := passes.loop nodup_allSlots s fun k _ => allowed_active s k
  have at_slot (k : Fin 32) := passes.at k s (allowed_active s)
  obtain ⟨changed, bits, exec_eq⟩ : ∃ changed : SlotMask, (∀ k : Fin 32, changed.getLsbD k.val = (mask.getLsbD k.val && s.returns k))
      ∧ exec (.faultCancel mask) s = .next (answered 0x53 .ok (le 4 changed.toNat) (forEach allSlots (cancelIn mask) s)) :=
    ⟨maskOf fun k => mask.getLsbD k.val && s.returns k, getLsbD_maskOf _,
      next_answered (r := reqFaultCancel mask s) rfl nofun nofun⟩
  generalize forEach allSlots (cancelIn mask) s = t at loop at_slot exec_eq
  obtain ⟨frees, closes⟩ := loop
  refine ⟨_, changed, exec_eq, ?_, frees.run, (State.still_trace frees.still :),
    (State.still_cap frees.still :), frees.uptime, frees.map, fun h => (closes (grantOpen_eq_false h)).2,
    (congrArg Notices.faultMask frees.ntc :), frees.pending .fault nofun, fun k => ?_⟩
  · unfold answered
    dsimp only
    rw [frees.uptime, State.still_link frees.still]
  clear exec_eq
  obtain ⟨u, ⟨early, closed⟩, ⟨slot, -⟩, ⟨late, -⟩, ⟨own, held⟩⟩ := at_slot k
  intro x y loaded flies now
  have x_eq : u.slot k = x := slot
  have y_eq : y = (cancelIn mask k u).slot k := own
  rw [bits k]
  refine ⟨fun bit => ⟨?_, by rw [bit, Bool.false_and]⟩, fun bit => ?_⟩
  · rw [y_eq, cancelIn, if_neg (Bool.eq_false_iff.mp bit), x_eq]
  rw [bit, Bool.true_and]
  rw [show cancelIn mask k u = cancelSlot k u from if_pos bit] at y_eq late held
  generalize hv : cancelSlot k u = v at y_eq late held
  have released (h : ∀ g, v.holder g ≠ some k) (g : Fin 45) : t.holder g ≠ some k := fun e => h g ((held g).mp e)
  have is_loaded (h : v.slot k = unloaded .cancelled x) : loaded := by
    show y.state = _ ∧ y.outcome = _ ∧ y.record = _ ∧ y.staged = _ ∧ y.remaining = _
    rw [y_eq, h]
    exact ⟨rfl, rfl, rfl, rfl, rfl⟩
  have plain (h : x.state ≠ .pending) : v = returnSlot .cancelled k u := by
    rw [← hv, cancelSlot_of_not fun both => h (x_eq ▸ both.1)]
  have flying {e : RelayEntry} {w : Nat} (h : s.grantOpen = false) (busy : s.pins.drive = .busy e w) (own : e.slot = k) :
      u.inFlight k = true ∧ (x.state = .pending → v = returnSlot .cancelled k u) := by
    have stands := closed h
    have flies : u.inFlight k = true := by
      rw [inFlight_congr stands.2]
      exact inFlight_iff.mpr ⟨e, w, busy, own⟩
    exact ⟨flies, fun state => by rw [← hv, cancelSlot_of_flying (x_eq ▸ state) flies, regrant_of_closed stands.1]⟩
  have returns : s.returns k = match x.state with
    | .armed | .waiting | .aligning | .active => true
    | .pending => !s.inFlight k || x.releaseEnd == .rep
    | .releasing => x.releaseEnd == .rep
    | .empty | .loaded | .done => false := rfl
  refine ⟨fun idle => ?_, fun ready => ?_, fun aligning => ?_, fun pending rep open_or => ?_, fun pending rep flies' shut => ?_,
    fun releasing rep => ?_, fun load marked => ?_, fun active => ?_⟩
  · have v_eq := plain (by rcases idle with h | h | h <;> rw [h] <;> nofun)
    rw [returnSlot_of_idle (by rw [x_eq]; exact idle)] at v_eq
    refine ⟨by rw [y_eq, v_eq, x_eq], ?_⟩
    rw [returns]
    rcases idle with h | h | h <;> rw [h]
  · have v_eq := plain (by rcases ready with h | h <;> rw [h] <;> nofun)
    have result := returned_armed (o := .cancelled) (s := u) (k := k) (by rw [x_eq]; exact ready)
    refine ⟨is_loaded (by rw [v_eq, result, x_eq]), ?_⟩
    rw [returns]
    rcases ready with h | h <;> rw [h]
  · have v_eq := plain (by rw [aligning]; nofun)
    obtain ⟨result, holder, wait⟩ := returned_aligning (o := .cancelled) (s := u) (k := k) (by rw [x_eq]; exact aligning)
    rw [← v_eq] at result holder wait
    refine ⟨is_loaded (by rw [result, x_eq]), by rw [returns, aligning], released holder, fun p w hw => wait p w (late.wait p w hw)⟩
  · have granted_now (e : RelayEntry) (w : Nat) (busy : u.pins.drive = .busy e w) (own : e.slot = k) : w = u.uptime := by
      rw [early.uptime]
      rcases early.drive e w busy with now' | same
      · exact now'
      · rw [same] at busy
        have flies_s : s.inFlight k = true := inFlight_iff.mpr ⟨e, w, busy, own⟩
        obtain grounded | ⟨f, busy'⟩ := open_or
        · exact absurd (grounded.symm.trans flies_s) nofun
        · rw [busy] at busy'
          exact (Drive.busy.inj busy').2
    obtain ⟨result, holder, entries⟩ := hv ▸ cancelled_listed (by rw [x_eq]; exact pending) (by rw [x_eq]; exact rep) granted_now
    have releases (e : RelayEntry) (he : e ∈ transitions t) (own : e.slot = k) : e.kind = .release :=
      (late.entries e he).elim (fun he => entries e he own) And.left
    refine ⟨is_loaded (by rw [result, x_eq]), by rw [returns, pending, rep]; exact Bool.or_true _, released holder,
      fun e he => releases e (List.mem_append_right _ he), fun e w busy => releases e ?_⟩
    have busy : t.pins.drive = .busy e w := busy
    rw [transitions_of_busy busy]
    exact .head _
  · obtain ⟨e, w, busy, own⟩ := inFlight_iff.mp flies'
    have shut_s : s.grantOpen = false := grantOpen_eq_false fun f hf => shut ⟨f, hf⟩
    obtain ⟨flies_u, v_eq⟩ := flying shut_s busy own
    rw [returnSlot_of_flying (by rw [x_eq]; exact pending) flies_u (by rw [x_eq]; exact rep)] at v_eq
    refine ⟨by rw [y_eq, v_eq pending, State.slot_setSlot_same, x_eq], by rw [returns, pending, rep]; exact Bool.or_true _⟩
  · have v_eq := plain (by rw [releasing]; nofun)
    rw [returnSlot_of_releasing (by rw [x_eq]; exact releasing) (by rw [x_eq]; exact rep)] at v_eq
    exact ⟨by rw [y_eq, v_eq, State.slot_setSlot_same, x_eq], by rw [returns, releasing, rep]; rfl⟩
  · rcases marked with ⟨pending, e, w, busy, own, kind⟩ | releasing
    · have shut : s.grantOpen = false := by
        refine Bool.eq_false_iff.mpr fun opened => ?_
        obtain ⟨f, busy', choice⟩ := grantOpen_iff.mp opened
        obtain ⟨rfl, -⟩ := Drive.busy.inj (busy.symm.trans busy')
        rcases choice with release | rep
        · rw [kind] at release
          cases release
        · rw [own] at rep
          rw [show (s.slot k).releaseEnd = .load from load] at rep
          cases rep
      obtain ⟨flies_u, v_eq⟩ := flying shut busy own
      have flies_s : s.inFlight k = true := inFlight_iff.mpr ⟨e, w, busy, own⟩
      rw [returnSlot_of_marked (.inl ⟨by rw [x_eq]; exact pending, flies_u⟩) (by rw [x_eq]; exact load)] at v_eq
      exact ⟨by rw [y_eq, v_eq pending, x_eq], by rw [returns, pending, flies_s, load]; rfl⟩
    · have v_eq := plain (by rw [releasing]; nofun)
      rw [returnSlot_of_marked (.inr (by rw [x_eq]; exact releasing)) (by rw [x_eq]; exact load)] at v_eq
      exact ⟨by rw [y_eq, v_eq, x_eq], by rw [returns, releasing, load]; rfl⟩
  · have v_eq := plain (by rw [active]; nofun)
    refine ⟨by rw [returns, active], fun r record => ⟨fun instant => ?_, fun path relay => ?_⟩⟩
    · obtain ⟨result, holder, away⟩ := returned_instant (o := .cancelled) (s := u) (k := k) (by rw [x_eq]; exact active)
        (by rw [x_eq]; exact record) instant
      rw [← v_eq] at result holder away
      refine ⟨?_, released holder, ?_⟩
      · show y.state = _ ∧ y.outcome = _ ∧ y.record = _ ∧ y.staged = _ ∧ y.remaining = _
        rw [y_eq, result, x_eq]
        exact ⟨rfl, rfl, rfl, rfl, rfl⟩
      · have kept := late.away r.action away
        cases h : r.action <;> rw [h] at kept <;> exact kept
    · obtain ⟨result, waits, -⟩ := returned_relay (o := .cancelled) (s := u) (k := k) (by rw [x_eq]; exact active)
        (by rw [x_eq]; exact record) relay
      rw [← v_eq, early.uptime] at waits
      rw [← v_eq] at result
      refine ⟨by rw [y_eq, result, x_eq], ?_⟩
      have there := late.releases _ rfl waits
      unfold Waits at there
      rw [frees.uptime] at there
      exact there

end Sys2Proof.Machine
end

section
/-! PROOFS. The run's end over every slot: O16. -/

namespace Sys2Proof.Machine

open Sys2Proof.Safety

variable {s t u : State} {k : Fin 32} {o : SlotOutcome} {A : Fin 32 → Prop} {T : Fin 45 → Prop}

/-! ### What the drive chooses (R152) -/

theorem rank_le_iff {e f : RelayEntry} (h : e.rank ≤ f.rank) :
    (f.kind = .release → e.kind = .release) ∧ (f.kind = e.kind → e.slot ≤ f.slot) := by
  unfold RelayEntry.rank at h
  have := e.slot.isLt
  have := f.slot.isLt
  cases he : e.kind <;> cases hf : f.kind <;> simp only [he, hf] at h <;> simp <;> omega

theorem rank_chooseEntry {l : List RelayEntry} {e : RelayEntry} (h : chooseEntry l = some e) : ∀ f ∈ l, e.rank ≤ f.rank := by
  induction l generalizing e with
  | nil => cases h
  | cons a l ih =>
    unfold chooseEntry at h
    split at h
    · next none =>
      cases h
      rw [chooseEntry_eq_none none]
      simp
    · next g chosen =>
      have least := ih chosen
      split at h
      · next lt =>
        cases h
        exact List.forall_mem_cons.mpr ⟨lt.le, least⟩
      · next ge =>
        cases h
        exact List.forall_mem_cons.mpr ⟨le_rfl, fun f hf => (Nat.not_lt.mp ge).trans (least f hf)⟩

theorem chosen_of_chooseEntry {l : List RelayEntry} {e : RelayEntry} (h : chooseEntry l = some e) : Chosen e l :=
  ⟨mem_of_chooseEntry h, fun f hf => rank_le_iff (rank_chooseEntry h f hf)⟩

theorem chosen_perm {l l' : List RelayEntry} {e : RelayEntry} (h : Chosen e l) (p : l'.Perm l) : Chosen e l' :=
  ⟨p.mem_iff.mpr h.1, fun f hf => h.2 f (p.mem_iff.mp hf)⟩

theorem chosen_first {l : List RelayEntry} {e : RelayEntry} (h : chooseEntry l = some e) : Chosen e (e :: l.erase e) :=
  chosen_perm (chosen_of_chooseEntry h) (List.perm_cons_erase (mem_of_chooseEntry h)).symm

/-! ### The slots' answer (R133) -/

/-- A returned slot stands where no trigger, delay or width moves it. -/
def Rests (x : Slot) : Prop := x.state ≠ .armed ∧ x.state ≠ .waiting ∧ x.state ≠ .aligning ∧ x.state ≠ .active

theorem rests_unloaded (o : SlotOutcome) (x : Slot) : Rests (unloaded o x) := ⟨nofun, nofun, nofun, nofun⟩

theorem rests_of_state {x : Slot} {st : SlotState} (h : x.state = st) (idle : st ≠ .armed ∧ st ≠ .waiting ∧ st ≠ .aligning ∧ st ≠ .active) :
    Rests x := by
  unfold Rests
  rw [h]
  exact idle

theorem rests_returnSlot (o : SlotOutcome) (k : Fin 32) (s : State) : Rests ((returnSlot o k s).slot k) := by
  cases state : (s.slot k).state with
  | empty => rw [returnSlot_of_idle (.inl state)]; exact rests_of_state state (by decide)
  | loaded => rw [returnSlot_of_idle (.inr (.inl state))]; exact rests_of_state state (by decide)
  | done => rw [returnSlot_of_idle (.inr (.inr state))]; exact rests_of_state state (by decide)
  | armed => rw [returned_armed (.inl state)]; exact rests_unloaded ..
  | waiting => rw [returned_armed (.inr state)]; exact rests_unloaded ..
  | aligning => rw [(returned_aligning state).1]; exact rests_unloaded ..
  | pending =>
    cases flies : s.inFlight k with
    | false => rw [(returned_listed state flies).1]; exact rests_unloaded ..
    | true =>
      cases ends : (s.slot k).releaseEnd with
      | rep =>
        rw [returnSlot_of_flying state flies ends, State.slot_setSlot_same]
        exact rests_of_state state (by decide)
      | load => rw [returnSlot_of_marked (.inl ⟨state, flies⟩) ends]; exact rests_of_state state (by decide)
  | active =>
    cases record : (s.slot k).record with
    | some r =>
      cases relay : r.action.relay with
      | none => rw [(returned_instant state record relay).1]; exact rests_unloaded o (s.slot k)
      | some path => rw [(returned_relay state record relay).1]; exact ⟨nofun, nofun, nofun, nofun⟩
    | none =>
      rw [returnSlot_of_active state, handRelease, State.slot_setSlot_same, record]
      dsimp only
      rw [releaseDone_slot_same, State.slot_setSlot_same]
      exact ⟨nofun, nofun, nofun, nofun⟩
  | releasing =>
    cases ends : (s.slot k).releaseEnd with
    | rep =>
      rw [returnSlot_of_releasing state ends, State.slot_setSlot_same]
      exact rests_of_state state (by decide)
    | load => rw [returnSlot_of_marked (.inr state) ends]; exact rests_of_state state (by decide)

theorem passes_returnSlot (A : Fin 32 → Prop) (T : Fin 45 → Prop) (o : SlotOutcome) : Passes A T (returnSlot o) where
  lets _ _ own targets := lets_returnSlot o own targets
  spares _ s _ h := spares_returnSlot h o s

theorem applyStarted_iff : s.applyStarted = true ↔
    ∃ e, s.pins.drive = .busy e s.uptime ∧ e.since = s.uptime ∧ e.kind = .apply := by
  unfold State.applyStarted
  cases s.pins.drive with
  | busy e x =>
    simp only [Bool.and_eq_true, beq_iff_eq, Drive.busy.injEq]
    constructor
    · rintro ⟨⟨rfl, h⟩, h'⟩
      exact ⟨e, ⟨rfl, rfl⟩, h, h'⟩
    · rintro ⟨f, ⟨rfl, rfl⟩, h, h'⟩
      exact ⟨⟨rfl, h⟩, h'⟩
  | free => simp
  | recovering => simp

/-- The drive's choice of this microsecond is made anew at the run's end (R152, log entry 17). -/
def Reopened (s : State) : Prop :=
  ∃ e, s.pins.drive = .busy e s.uptime ∧ (e.kind = .release ∨ ((s.slot e.slot).releaseEnd = .rep ∧ e.since ≠ s.uptime))

theorem reopened_iff : Reopened s ↔ s.grantOpen = true ∧ s.applyStarted = false := by
  rw [grantOpen_iff, Bool.eq_false_iff, ne_eq, applyStarted_iff]
  constructor
  · rintro ⟨e, busy, choice⟩
    refine ⟨⟨e, busy, choice.imp_right And.left⟩, ?_⟩
    rintro ⟨f, busy', since, kind⟩
    obtain ⟨rfl, -⟩ := Drive.busy.inj (busy.symm.trans busy')
    rcases choice with release | ⟨-, other⟩
    · rw [kind] at release
      cases release
    · exact other since
  · rintro ⟨⟨e, busy, choice⟩, not_started⟩
    refine ⟨e, busy, ?_⟩
    cases kind : e.kind with
    | release => exact .inl rfl
    | apply =>
      refine .inr ⟨choice.resolve_left (by rw [kind]; nofun), fun since => not_started ⟨e, busy, since, kind⟩⟩

/-- The state in which the slots answer in their order. -/
def answering (s : State) : State :=
  if s.applyStarted then returnGranted s else if s.grantOpen then reopenGrant s else s

theorem returnSlots_eq (s : State) : returnSlots s =
    if s.applyStarted = false ∧ s.grantOpen = true then relayGrant (forEach allSlots (returnSlot .runEnded) (answering s))
    else forEach allSlots (returnSlot .runEnded) (answering s) := by
  unfold returnSlots answering
  cases started : s.applyStarted with
  | true => simp
  | false =>
    cases opened : s.grantOpen with
    | true => simp [regrant_of_open opened]
    | false => simp [regrant_of_closed opened]

theorem answering_of_started {e : RelayEntry} (busy : s.pins.drive = .busy e s.uptime) (since : e.since = s.uptime)
    (kind : e.kind = .apply) : answering s = returnSlot .runEnded e.slot s := by
  rw [answering, if_pos (applyStarted_iff.mpr ⟨e, busy, since, kind⟩), returnGranted, busy]

theorem answering_of_reopened (h : Reopened s) : answering s = reopenGrant s := by
  obtain ⟨opened, not_started⟩ := reopened_iff.mp h
  rw [answering, not_started, if_neg nofun, if_pos opened]

theorem answering_of_closed (started : s.applyStarted = false) (closed : s.grantOpen = false) : answering s = s := by
  rw [answering, started, closed, if_neg nofun, if_neg nofun]

/-- The three ways the slots' answer begins. -/
theorem answering_cases (s : State) :
    (∃ e, s.pins.drive = .busy e s.uptime ∧ e.since = s.uptime ∧ e.kind = .apply ∧ ¬ Reopened s
        ∧ answering s = returnSlot .runEnded e.slot s)
      ∨ (Reopened s ∧ answering s = reopenGrant s)
      ∨ (s.grantOpen = false ∧ ¬ Reopened s ∧ answering s = s) := by
  cases started : s.applyStarted with
  | true =>
    obtain ⟨e, busy, since, kind⟩ := applyStarted_iff.mp started
    refine .inl ⟨e, busy, since, kind, fun h => ?_, answering_of_started busy since kind⟩
    rw [(reopened_iff.mp h).2] at started
    cases started
  | false =>
    cases opened : s.grantOpen with
    | true =>
      have reopened := reopened_iff.mpr ⟨opened, started⟩
      exact .inr (.inl ⟨reopened, answering_of_reopened reopened⟩)
    | false =>
      refine .inr (.inr ⟨rfl, fun h => ?_, answering_of_closed started opened⟩)
      rw [(reopened_iff.mp h).1] at opened
      cases opened

theorem frees_answering (s : State) : Frees (Acts s) (ActiveTarget s) s (answering s) := by
  rcases answering_cases s with ⟨e, -, -, -, -, eq⟩ | ⟨reopened, eq⟩ | ⟨-, -, eq⟩
  · rw [eq]
    exact (lets_returnSlot .runEnded id fun acts g hg => ⟨e.slot, acts, hg⟩).1
  · rw [eq]
    exact frees_reopenGrant (reopened_iff.mp reopened).1
  · rw [eq]
    exact .refl s

theorem allowed_answering (s : State) (k : Fin 32) : Allowed (Acts s) (ActiveTarget s) (answering s) k := by
  rcases answering_cases s with ⟨e, -, -, -, -, eq⟩ | ⟨-, eq⟩ | ⟨-, -, eq⟩
  · rw [eq]
    by_cases own : k = e.slot
    · rw [own]
      exact fun acts => absurd acts (rests_returnSlot .runEnded e.slot s).2.2.2
    · exact (allowed_active s k).congr (spares_returnSlot own .runEnded s).1
  · rw [eq]
    exact (allowed_active s k).congr (by unfold State.slot; rw [faults_reopenGrant])
  · rw [eq]
    exact allowed_active s k

/-- The slots' answer in the order of the slots, before the drive chooses. -/
def allAnswered (s : State) : State := forEach allSlots (returnSlot .runEnded) (answering s)

theorem returnSlots_reopened (h : Reopened s) : returnSlots s = relayGrant (allAnswered s) := by
  obtain ⟨opened, not_started⟩ := reopened_iff.mp h
  rw [returnSlots_eq, if_pos ⟨not_started, opened⟩]
  rfl

theorem returnSlots_not_reopened (h : ¬ Reopened s) : returnSlots s = allAnswered s := by
  rw [returnSlots_eq, if_neg fun both => h (reopened_iff.mpr ⟨both.2, both.1⟩)]
  rfl

theorem chosen_anew (s : State) : Frees (Acts s) (ActiveTarget s) (allAnswered s) (returnSlots s)
    ∧ (returnSlots s).faults = (allAnswered s).faults := by
  by_cases h : Reopened s
  · rw [returnSlots_reopened h]
    exact ⟨frees_relayGrant _, faults_relayGrant _⟩
  · rw [returnSlots_not_reopened h]
    exact ⟨.refl _, rfl⟩

theorem lets_allAnswered (s : State) : Lets (Acts s) (ActiveTarget s) (answering s) (allAnswered s) :=
  (passes_returnSlot _ _ .runEnded).loop nodup_allSlots _ fun k _ => allowed_answering s k

theorem frees_returnSlots (s : State) : Frees (Acts s) (ActiveTarget s) s (returnSlots s) :=
  ((frees_answering s).trans (lets_allAnswered s).1).trans (chosen_anew s).1

/-- One slot's answer. -/
theorem returnSlots_at (s : State) (k : Fin 32) : ∃ u, Lets (Acts s) (ActiveTarget s) (answering s) u ∧ Spares k (answering s) u
    ∧ Frees (Acts s) (ActiveTarget s) (returnSlot .runEnded k u) (returnSlots s) ∧ Spares k (returnSlot .runEnded k u) (returnSlots s) := by
  obtain ⟨u, early, spared, late, spared'⟩ :=
    (passes_returnSlot (Acts s) (ActiveTarget s) .runEnded).at k (answering s) (allowed_answering s)
  obtain ⟨anew, faults⟩ := chosen_anew s
  exact ⟨u, early, spared, late.1.trans anew, spared'.trans (.of_faults faults)⟩

theorem rests_returnSlots (s : State) (k : Fin 32) : Rests ((returnSlots s).slot k) := by
  obtain ⟨u, -, -, -, own, -⟩ := returnSlots_at s k
  rw [own]
  exact rests_returnSlot .runEnded k u

/-- A slot that the drive's choice of this microsecond does not concern answers from where it stood. -/
theorem spares_answering (h : ∀ e, s.pins.drive = .busy e s.uptime → e.kind = .apply → e.slot ≠ k) : Spares k s (answering s) := by
  rcases answering_cases s with ⟨e, busy, -, kind, -, eq⟩ | ⟨-, eq⟩ | ⟨-, -, eq⟩
  · rw [eq]
    exact spares_returnSlot (h e busy kind).symm .runEnded s
  · rw [eq]
    exact .of_faults (faults_reopenGrant s)
  · rw [eq]
    exact .refl k s

/-! ### The slots' answer under the holder law -/

theorem closed_of_marked {e : RelayEntry} {x : Nat} (busy : s.pins.drive = .busy e x) (kind : e.kind = .apply)
    (load : (s.slot e.slot).releaseEnd = .load) : s.grantOpen = false := by
  refine Bool.eq_false_iff.mpr fun opened => ?_
  obtain ⟨f, busy', choice⟩ := grantOpen_iff.mp opened
  obtain ⟨rfl, -⟩ := Drive.busy.inj (busy.symm.trans busy')
  rcases choice with release | rep
  · rw [kind] at release
    cases release
  · rw [load] at rep
    cases rep

/-- The slot of an APPLY in flight after the run's end: marked LOAD (R134). -/
def markedEnd (x : Slot) : Slot := if x.releaseEnd = .rep then { x with outcome := .runEnded, releaseEnd := .load } else x

theorem markedEnd_load (x : Slot) : (markedEnd x).releaseEnd = .load := by
  unfold markedEnd
  split
  · rfl
  · next h => cases ends : x.releaseEnd with
    | rep => exact absurd ends h
    | load => rfl

theorem markedEnd_of_load {x : Slot} (h : x.releaseEnd = .load) : markedEnd x = x := if_neg (by rw [h]; nofun)

theorem markedEnd_state (x : Slot) : (markedEnd x).state = x.state := by
  unfold markedEnd
  split <;> rfl

theorem returnSlot_in_flight (state : (s.slot k).state = .pending) (flies : s.inFlight k = true) :
    returnSlot .runEnded k s = s.setSlot k (markedEnd (s.slot k)) := by
  unfold markedEnd
  cases ends : (s.slot k).releaseEnd with
  | rep => rw [returnSlot_of_flying state flies ends, if_pos rfl]
  | load => rw [returnSlot_of_marked (.inl ⟨state, flies⟩) ends, if_neg nofun, State.setSlot_slot_self]

theorem pending_of_apply (law : HolderLaw s) {e : RelayEntry} {x : Nat} (busy : s.pins.drive = .busy e x) (kind : e.kind = .apply) :
    (s.slot e.slot).state = .pending := by
  have entry := (law.2.2.2.1 e (by rw [transitions_of_busy busy]; exact .head _)).1
  rwa [kind] at entry

/-- With the choice not reopened the drive stands, and so does what it has in flight. -/
theorem closed_answering (law : HolderLaw s) (h : ¬ Reopened s) :
    (answering s).grantOpen = false ∧ (answering s).pins.drive = s.pins.drive := by
  rcases answering_cases s with ⟨e, busy, -, kind, -, eq⟩ | ⟨reopened, -⟩ | ⟨closed, -, eq⟩
  · have state := pending_of_apply law busy kind
    rw [eq, returnSlot_in_flight state (inFlight_iff.mpr ⟨e, _, busy, rfl⟩)]
    exact ⟨closed_of_marked (e := e) busy kind (by rw [State.slot_setSlot_same]; exact markedEnd_load _), rfl⟩
  · exact absurd reopened h
  · rw [eq]
    exact ⟨closed, rfl⟩

theorem returnSlots_drive (law : HolderLaw s) (h : ¬ Reopened s) : (returnSlots s).pins.drive = s.pins.drive := by
  obtain ⟨closed, drive⟩ := closed_answering law h
  rw [returnSlots_not_reopened h, ((lets_allAnswered s).2 closed).2, drive]

theorem reopenGrant_drive (h : s.grantOpen = true) : (reopenGrant s).pins.drive = .free := by
  obtain ⟨e, busy, -⟩ := grantOpen_iff.mp h
  unfold reopenGrant
  rw [busy]
  rfl

theorem returnSlots_chooses (h : Reopened s) :
    ((returnSlots s).pins.drive = .free ∧ (returnSlots s).pins.waitList = [])
      ∨ ∃ f, (returnSlots s).pins.drive = .busy f s.uptime ∧ Chosen f (f :: (returnSlots s).pins.waitList) := by
  have free : (answering s).pins.drive = .free := by
    rw [answering_of_reopened h]
    exact reopenGrant_drive (reopened_iff.mp h).1
  have closed : (answering s).grantOpen = false := grantOpen_eq_false fun e busy => by rw [free] at busy; cases busy
  have free' : (allAnswered s).pins.drive = .free := ((lets_allAnswered s).2 closed).2.trans free
  have uptime : (allAnswered s).uptime = s.uptime := (lets_allAnswered s).1.uptime.trans (frees_answering s).uptime
  rw [returnSlots_reopened h]
  generalize allAnswered s = w at free' uptime
  rcases relayGrant_cases w with ⟨idle, same⟩ | ⟨f, -, chosen, granted⟩
  · rw [same]
    exact .inl ⟨free', idle.resolve_left fun busy => busy free'⟩
  · rw [granted]
    exact .inr ⟨f, by rw [← uptime]; rfl, chosen_first chosen⟩

/-- What slot `k` of `s` has become in `t` at the run's end, by its state (R133). -/
def Answers (s t : State) (k : Fin 32) : Prop :=
  let x := s.slot k
  let y := t.slot k
  let flies := s.inFlight k
  let released := ∀ g, t.holder g ≠ some k
  let kept := ∀ g, t.holder g = some k ↔ s.holder g = some k
  let loaded := { x with state := .loaded, outcome := .runEnded, record := x.staged.or x.record, staged := none }
  (x.state = .empty ∨ x.state = .loaded ∨ x.state = .done → y = x)
  ∧ (x.state = .armed ∨ x.state = .waiting → y = loaded)
  ∧ (x.state = .aligning → y = loaded ∧ released ∧ ∀ p, ∀ w ∈ t.wait p, w.slot ≠ k)
  ∧ (x.state = .pending → flies = false ∨ (x.releaseEnd = .rep ∧ Reopened s) →
      y = loaded ∧ released ∧ ∀ e ∈ transitions t, e.slot ≠ k)
  ∧ (x.state = .pending → flies = true → x.releaseEnd = .rep → ¬ Reopened s →
      kept ∧ y = { x with outcome := .runEnded, releaseEnd := .load })
  ∧ (x.state = .pending → flies = true → x.releaseEnd = .load → kept ∧ y = x)
  ∧ (x.state = .releasing → kept
      ∧ (x.releaseEnd = .rep → y = { x with outcome := .runEnded, releaseEnd := .load })
      ∧ (x.releaseEnd = .load → y = x))
  ∧ (x.state = .active → ∀ r, x.record = some r →
      (r.action.relay = none → y = { loaded with releaseEnd := .load } ∧ released ∧ takenAway r.action t)
      ∧ ∀ path, r.action.relay = some path →
          let e : RelayEntry := { slot := k, kind := .release, path := path, since := s.uptime }
          y = { x with state := .releasing, outcome := .runEnded, releaseEnd := .load } ∧ kept
            ∧ (e ∈ t.pins.waitList ∨ t.pins.drive = .busy e s.uptime))

/-- The slot of an APPLY in flight at the run's end, whether its grant is of this microsecond or from before. -/
theorem returnSlots_flying (law : HolderLaw s) (state : (s.slot k).state = .pending) (flies : s.inFlight k = true)
    (h : ¬ Reopened s) : (returnSlots s).slot k = markedEnd (s.slot k) ∧ ∀ g, (returnSlots s).holder g = some k ↔ s.holder g = some k := by
  obtain ⟨closed, drive⟩ := closed_answering law h
  obtain ⟨u, early, spared, -, spared'⟩ := returnSlots_at s k
  have flies_u : u.inFlight k = true := by rw [inFlight_congr ((early.2 closed).2.trans drive), flies]
  have marked : ((answering s).slot k = s.slot k ∨ (answering s).slot k = markedEnd (s.slot k))
      ∧ ∀ g, (answering s).holder g = s.holder g := by
    rcases answering_cases s with ⟨e, busy, -, kind, -, eq⟩ | ⟨reopened, -⟩ | ⟨-, -, eq⟩
    · obtain ⟨f, x, busy', own⟩ := inFlight_iff.mp flies
      obtain ⟨rfl, -⟩ := Drive.busy.inj (busy.symm.trans busy')
      rw [eq, own, returnSlot_in_flight state flies, State.slot_setSlot_same]
      exact ⟨.inr rfl, fun _ => rfl⟩
    · exact absurd reopened h
    · rw [eq]
      exact ⟨.inl rfl, fun _ => rfl⟩
  obtain ⟨marked, holders⟩ := marked
  have state_u : (u.slot k).state = .pending := by
    rw [spared.1]
    rcases marked with eq | eq
    · rw [eq, state]
    · rw [eq, markedEnd_state, state]
  have own : markedEnd (u.slot k) = markedEnd (s.slot k) := by
    rw [spared.1]
    rcases marked with eq | eq
    · rw [eq]
    · rw [eq, markedEnd_of_load (markedEnd_load _)]
  rw [returnSlot_in_flight state_u flies_u, own] at spared'
  refine ⟨spared'.1.trans (State.slot_setSlot_same ..), fun g => ?_⟩
  rw [spared'.2 g, State.setSlot_holder, spared.2 g, holders g]

/-- Each slot's answer under the holder law. -/
theorem answers_returnSlots (law : HolderLaw s) (k : Fin 32) : Answers s (returnSlots s) k := by
  have apply_pending (e : RelayEntry) (busy : s.pins.drive = .busy e s.uptime) (kind : e.kind = .apply)
      (other : (s.slot k).state ≠ .pending) : e.slot ≠ k := fun own => other (own ▸ pending_of_apply law busy kind)
  have uptime := (frees_returnSlots s).uptime
  have uptime' := (frees_answering s).uptime
  unfold Answers
  intro x y flies released kept loaded
  obtain ⟨u, early, spared, late, spared'⟩ := returnSlots_at s k
  have y_eq : y = (returnSlot .runEnded k u).slot k := spared'.1
  have uptime_u : u.uptime = s.uptime := early.1.uptime.trans uptime'
  have release (h : ∀ g, (returnSlot .runEnded k u).holder g ≠ some k) : released := fun g e => h g ((spared'.2 g).mp e)
  have before (h : x.state ≠ .pending) : Spares k s u := (spares_answering fun e busy kind => apply_pending e busy kind h).trans spared
  refine ⟨fun idle => ?_, fun ready => ?_, fun aligning => ?_, fun pending choice => ?_, fun pending flies' rep shut => ?_,
    fun pending flies' load => ?_, fun releasing => ?_, fun active r record => ⟨fun instant => ?_, fun path relay => ?_⟩⟩
  · have x_eq := (before (by rcases idle with h | h | h <;> rw [h] <;> nofun)).1
    rw [y_eq, returnSlot_of_idle (by rw [x_eq]; exact idle), x_eq]
  · have x_eq := (before (by rcases ready with h | h <;> rw [h] <;> nofun)).1
    rw [y_eq, returned_armed (by rw [x_eq]; exact ready), x_eq]
    rfl
  · have x_eq := (before (by rw [aligning]; nofun)).1
    obtain ⟨result, holder, wait⟩ := returned_aligning (o := .runEnded) (s := u) (k := k) (by rw [x_eq]; exact aligning)
    exact ⟨by rw [y_eq, result, x_eq]; rfl, release holder, fun p w hw => wait p w (late.wait p w hw)⟩
  · have grounded : Spares k s u ∧ u.inFlight k = false := by
      by_cases reopened : Reopened s
      · have opened := (reopened_iff.mp reopened).1
        have free : (answering s).pins.drive = .free := by rw [answering_of_reopened reopened, reopenGrant_drive opened]
        have closed : (answering s).grantOpen = false := grantOpen_eq_false fun e busy => by rw [free] at busy; cases busy
        have same : Spares k s (answering s) := by
          rw [answering_of_reopened reopened]
          exact .of_faults (faults_reopenGrant s)
        refine ⟨same.trans spared, ?_⟩
        rw [inFlight_congr (early.2 closed).2, State.inFlight, free]
      · have not_flying : s.inFlight k = false := choice.resolve_right fun both => reopened both.2
        obtain ⟨closed, drive⟩ := closed_answering law reopened
        refine ⟨(spares_answering fun e busy _ own => ?_).trans spared, ?_⟩
        · rw [inFlight_iff.mpr ⟨e, _, busy, own⟩] at not_flying
          cases not_flying
        · rw [inFlight_congr ((early.2 closed).2.trans drive), not_flying]
    obtain ⟨here, not_flying⟩ := grounded
    have state_u : (u.slot k).state = .pending := by rw [here.1]; exact pending
    obtain ⟨result, holder, entries⟩ := returned_listed (o := .runEnded) state_u not_flying
    have not_acts : ¬ Acts s k := fun acts => absurd (acts.symm.trans pending) nofun
    have not_acts_u : ¬ Acts u k := fun acts => absurd (acts.symm.trans state_u) nofun
    have all := (((frees_answering s).trans early.1).trans
      (lets_returnSlot .runEnded (fun acts => absurd acts not_acts_u) fun acts => absurd acts not_acts_u).1)
    refine ⟨by rw [y_eq, result, here.1]; rfl, release holder, fun e he own => ?_⟩
    rcases late.entries e he with he | ⟨-, acts⟩
    · have kind := entries e he own
      rcases all.entries e he with he | ⟨-, acts⟩
      · have entry := (law.2.2.2.1 e he).1
        rw [kind, own] at entry
        exact absurd (entry.symm.trans pending) nofun
      · exact not_acts (own ▸ acts)
    · exact not_acts (own ▸ acts)
  · obtain ⟨own, holder⟩ := returnSlots_flying law pending flies' shut
    exact ⟨holder, own.trans (if_pos rep)⟩
  · have shut : ¬ Reopened s := by
      rintro ⟨e, busy, choice⟩
      obtain ⟨f, w, busy', own⟩ := inFlight_iff.mp flies'
      obtain ⟨rfl, -⟩ := Drive.busy.inj (busy.symm.trans busy')
      rcases choice with kind | ⟨rep, -⟩
      · have entry := (law.2.2.2.1 e (by rw [transitions_of_busy busy]; exact .head _)).1
        rw [kind, own] at entry
        exact absurd (entry.symm.trans pending) nofun
      · rw [own] at rep
        exact absurd (rep.symm.trans load) nofun
    obtain ⟨own, holder⟩ := returnSlots_flying law pending flies' shut
    exact ⟨holder, own.trans (markedEnd_of_load load)⟩
  · have spared := before (by rw [releasing]; nofun)
    have state_u : (u.slot k).state = .releasing := by rw [spared.1]; exact releasing
    cases ends : (u.slot k).releaseEnd with
    | rep =>
      have own := returnSlot_of_releasing (o := .runEnded) state_u ends
      rw [own] at y_eq spared'
      rw [spared.1] at ends
      refine ⟨fun g => ?_, fun _ => ?_, fun load => absurd (ends.symm.trans load) nofun⟩
      · rw [spared'.2 g, State.setSlot_holder, spared.2 g]
      · rw [y_eq, State.slot_setSlot_same, spared.1]
    | load =>
      have own := returnSlot_of_marked (o := .runEnded) (.inr state_u) ends
      rw [own] at y_eq spared'
      rw [spared.1] at ends
      refine ⟨fun g => ?_, fun rep => absurd (ends.symm.trans rep) nofun, fun _ => ?_⟩
      · rw [spared'.2 g, spared.2 g]
      · rw [y_eq, spared.1]
  · have x_eq := (before (by rw [active]; nofun)).1
    obtain ⟨result, holder, away⟩ := returned_instant (o := .runEnded) (s := u) (k := k) (by rw [x_eq]; exact active)
      (by rw [x_eq]; exact record) instant
    exact ⟨by rw [y_eq, result, x_eq]; rfl, release holder, late.away _ away⟩
  · have spared := before (by rw [active]; nofun)
    obtain ⟨result, waits, holder⟩ := returned_relay (o := .runEnded) (s := u) (k := k) (by rw [spared.1]; exact active)
      (by rw [spared.1]; exact record) relay
    have there := late.releases _ rfl waits
    unfold Waits at there
    rw [uptime, uptime_u] at there
    refine ⟨by rw [y_eq, result, spared.1], fun g => ?_, there⟩
    rw [spared'.2 g, holder g, spared.2 g]

/-! ### The blocks at the run's end (R44) -/

theorem endBlocks_ntc (r : EndReason) (s : State) :
    { (endBlocks r s).ntc with pending := s.ntc.pending, channelMask := s.ntc.channelMask }
      = { s.ntc with runState := .ended, runReason := r } := by
  unfold endBlocks
  refine (forEach_view (fun t : State => { t.ntc with pending := s.ntc.pending, channelMask := s.ntc.channelMask })
    allChannels sourceEnd (fun n _ t => ?_) (endNoted r s)).trans rfl
  unfold sourceEnd raiseCause
  dsimp only
  split
  · split <;> rfl
  · rfl

/-- No ACTIVE slot holds the target. -/
def Idle (s : State) (g : Fin 45) : Prop := ∀ k, s.holder g = some k → (s.slot k).state ≠ .active

theorem not_activeTarget (law : HolderLaw s) {g : Fin 45} (idle : Idle s g) : ¬ ActiveTarget s g := by
  rintro ⟨k, acts, targets⟩
  have holds : holding (s.slot k) := .inr (.inr (.inl acts))
  exact idle k ((law.1 g k).mpr ⟨holds, targets⟩) acts

theorem modifier_of_takenAway {a : Action} {n : Fin 16} (mem : chanTarget n ∈ a.targets) (h : takenAway a t) :
    a.relay = none → (t.chan n).modifier = none := by
  have chan_val : (chanTarget n).val = 24 + n.val := rfl
  have pin (p : Fin 24) : chanTarget n ≠ pinTarget p := fun e => by
    have := congrArg Fin.val e
    simp only [chanTarget, pinTarget] at this
    omega
  have cam (c : Fin 2) : chanTarget n ≠ camTarget c := fun e => by
    have := congrArg Fin.val e
    simp only [chanTarget, camTarget] at this
    omega
  intro relay
  cases a with
  | freeze m | force m _ | offset m _ =>
    have same : n = m := by
      have := congrArg Fin.val (List.mem_singleton.mp mem)
      simp only [chanTarget] at this
      exact Fin.ext (by omega)
    exact same ▸ h
  | openPin p | shortGnd p => exact absurd (List.mem_singleton.mp mem) (pin p)
  | camHold c | camShift c _ => exact absurd (List.mem_singleton.mp mem) (cam c)
  | toothDrop | crankShift | battDrop | ignDrop =>
    have := congrArg Fin.val (List.mem_singleton.mp mem)
    have := n.isLt
    simp [chanTarget] at *
    omega
  | shortSupply | bridge => cases relay
  | holdRun | endRun => cases mem

theorem no_relay_of_chanTarget {a : Action} {n : Fin 16} (mem : chanTarget n ∈ a.targets) : a.relay = none := by
  have pin (p : Fin 24) : chanTarget n ≠ pinTarget p := fun e => by
    have := congrArg Fin.val e
    simp only [chanTarget, pinTarget] at this
    omega
  cases a with
  | shortSupply p => exact absurd (List.mem_singleton.mp mem) (pin p)
  | bridge p q => exact (List.mem_cons.mp mem).elim (fun e => absurd e (pin p)) fun e => absurd (List.mem_singleton.mp e) (pin q)
  | _ => rfl

theorem exec_endRun (s : State) : exec .endRun s = .next (respond 0x14 (reqEnd s)) := rfl

/-- The parts of `w` that read as those of `s`, written as those of `s`. -/
theorem eq_with_parts {w : State} (uptime : w.uptime = s.uptime) (faults : w.faults = s.faults) (pins : w.pins = s.pins)
    (sup : w.sup = s.sup) : w = { w with uptime := s.uptime, faults := s.faults, pins := s.pins, sup := s.sup } := by
  rw [← uptime, ← faults, ← pins, ← sup]

theorem reqEnd_of_run (h : ¬ between s) : reqEnd s = runAnswer .ok (enterEnded .endRequest s) := by
  have live : (s.inRun || s.run.state == .armed) = true := by
    unfold between at h
    cases state : s.run.state <;> simp [State.inRun, state] at h ⊢
  unfold reqEnd
  rw [live, if_pos rfl]

/-- Settles O16: the blocks' end and the slots' answer, each under its own lemma. -/
theorem endRequestEndsTheRun : Obligations.EndRequestEndsTheRun := by
  refine fun s => ⟨fun hb => ?_, fun hb => ?_⟩
  · refine next_answered (r := reqEnd s) ?_ nofun nofun
    have dead : (s.inRun || s.run.state == .armed) = false := by
      rw [inRun_of_between hb]
      rcases hb with h | h <;> rw [h] <;> rfl
    unfold reqEnd
    rw [dead, if_neg nofun]
    rfl
  have run := enterEnded_run .endRequest s
  have pending := isPending_run_enterEnded .endRequest s
  have still := still_enterEnded .endRequest s
  obtain ⟨uptime, rot, faults, pins, sup⟩ := endBlocks_rest .endRequest s
  have chan := endBlocks_chan .endRequest s
  have ntc := endBlocks_ntc .endRequest s
  rw [exec_endRun, reqEnd_of_run hb]
  rw [enterEnded_eq] at *
  have parts := eq_with_parts uptime faults pins sup
  generalize endBlocks .endRequest s = v at *
  have frees := frees_returnSlots v
  have rests := rests_returnSlots v
  have law_v (law : HolderLaw s) : HolderLaw v := by rw [parts]; exact law
  have answers (law : HolderLaw s) (k : Fin 32) := answers_returnSlots (law_v law) k
  have idle_v (law : HolderLaw s) {g : Fin 45} (idle : Idle s g) : ¬ ActiveTarget v g :=
    not_activeTarget (law_v law) (by rw [parts]; exact idle)
  have stands (law : HolderLaw s) (h : ¬ Reopened s) := returnSlots_drive (law_v law) (by rw [parts]; exact h)
  have chooses (h : Reopened s) := returnSlots_chooses (s := v) (by rw [parts]; exact h)
  have respond_eq : respond 0x14 (runAnswer .ok (returnSlots v)) =
      answered 0x14 .ok [(returnSlots v).run.state.code] (returnSlots v) := respond_answered _ _ _ _ nofun nofun
  rw [respond_eq, run]
  generalize returnSlots v = t at *
  have ended : t.ntc.runState = .ended ∧ t.ntc.runReason = .endRequest := by
    have a := congrArg Notices.runState ntc
    have b := congrArg Notices.runReason ntc
    exact ⟨(congrArg Notices.runState frees.ntc).trans a, (congrArg Notices.runReason frees.ntc).trans b⟩
  have rot_t {α : Type} (f : Rotation → α) : f { t.rot with crankMod := v.rot.crankMod, camMods := v.rot.camMods } = f (rotationEnd s).rot :=
    congrArg f (frees.rot.trans rot)
  refine ⟨_, rfl, run, pending, ended.1, ended.2, rot_t (·.speed), rot_t (·.active), rot_t (·.drained), rot_t (·.crankLine),
    fun c => (rot_t (fun r => getAt r.camLines c)).trans ?_, rot_t (·.acc), rot_t (·.cycle), rot_t (·.queue), rot_t (·.wheel),
    rot_t (·.cams), fun n => ?_, rests, ?_, ?_, (State.still_trace still :), (State.still_cap still :),
    frees.map.trans (by rw [pins]), (State.still_uptime still :), ?_, fun law => ?_⟩
  · simp [rotationEnd, getAt]
  · have whole := frees.chan n
    rw [chan n] at whole
    exact whole
  · have whole := frees.sup
    rw [sup] at whole
    exact whole
  · have whole := congrArg (fun n : Notices => { n with
      pending := s.ntc.pending, runState := s.ntc.runState, runReason := s.ntc.runReason, channelMask := s.ntc.channelMask }) frees.ntc
    exact whole.trans (congrArg (fun n : Notices => { n with runState := s.ntc.runState, runReason := s.ntc.runReason }) ntc)
  · unfold answered
    dsimp only
    rw [State.still_uptime still, State.still_link still]
    rfl
  · have slots (k : Fin 32) : v.slot k = s.slot k := by unfold State.slot; rw [faults]
    refine ⟨fun n idle => ?_, fun n busy => ?_, fun idle => ?_, fun c idle => ?_, fun p idle => ?_, fun h => ?_, fun h => ?_, fun k => ?_⟩
    · exact (frees.modifier n (idle_v law idle)).trans (by rw [chan n]; rfl)
    · obtain ⟨k, hold, active⟩ : ∃ k, s.holder (chanTarget n) = some k ∧ (s.slot k).state = .active := by
        simpa using busy
      have mem := ((law.1 (chanTarget n) k).mp hold).2
      obtain ⟨r, record⟩ := Option.isSome_iff_exists.mp (law.2.1 k (by rw [active]; nofun))
      rw [recordTargets_of_record record] at mem
      obtain ⟨-, -, away⟩ := (((answers law k).2.2.2.2.2.2.2 (by rw [slots, active]) r (by rw [slots, record])).1
        (no_relay_of_chanTarget mem))
      exact modifier_of_takenAway mem away (no_relay_of_chanTarget mem)
    · exact (frees.crank (idle_v law idle)).trans (by rw [rot]; rfl)
    · exact (frees.cam c (idle_v law idle)).trans (by rw [rot]; rfl)
    · refine (frees.path p (idle_v law idle)).trans ?_
      unfold State.path
      rw [pins]
    · exact (stands law h).trans (by rw [pins])
    · have choice := chooses h
      rw [uptime] at choice
      exact choice
    · have answer := answers law k
      rw [parts] at answer
      exact answer

end Sys2Proof.Machine
end

section
/-! PROOFS. The elapse of a delay: O40. -/

namespace Sys2Proof.Machine

open Sys2Proof.Safety

variable {s t u : State} {k : Fin 32} {r : FaultRecord}

/-! ### Frames -/

theorem countRepetition_frame (k : Fin 32) (s : State) :
    { countRepetition k s with faults := s.faults, ntc := s.ntc } = s := by
  unfold countRepetition toDone rearm toLoaded
  dsimp only
  split
  · split <;> rfl
  · rfl

theorem relayGrant_frame (s : State) :
    { relayGrant s with pins := { (relayGrant s).pins with drive := s.pins.drive, waitList := s.pins.waitList } } = s := by
  rcases relayGrant_cases s with ⟨-, same⟩ | ⟨e, -, -, granted⟩
  · rw [same]
  · rw [granted]
    rfl

theorem reopenGrant_frame (s : State) :
    { reopenGrant s with pins := { (reopenGrant s).pins with drive := s.pins.drive, waitList := s.pins.waitList } } = s := by
  unfold reopenGrant
  split <;> rfl

theorem clearHolders_frame (k : Fin 32) (s : State) : { clearHolders k s with faults := s.faults } = s := by
  unfold clearHolders
  exact forEach_view (fun v : State => { v with faults := s.faults }) allTargets
    (fun t v => if v.holder t = some k then v.setHolder t none else v) (fun t _ v => by split <;> rfl) s

theorem releaseDone_frame (k : Fin 32) (s : State) : { releaseDone k s with faults := s.faults, ntc := s.ntc } = s := by
  have cleared := clearHolders_frame k s
  unfold releaseDone
  dsimp only
  generalize clearHolders k s = v at cleared
  split
  · have same := congrArg (fun w : State => { w with faults := s.faults, ntc := s.ntc }) (countRepetition_frame k v)
    exact same.trans (congrArg (fun w : State => { w with ntc := s.ntc }) cleared)
  · exact congrArg (fun w : State => { w with ntc := s.ntc }) cleared

theorem handRelay_frame (e : RelayEntry) (s : State) :
    { handRelay e s with pins := { (handRelay e s).pins with drive := s.pins.drive, waitList := s.pins.waitList } } = s := by
  unfold handRelay
  cases opened : s.grantOpen with
  | false =>
    rw [regrant_of_closed opened]
    rfl
  | true =>
    rw [regrant_of_open opened]
    have reopened := reopenGrant_frame s
    generalize reopenGrant s = v at reopened
    have granted := relayGrant_frame (v.setWaitList (v.pins.waitList ++ [e]))
    generalize relayGrant (v.setWaitList (v.pins.waitList ++ [e])) = w at granted
    have whole := congrArg (fun u : State => { u with pins := { u.pins with drive := s.pins.drive, waitList := s.pins.waitList } }) granted
    exact whole.trans reopened

/-! ### Conflict (R124) -/

theorem raiseFault_twice (k : Fin 32) (s : State) : (raiseFault k (raiseFault k s)).ntc = (raiseFault k s).ntc := by
  unfold raiseFault raise
  simp only [BitVec.or_assoc, BitVec.or_self]

theorem conflict_frame (k : Fin 32) (s : State) :
    (conflict k s).faults.holders = s.faults.holders ∧ (conflict k s).ntc = (raiseFault k s).ntc
      ∧ { conflict k s with faults := s.faults, ntc := s.ntc } = s := by
  let v := raiseFault k (s.setSlot k { s.slot k with outcome := .conflict })
  obtain ⟨-, -, -, -, -, holders, ntc⟩ := countRepetition_rest k v
  have frame := countRepetition_frame k v
  refine ⟨holders, ntc.trans ?_, ?_⟩
  · split
    · exact raiseFault_twice k (s.setSlot k { s.slot k with outcome := .conflict })
    · rfl
  · exact congrArg (fun u : State => { u with faults := s.faults, ntc := s.ntc }) frame

/-! ### A run action (R127) -/

theorem runAction_slot (k : Fin 32) (s : State) :
    (runAction k s).slot k = counted s.uptime { s.slot k with outcome := (s.slot k).applied } := by
  unfold runAction
  rw [countRepetition_slot_same, State.slot_setSlot_same]
  rfl

theorem runAction_rest (k : Fin 32) (s : State) : (∀ j, j ≠ k → (runAction k s).slot j = s.slot j)
    ∧ (runAction k s).faults.holders = s.faults.holders ∧ (runAction k s).run = s.run
    ∧ { runAction k s with faults := s.faults, ntc := s.ntc } = s := by
  let v := s.setSlot k { s.slot k with outcome := (s.slot k).applied }
  obtain ⟨run, -, -, -, -, holders, -⟩ := countRepetition_rest k v
  refine ⟨fun j hj => ?_, holders, run, ?_⟩
  · unfold runAction
    rw [countRepetition_slot_other _ _ _ hj, State.slot_setSlot_other _ _ _ _ hj]
  · exact congrArg (fun u : State => { u with faults := s.faults }) (countRepetition_frame k v)

/-- An action without targets applies in the state as it stands. -/
theorem applySlot_of_no_targets (record : (s.slot k).record = some r) (h : r.action.targets = []) : applySlot k s = proceed k r s := by
  rw [applySlot_of_free record (by rw [h]; nofun), h]
  rfl

theorem takeHold_frame (s : State) : (takeHold s).faults = s.faults ∧ { takeHold s with run := s.run, ntc := s.ntc } = s := by
  rcases takeHold_cases s with ⟨-, eq⟩ | ⟨-, -, eq⟩ | ⟨-, -, eq⟩ <;> rw [eq] <;> exact ⟨rfl, rfl⟩

/-! ### A relay path handed over (R151) -/

theorem takeHolders_frame (k : Fin 32) (gs : List (Fin 45)) (s : State) : { takeHolders k gs s with faults := s.faults } = s := by
  unfold takeHolders
  exact forEach_view (fun t : State => { t with faults := s.faults }) gs (fun g t => t.setHolder g (some k)) (fun _ _ _ => rfl) s

theorem proceed_relay {path : RelayPath} (relay : r.action.relay = some path) (s : State) :
    proceed k r s = handRelay { slot := k, kind := .apply, path := path, since := s.uptime }
      (s.setSlot k { s.slot k with state := .pending }) := by
  unfold proceed
  cases action : r.action <;> rw [action] at relay <;> cases relay <;> rfl

/-- What the apply of a relay path with its pins free does. -/
structure Handed (k : Fin 32) (r : FaultRecord) (path : RelayPath) (s t : State) : Prop where
  slot : t.slot k = { s.slot k with state := .pending }
  others : ∀ j, j ≠ k → t.slot j = s.slot j
  holder : ∀ g, t.holder g = if g ∈ r.action.targets then some k else s.holder g
  listed : (∀ e, s.pins.drive ≠ .busy e s.uptime) → t.pins = { s.pins with
    waitList := s.pins.waitList ++ [{ slot := k, kind := .apply, path := path, since := s.uptime }] }
  pins : { t.pins with drive := s.pins.drive, waitList := s.pins.waitList } = s.pins
  rest : { t with faults := s.faults, pins := s.pins } = s

theorem applySlot_relay {path : RelayPath} (record : (s.slot k).record = some r)
    (free : ∀ g ∈ r.action.targets, s.holder g = none) (relay : r.action.relay = some path) :
    Handed k r path s (applySlot k s) := by
  rw [applySlot_of_free record free, proceed_relay relay]
  have slots (j : Fin 32) := takeHolders_slot k r.action.targets s j
  have holders (g : Fin 45) := takeHolders_holder k r.action.targets s g
  have frame := takeHolders_frame k r.action.targets s
  generalize takeHolders k r.action.targets s = v at slots holders frame
  have uptime : v.uptime = s.uptime := (congrArg State.uptime frame :)
  have pins : v.pins = s.pins := (congrArg State.pins frame :)
  rw [slots, uptime]
  let w := v.setSlot k { s.slot k with state := .pending }
  let e : RelayEntry := { slot := k, kind := .apply, path := path, since := s.uptime }
  have handed := handRelay_frame e w
  refine ⟨?_, fun j hj => ?_, fun g => ?_, fun closed => ?_, ?_, ?_⟩
  · rw [handRelay_slot, State.slot_setSlot_same]
  · rw [handRelay_slot, State.slot_setSlot_other _ _ _ _ hj, slots]
  · rw [handRelay_holder, State.setSlot_holder, holders]
  · rw [handRelay_of_closed e w (grantOpen_eq_false (by rw [← pins, ← uptime] at closed; exact closed)), ← pins]
    rfl
  · rw [← pins]
    exact congrArg State.pins handed
  · have whole := congrArg (fun u : State => { u with faults := s.faults, pins := s.pins }) handed
    refine whole.trans ?_
    rw [← pins]
    exact frame

/-! ### The elapse of a delay -/

theorem delayDue_iff (record : (s.slot k).record = some r) (waiting : (s.slot k).state = .waiting) :
    s.delayDue k = true ↔ r.delay ≤ (s.slot k).progress := by
  simp [State.delayDue, record, waiting]

theorem exec_delayElapse (k : Fin 32) (s : State) : exec (.delayElapse k) s = .next (delayEnd k s) := rfl

theorem exec_delayElapse_of_due (record : (s.slot k).record = some r) (waiting : (s.slot k).state = .waiting)
    (due : r.delay ≤ (s.slot k).progress) : exec (.delayElapse k) s = .next (applySlot k s) := by
  rw [exec_delayElapse, delayEnd, if_pos ((delayDue_iff record waiting).mpr due)]

/-- A slot that is ARMED or idle at the run's end, whatever the drive does. -/
theorem returnSlots_unheld (s : State) (k : Fin 32) :
    ((s.slot k).state = .armed → (returnSlots s).slot k = unloaded .runEnded (s.slot k))
      ∧ ((s.slot k).state = .loaded ∨ (s.slot k).state = .done → (returnSlots s).slot k = s.slot k) := by
  obtain ⟨u, -, spared, -, own, -⟩ := returnSlots_at s k
  have first : (answering s).slot k = s.slot k ∨ (answering s).slot k = (returnSlot .runEnded k s).slot k := by
    rcases answering_cases s with ⟨e, -, -, -, -, eq⟩ | ⟨-, eq⟩ | ⟨-, -, eq⟩
    · by_cases same : k = e.slot
      · exact .inr (by rw [eq, same])
      · exact .inl (by rw [eq]; exact (spares_returnSlot same .runEnded s).1)
    · exact .inl (by rw [eq]; exact (Spares.of_faults (faults_reopenGrant s)).1)
    · exact .inl (by rw [eq])
  rw [← spared.1] at first
  rw [own]
  refine ⟨fun armed => ?_, fun idle => ?_⟩
  · rcases first with same | once
    · rw [returned_armed (.inl (by rw [same, armed])), same]
    · rw [returned_armed (.inl armed)] at once
      rw [returnSlot_of_idle (.inr (.inl (by rw [once]; rfl))), once]
  · have same : u.slot k = s.slot k := first.elim id fun once => by rw [once, returnSlot_of_idle (.inr idle)]
    rw [returnSlot_of_idle (.inr (by rw [same]; exact idle)), same]

theorem enterEnded_slot (reason : EndReason) (s : State) (k : Fin 32) :
    ((s.slot k).state = .armed → (enterEnded reason s).slot k = unloaded .runEnded (s.slot k))
      ∧ ((s.slot k).state = .loaded ∨ (s.slot k).state = .done → (enterEnded reason s).slot k = s.slot k) := by
  have same : (endBlocks reason s).slot k = s.slot k := by unfold State.slot; rw [(endBlocks_rest reason s).2.2.1]
  rw [enterEnded_eq, ← same]
  exact returnSlots_unheld _ k

theorem counted_remaining (now : Nat) (x : Slot) : (counted now x).remaining = x.remaining.count := by
  cases hr : x.remaining with
  | endless => simp [counted, hr, Reps.count]
  | finite n =>
    by_cases last : Reps.finite (n - 1) = .finite 0
    · cases hs : x.staged <;> simp [counted, hr, hs, last, Reps.count]
    · simp [counted, hr, last, Reps.count]

/-- Settles O40: the due delay applies the slot, by its targets and its action. -/
theorem delayElapseApplies : Obligations.DelayElapseApplies := by
  intro k r s waiting record x ts free others shown
  refine ⟨fun early => ?_, fun due => ?_⟩
  · rw [exec_delayElapse, delayEnd, if_neg (mt (delayDue_iff record waiting).mp (Nat.not_le.mpr early))]
  rw [exec_delayElapse_of_due record waiting due]
  refine ⟨fun held => ?_, fun free relay target now => ?_, fun free aligned p g action => ?_, fun free path relay => ?_,
    fun action => ?_, fun action => ⟨fun run => ?_, fun run => ?_⟩⟩
  · obtain ⟨holders, ntc, frame⟩ := conflict_frame k s
    rw [applySlot_of_held record held]
    exact ⟨_, rfl, conflict_slot_same k s, conflict_slot_other k s, holders, ntc, frame⟩
  · obtain ⟨slot, others, holder, force, rest⟩ := applySlot_instant record free ⟨relay, target, now⟩
    exact ⟨_, rfl, slot, others, holder, force, rest⟩
  · rw [applySlot_of_free record free]
    cases g with
    | true =>
      rw [if_pos rfl] at action
      simp only [proceed, action, applySwitch, aligned]
      rfl
    | false =>
      rw [if_neg nofun] at action
      simp only [proceed, action, applySwitch, aligned]
      rfl
  · obtain ⟨slot, others, holder, listed, pins, rest⟩ := applySlot_relay record free relay
    exact ⟨_, rfl, slot, others, holder, listed, pins, rest⟩
  · obtain ⟨others, holders, run, frame⟩ := runAction_rest k s
    have slot := runAction_slot k s
    have apply_eq : applySlot k s = takeHold (runAction k s) := by
      rw [applySlot_of_no_targets record (by rw [action]; rfl), proceed, action]
    rw [apply_eq]
    generalize runAction k s = v at *
    obtain ⟨faults, hold⟩ := takeHold_frame v
    have cases := takeHold_cases v
    have slots (j : Fin 32) : (takeHold v).slot j = v.slot j := by unfold State.slot; rw [faults]
    refine ⟨_, rfl, by rw [slots, slot]; rfl, fun j hj => by rw [slots, others j hj], by rw [faults, holders], fun running calm => ?_,
      fun running flag => ?_, fun idle => ?_, ?_⟩
    · rcases cases with ⟨other, -⟩ | ⟨-, flag, -⟩ | ⟨-, -, eq⟩
      · exact absurd (by rw [run, running]) other
      · rw [run, calm] at flag
        cases flag
      · rw [eq]
        exact ⟨rfl, isPending_raise_self .run _, by rw [← run]; rfl⟩
    · rcases cases with ⟨other, -⟩ | ⟨-, -, eq⟩ | ⟨-, calm, -⟩
      · exact absurd (by rw [run, running]) other
      · rw [eq]
        exact ⟨by rw [← running, ← run]; rfl, rfl, rfl⟩
      · rw [run, flag] at calm
        cases calm
    · rcases cases with ⟨-, eq⟩ | ⟨running, -⟩ | ⟨running, -⟩
      · rw [eq, run]
      · exact absurd (by rw [← run, running]) idle
      · exact absurd (by rw [← run, running]) idle
    · have whole := congrArg (fun u : State => { u with run := s.run, faults := s.faults, ntc := s.ntc }) hold
      refine whole.trans ?_
      have base := congrArg (fun u : State => { u with run := s.run }) frame
      exact base
  · obtain ⟨-, -, same_run, -⟩ := runAction_rest k s
    have slot := runAction_slot k s
    have apply_eq : applySlot k s = endCause .faultEnd (runAction k s) := by
      rw [applySlot_of_no_targets record (by rw [action]; rfl), proceed, action]
    rw [apply_eq, endCause_of_run _ _ ((inRun_congr same_run).trans run)]
    generalize runAction k s = v at *
    obtain ⟨ended, reason⟩ := enterEnded_state .faultEnd v
    obtain ⟨of_armed, of_idle⟩ := enterEnded_slot .faultEnd v k
    refine ⟨_, rfl, ended, reason, ?_, fun one staged => ?_, fun endless => ?_⟩
    · rw [counted_remaining]
      have left : (v.slot k).remaining = x.remaining.count := by rw [slot, counted_remaining]
      rcases counted_cases s.uptime { s.slot k with outcome := (s.slot k).applied } with ⟨state, -⟩ | ⟨state, -⟩ | ⟨state, -⟩
      · rw [of_idle (.inl (by rw [slot, state])), left]
      · rw [of_idle (.inr (by rw [slot, state])), left]
      · rw [of_armed (by rw [slot, state])]
        exact left
    · have done : (v.slot k).state = .done ∧ (v.slot k).outcome = (s.slot k).applied := by
        rw [slot]
        simp [counted, show (s.slot k).remaining = .finite 1 from one, show (s.slot k).staged = none from staged]
      rw [of_idle (.inr done.1)]
      exact done
    · have armed : (v.slot k).state = .armed := by
        rw [slot]
        simp [counted, show (s.slot k).remaining = .endless from endless]
      rw [of_armed armed]
      exact ⟨rfl, rfl⟩
  · obtain ⟨others, holders, same_run, frame⟩ := runAction_rest k s
    have apply_eq : applySlot k s = endCause .faultEnd (runAction k s) := by
      rw [applySlot_of_no_targets record (by rw [action]; rfl), proceed, action]
    rw [apply_eq, endCause_of_no_run _ _ ((inRun_congr same_run).trans run)]
    exact ⟨_, rfl, same_run, runAction_slot k s, others⟩

end Sys2Proof.Machine
end

section
/-! PROOFS. The elapse of a width: O41. -/

namespace Sys2Proof.Machine

open Sys2Proof.Safety

variable {s t u : State} {j k : Fin 32} {r : FaultRecord}

/-! ### What an item leaves of another slot -/

/-- From `s` to `t` slot `j` stands, and no alignment wait of it begins. -/
def Parts (j : Fin 32) (s t : State) : Prop := t.slot j = s.slot j ∧ ∀ p, ∀ w ∈ t.wait p, w.slot = j → w ∈ s.wait p

theorem Parts.refl (j : Fin 32) (s : State) : Parts j s s := ⟨rfl, fun _ _ hw _ => hw⟩

theorem Parts.trans (h : Parts j s t) (h' : Parts j t u) : Parts j s u :=
  ⟨h'.1.trans h.1, fun p w hw e => h.2 p w (h'.2 p w hw e) e⟩

theorem Parts.of_waits (slot : t.slot j = s.slot j) (waits : t.pins.waits = s.pins.waits) : Parts j s t := by
  refine ⟨slot, fun p w hw _ => ?_⟩
  unfold State.wait at hw ⊢
  rwa [waits] at hw

/-- An item of the microsecond leaves slot `j` and its waits, unless it ends the run. -/
structure Leaves (j : Fin 32) (s t : State) : Prop where
  works : Works s t
  slot : (s.inRun = true ∧ t.run.state = .ended) ∨ Parts j s t

theorem Leaves.refl (j : Fin 32) (s : State) : Leaves j s s := ⟨.refl s, .inr (.refl j s)⟩

theorem Works.inRun_of (h : Works s t) (run : t.inRun = true) : s.inRun = true := by
  by_contra q
  rw [inRun_congr (h.quiet (Bool.eq_false_iff.mpr q))] at run
  exact q run

theorem Leaves.trans (h : Leaves j s t) (h' : Leaves j t u) : Leaves j s u := by
  refine ⟨h.works.trans h'.works, ?_⟩
  rcases h.slot with ⟨run, ended⟩ | same
  · exact .inl ⟨run, h'.works.ended ended⟩
  · rcases h'.slot with ⟨run, ended⟩ | same'
    · exact .inl ⟨h.works.inRun_of run, ended⟩
    · exact .inr (same.trans same')

theorem Leaves.ite {c : Prop} [Decidable c] (h : Leaves j s t) (h' : Leaves j s u) : Leaves j s (if c then t else u) := by
  split
  · exact h
  · exact h'

theorem Leaves.of_waits (h : Works s t) (slot : t.slot j = s.slot j) (waits : t.pins.waits = s.pins.waits) : Leaves j s t :=
  ⟨h, .inr (.of_waits slot waits)⟩

theorem Leaves.of_faults (h : Works s t) (faults : t.faults = s.faults) (waits : t.pins.waits = s.pins.waits) : Leaves j s t :=
  .of_waits h (by unfold State.slot; rw [faults]) waits

theorem leaves_setSlot (h : j ≠ k) (x : Slot) (s : State) : Leaves j s (s.setSlot k x) :=
  .of_waits (works_setSlot k x s) (State.slot_setSlot_other _ _ _ _ h) rfl

theorem leaves_setPath (p : Fin 24) (x : Path) (s : State) : Leaves j s (s.setPath p x) := .of_faults (works_setPath p x s) rfl rfl

theorem leaves_setWait (p : Fin 24) {x : Option AlignWait} (h : ∀ w ∈ x, w.slot ≠ j) (s : State) : Leaves j s (s.setWait p x) := by
  refine ⟨works_setWait p x s, .inr ⟨rfl, fun q w hw e => ?_⟩⟩
  rw [State.wait_setWait] at hw
  split at hw
  · exact absurd e (h w hw)
  · exact hw

theorem leaves_countRepetition (h : j ≠ k) (s : State) : Leaves j s (countRepetition k s) :=
  .of_waits (works_countRepetition k s) (countRepetition_slot_other k s j h)
    (congrArg (fun u : State => u.pins.waits) (countRepetition_frame k s) :)

theorem leaves_runAction (h : j ≠ k) (s : State) : Leaves j s (runAction k s) :=
  (leaves_setSlot h _ s).trans (leaves_countRepetition h _)

theorem leaves_conflict (h : j ≠ k) (s : State) : Leaves j s (conflict k s) :=
  .of_waits (works_conflict k s) (conflict_slot_other k s j h) (congrArg (fun u : State => u.pins.waits) (conflict_frame k s).2.2 :)

theorem leaves_handRelay (e : RelayEntry) (s : State) : Leaves j s (handRelay e s) :=
  .of_waits (works_handRelay e s) (handRelay_slot e s j) (congrArg (fun u : State => u.pins.waits) (handRelay_frame e s) :)

theorem leaves_takeHolders (gs : List (Fin 45)) (s : State) : Leaves j s (takeHolders k gs s) :=
  .of_waits (works_takeHolders k gs s) (takeHolders_slot ..) (congrArg (fun u : State => u.pins.waits) (takeHolders_frame k gs s) :)

theorem leaves_takeAway (a : Action) (s : State) : Leaves j s (takeAway a s) :=
  .of_waits (works_takeAway a s) (takeAway_slot ..) (takeAway_rest a s).2.2.1

theorem leaves_endCause (reason : EndReason) (s : State) : Leaves j s (endCause reason s) := by
  refine ⟨works_endCause reason s, ?_⟩
  cases run : s.inRun with
  | true =>
    rw [endCause_of_run _ _ run]
    exact .inl ⟨rfl, (enterEnded_state reason s).1⟩
  | false =>
    rw [endCause_of_no_run _ _ run]
    exact .inr (.refl j s)

theorem leaves_takeHold (s : State) : Leaves j s (takeHold s) :=
  .of_faults (works_takeHold s) (takeHold_frame s).1 (congrArg (fun u : State => u.pins.waits) (takeHold_frame s).2 :)

theorem leaves_settleFeeds {u : Supply} (s : State) : Leaves j s (settleFeeds { s with sup := u }) :=
  .of_faults (works_settleFeeds s) (settleFeeds_faults _) (congrArg PinMatrix.waits (settleFeeds_pins _))

theorem leaves_applySwitch (h : j ≠ k) (p : Fin 24) (ground aligned : Bool) (s : State) : Leaves j s (applySwitch k p ground aligned s) :=
  .ite ((leaves_setWait p (fun w hw => by cases hw; exact h.symm) s).trans (leaves_setSlot h _ _))
    ((leaves_setPath p _ s).trans (leaves_setSlot h _ _))

theorem leaves_proceed (h : j ≠ k) (r : FaultRecord) (s : State) : Leaves j s (proceed k r s) := by
  have entered {v : State} (before : Leaves j s v) : Leaves j s (enterActive k (v.slot k).applied v) :=
    before.trans (leaves_setSlot h _ v)
  unfold proceed
  dsimp only
  cases r.action with
  | openPin | shortGnd => exact leaves_applySwitch h ..
  | shortSupply | bridge => exact (leaves_setSlot h _ s).trans (leaves_handRelay _ _)
  | freeze | force | offset => exact entered (.of_faults (works_setModifier _ _ s) rfl rfl)
  | toothDrop | crankShift => exact entered (.of_faults (works_setCrankMod _ s) rfl rfl)
  | camHold | camShift => exact entered (.of_faults (works_setCamMod _ _ s) rfl rfl)
  | battDrop | ignDrop => exact entered (leaves_settleFeeds s)
  | holdRun => exact (leaves_runAction h s).trans (leaves_takeHold _)
  | endRun => exact (leaves_runAction h s).trans (leaves_endCause .faultEnd _)

theorem leaves_applySlot (h : j ≠ k) (s : State) : Leaves j s (applySlot k s) := by
  unfold applySlot
  split
  · exact .refl j s
  · exact .ite (leaves_conflict h s) ((leaves_takeHolders _ s).trans (leaves_proceed h _ _))

theorem leaves_fire (h : j ≠ k) (s : State) : Leaves j s (fire k s) := by
  unfold fire
  rw [takeStaged_eq]
  dsimp only
  refine (leaves_setSlot h (firing (s.slot k)) s).trans ?_
  split
  · exact .refl j _
  · exact .ite (leaves_applySlot h _) (leaves_setSlot h _ _)

theorem leaves_releaseDone (h : j ≠ k) (s : State) : Leaves j s (releaseDone k s) := by
  have works := works_releaseDone k s
  have slot := releaseDone_slot_other k s j h
  have frame := releaseDone_frame k s
  generalize releaseDone k s = v at works slot frame ⊢
  exact .of_waits works slot (congrArg (fun u : State => u.pins.waits) frame :)

theorem leaves_handRelease (h : j ≠ k) (s : State) : Leaves j s (handRelease k s) := by
  unfold handRelease
  split
  · exact leaves_releaseDone h s
  · split
    · exact leaves_handRelay _ s
    · exact (leaves_takeAway _ s).trans (leaves_releaseDone h _)

theorem leaves_widthItem {w : WorkItem} (h : j ≠ k) (hw : w ≠ .slot j) (s : State) : Leaves j s (widthItem k w s) := by
  unfold widthItem
  cases w with
  | release => exact .ite (leaves_handRelease h s) (.refl j s)
  | slot i => exact .ite (leaves_fire (fun e => hw (by rw [e])) s) (.refl j s)
  | _ => exact .refl j s

/-- A loop whose items leave slot `j` but for the one of its own: what is before it, and after. -/
theorem leaves_at {f : WorkItem → State → State} {xs : List WorkItem} {w : WorkItem} (mem : w ∈ xs) (nodup : xs.Nodup)
    (h : ∀ x ∈ xs, x ≠ w → ∀ s, Leaves j s (f x s)) (now : ∀ x s, (f x s).uptime = s.uptime) (s : State) :
    ∃ u, u.uptime = s.uptime ∧ Leaves j s u ∧ Leaves j (f w u) (forEach xs f s) := by
  obtain ⟨before, behind, rfl⟩ := List.append_of_mem mem
  have fresh := List.nodup_cons.mp (List.nodup_middle.mp nodup)
  have pass (ys : List WorkItem) (sub : ∀ y ∈ ys, y ∈ before ++ behind) (s : State) : Leaves j s (forEach ys f s) :=
    forEach_keeps (Leaves j s) ys f (fun y hy t ht => ht.trans (h y (by
      rcases List.mem_append.mp (sub y hy) with m | m <;> simp [m]) (fun e => fresh.1 (e ▸ sub y hy)) t)) s (.refl j s)
  refine ⟨forEach before f s, forEach_view (·.uptime) before f (fun x _ s => now x s) s, pass before (fun y hy => by simp [hy]) s, ?_⟩
  rw [forEach_append, forEach_cons]
  exact pass behind (fun y hy => by simp [hy]) _

/-! ### What an instant release takes away -/

theorem sameBut_takeAway (a : Action) (s : State) : sameBut a.targets s (takeAway a s) := by
  cases a with
  | openPin | shortGnd => exact sameBut_setPath (.head _) _ s
  | freeze | force | offset => exact sameBut_setModifier (.head _) _ s
  | toothDrop | crankShift => exact sameBut_setCrankMod (.head _) _ s
  | camHold | camShift => exact sameBut_setCamMod (.head _) _ s
  | battDrop => exact sameBut_settleFeeds (.inl (.head _)) rfl
  | ignDrop => exact sameBut_settleFeeds (.inr (.head _)) rfl
  | shortSupply | bridge | holdRun | endRun => exact sameBut_refl _ s

/-- An instant release that counts a repetition (R126, R129). -/
structure Released (k : Fin 32) (r : FaultRecord) (s t : State) : Prop where
  slot : t.slot k = counted s.uptime (s.slot k)
  others : ∀ j, j ≠ k → t.slot j = s.slot j
  holder : ∀ g, t.holder g = if s.holder g = some k then none else s.holder g
  away : takenAway r.action t
  rest : sameBut r.action.targets s t
  fault : (t.slot k).state ≠ .armed → t.isPending .fault = true ∧ t.ntc.faultMask.getLsbD k.val = true

theorem raiseFault_marks (k : Fin 32) (s : State) :
    (raiseFault k s).isPending .fault = true ∧ (raiseFault k s).ntc.faultMask.getLsbD k.val = true := by
  refine ⟨isPending_raise_self .fault s, ?_⟩
  show (s.ntc.faultMask ||| BitVec.twoPow 32 k.val).getLsbD k.val = true
  rw [BitVec.getLsbD_or, BitVec.getLsbD_twoPow]
  simp

theorem armed_of_counts {now : Nat} {x : Slot} (h : x.remaining.count ≠ .finite 0) : (counted now x).state = .armed := by
  cases hr : x.remaining with
  | endless => simp [counted, hr]
  | finite n =>
    have more : Reps.finite (n - 1) ≠ .finite 0 := by simpa [hr, Reps.count] using h
    simp [counted, hr, more]

theorem handRelease_instant (record : (s.slot k).record = some r) (relay : r.action.relay = none)
    (rep : (s.slot k).releaseEnd = .rep) : Released k r s (handRelease k s) := by
  have released : handRelease k s = countRepetition k (clearHolders k (takeAway r.action s)) := by
    rw [handRelease, record]
    dsimp only
    rw [relay]
    unfold releaseDone
    dsimp only
    rw [clearHolders_slot, takeAway_slot, rep]
  have away := takeAway_away r.action s
  have but := sameBut_trans (sameBut_takeAway r.action s) (sameBut_clearHolders k _)
  have slots (j : Fin 32) : (clearHolders k (takeAway r.action s)).slot j = s.slot j := by rw [clearHolders_slot, takeAway_slot]
  have holders (g : Fin 45) : (clearHolders k (takeAway r.action s)).holder g = if s.holder g = some k then none else s.holder g := by
    have same (g : Fin 45) : (takeAway r.action s).holder g = s.holder g := by
      unfold State.holder
      rw [(takeAway_rest r.action s).1]
    rw [clearHolders_holder, same]
  have cleared := (frees_clearHolders (A := fun _ => True) (T := fun _ => True) k (takeAway r.action s)).away r.action away
  rw [released]
  generalize clearHolders k (takeAway r.action s) = v at *
  have frame := countRepetition_frame k v
  obtain ⟨-, -, -, -, -, same_holders, ntc⟩ := countRepetition_rest k v
  refine ⟨?_, fun j hj => ?_, fun g => ?_, ?_, sameBut_trans but (sameBut_countRepetition k v), fun not_armed => ?_⟩
  · rw [countRepetition_slot_same, but.1, slots]
  · rw [countRepetition_slot_other _ _ _ hj, slots]
  · unfold State.holder at holders ⊢
    rw [same_holders, holders g]
  · have field {α : Type} (f : State → α) := congrArg f frame
    have rot : (countRepetition k v).rot = v.rot := field State.rot
    have sup : (countRepetition k v).sup = v.sup := field State.sup
    have path (p : Fin 24) : (countRepetition k v).path p = v.path p := field fun s => s.path p
    have chan (n : Fin 16) : (countRepetition k v).chan n = v.chan n := field fun s => s.chan n
    refine takenAway_congr (fun p hp => (path p).trans hp) (fun n hn => by rw [chan n, hn]) ?_ ?_ ?_ ?_ cleared
    · rw [rot]
      exact id
    · rw [rot]
      exact fun _ h => h
    · rw [sup]
      exact fun h h' => ⟨h, h'⟩
    · rw [sup]
      exact id
  · rw [countRepetition_slot_same] at not_armed
    have last : (v.slot k).remaining.count = .finite 0 := by
      by_contra more
      exact not_armed (armed_of_counts more)
    rw [if_pos last] at ntc
    unfold State.isPending
    rw [ntc]
    exact raiseFault_marks k v

/-! ### The elapse of a width -/

theorem exec_widthElapse (k : Fin 32) (order : List WorkItem) (s : State) : exec (.widthElapse k order) s = .next (widthEnd k order s) := rfl

theorem widthDue_iff (active : (s.slot k).state = .active) (record : (s.slot k).record = some r) :
    s.widthDue k = true ↔ r.width ≠ 0 ∧ r.width ≤ (s.slot k).progress := by
  simp [State.widthDue, active, record, Nat.pos_iff_ne_zero]

/-- The slot as its width elapses. -/
def elapsed (k : Fin 32) (s : State) : State := s.setSlot k { s.slot k with state := .releasing, releaseEnd := .rep }

theorem widthEnd_of_due (due : s.widthDue k = true) (order : List WorkItem) :
    widthEnd k order s = forEach (orderItems order widthItems) (widthItem k) (elapsed k s) := if_pos due

theorem elapsed_slot (k : Fin 32) (s : State) : (elapsed k s).slot k = { s.slot k with state := .releasing, releaseEnd := .rep } :=
  State.slot_setSlot_same ..

theorem elapsed_slot_other (h : j ≠ k) (s : State) : (elapsed k s).slot j = s.slot j := State.slot_setSlot_other _ _ _ _ h

theorem followSlot_idle (h : s.looks j = false) : followSlot k j s = s := by
  unfold followSlot
  rw [h, Bool.false_and, if_neg nofun]

theorem looks_eq_false (h : (s.slot j).state = .armed → s.uptime ≤ (s.slot j).since) : s.looks j = false :=
  Bool.eq_false_iff.mpr fun looks => by
    obtain ⟨armed, since⟩ := looks_iff.mp looks
    exact absurd since (Nat.not_lt.mpr (h armed))

/-- With no slot looking for its trigger a width's elapse is its release. -/
theorem widthEnd_of_quiet (due : s.widthDue k = true) (order : List WorkItem)
    (before : ∀ j, (elapsed k s).looks j = false) (after : ∀ j, (handRelease k (elapsed k s)).looks j = false) :
    widthEnd k order s = handRelease k (elapsed k s) := by
  have release : widthItem k .release (elapsed k s) = handRelease k (elapsed k s) := if_pos (by rw [elapsed_slot])
  have idle (t : State) (ht : ∀ j, t.looks j = false) (w : WorkItem) (hw : w ≠ .release) : widthItem k w t = t := by
    cases w with
    | release => exact absurd rfl hw
    | slot j => exact followSlot_idle (ht j)
    | _ => rfl
  rw [widthEnd_of_due due, ← release]
  refine forEach_one (own_mem_orderItems _ _ _ (by simp [widthItems])) (nodup_orderItems nodup_widthItems)
    (fun w _ hw => idle _ before w hw) (fun w _ hw => idle _ ?_ w hw)
  rw [release]
  exact after

theorem counted_any_state (now : Nat) (x : Slot) (st : SlotState) : counted now { x with state := st } = counted now x := by
  cases hr : x.remaining with
  | endless => simp [counted, hr]
  | finite n =>
    by_cases last : Reps.finite (n - 1) = .finite 0
    · cases hs : x.staged <;> simp [counted, hr, hs, last]
    · simp [counted, hr, last]

theorem counted_since {now : Nat} {x : Slot} (armed : (counted now x).state = .armed) : (counted now x).since = now := by
  cases hr : x.remaining with
  | endless => simp [counted, hr]
  | finite n =>
    by_cases last : Reps.finite (n - 1) = .finite 0
    · cases hs : x.staged <;> simp [counted, hr, hs, last] at armed
    · simp [counted, hr, last]

theorem handRelease_relay {path : RelayPath} (record : (s.slot k).record = some r) (relay : r.action.relay = some path) :
    handRelease k s = handRelay { slot := k, kind := .release, path := path, since := s.uptime } s := by
  rw [handRelease, record]
  dsimp only
  rw [relay]

/-- A hand-over where the drive has granted in this microsecond: the drive chooses anew among all (R152, log entry 17). -/
theorem handRelay_anew {e own : RelayEntry} (busy : s.pins.drive = .busy e s.uptime)
    (opened : e.kind = .release ∨ (s.slot e.slot).releaseEnd = .rep) :
    let all := e :: s.pins.waitList ++ [own]
    ∃ f, Chosen f all ∧ handRelay own s = (s.setWaitList (all.erase f)).setDrive (.busy f s.uptime) := by
  intro all
  have reopened : reopenGrant s = (s.setWaitList (e :: s.pins.waitList)).setDrive .free := by
    unfold reopenGrant
    rw [busy]
  have handed : handRelay own s = relayGrant ((s.setWaitList all).setDrive .free) := by
    unfold handRelay
    rw [regrant_of_open (grantOpen_iff.mpr ⟨e, busy, opened⟩), reopened]
    rfl
  rcases relayGrant_cases ((s.setWaitList all).setDrive .free) with ⟨idle, -⟩ | ⟨f, -, chosen, granted⟩
  · rcases idle with not_free | none
    · exact absurd rfl not_free
    · cases none
  · exact ⟨f, chosen_of_chooseEntry chosen, handed.trans granted⟩

/-- Settles O41: the release is the only item that acts when no slot is armed; a follower's own item fires it, whatever is taken before
and after. -/
theorem widthElapseReleases : Obligations.WidthElapseReleases := by
  intro k order r s active record x quiet
  refine ⟨fun early => ?_, fun width due => ?_⟩
  · rw [exec_widthElapse, widthEnd, if_neg (mt (widthDue_iff active record).mp ?_)]
    rintro ⟨some_width, elapsed⟩
    exact early.elim some_width (Nat.not_lt.mpr elapsed)
  have due : s.widthDue k = true := (widthDue_iff active record).mpr ⟨width, due⟩
  have before (h : quiet) (j : Fin 32) : (elapsed k s).looks j = false := looks_eq_false fun armed => by
    by_cases own : j = k
    · rw [own, elapsed_slot] at armed
      cases armed
    · rw [elapsed_slot_other own] at armed
      exact absurd armed (h j)
  have record' : ((elapsed k s).slot k).record = some r := by rw [elapsed_slot]; exact record
  rw [exec_widthElapse]
  refine ⟨fun h relay => ?_, fun h path relay => ?_, ?_⟩
  · obtain ⟨slot, others, holder, away, rest, fault⟩ := handRelease_instant record' relay (by rw [elapsed_slot])
    rw [elapsed_slot] at slot
    have others' (j : Fin 32) (hj : j ≠ k) := (others j hj).trans (elapsed_slot_other hj s)
    have uptime : (handRelease k (elapsed k s)).uptime = s.uptime := rest.1
    rw [widthEnd_of_quiet due order (before h) fun j => looks_eq_false fun armed => ?_]
    · refine ⟨_, rfl, slot.trans ?_, others', fun g => (holder g).trans (by rfl), away, sameBut_trans (sameBut_setSlot k _ s) rest, fault⟩
      exact counted_any_state s.uptime { x with releaseEnd := .rep } .releasing
    · rw [uptime]
      by_cases own : j = k
      · rw [own, slot] at armed ⊢
        exact (counted_since armed).ge
      · rw [others' j own] at armed
        exact absurd armed (h j)
  · have handed := handRelease_relay record' relay
    have quiet_after (j : Fin 32) : (handRelease k (elapsed k s)).looks j = false := looks_eq_false fun armed => by
      rw [handed, handRelay_slot] at armed
      by_cases own : j = k
      · rw [own, elapsed_slot] at armed
        cases armed
      · rw [elapsed_slot_other own] at armed
        exact absurd armed (h j)
    rw [widthEnd_of_quiet due order (before h) quiet_after, handed]
    refine ⟨fun closed => ?_, fun e busy opened => ?_⟩
    · rw [handRelay_of_closed _ _ (grantOpen_eq_false (s := elapsed k s) closed)]
      rfl
    · obtain ⟨f, chosen, eq⟩ := handRelay_anew (s := elapsed k s) busy
        (own := { slot := k, kind := .release, path := path, since := s.uptime }) (opened.imp_right fun rep => by
          by_cases own : e.slot = k
          · rw [own, elapsed_slot]
          · rw [elapsed_slot_other own, rep])
      exact ⟨f, chosen, congrArg _ eq⟩
  · refine ⟨_, rfl, fun same_run j q apart armed since record_q trigger staged delay => ?_⟩
    rw [widthEnd_of_due due order] at same_run ⊢
    obtain ⟨u, uptime, early, late⟩ := leaves_at (j := j) (f := widthItem k) (own_mem_orderItems order widthItems (.slot j) (by simp [widthItems, mem_allSlots]))
      (nodup_orderItems nodup_widthItems) (fun w _ hw t => leaves_widthItem apart hw t)
      (fun w t => (calm_widthItem k w t).uptime) (elapsed k s)
    generalize forEach (orderItems order widthItems) (widthItem k) (elapsed k s) = t at same_run late ⊢
    have not_ended (run : s.inRun = true) : t.run.state ≠ .ended := fun ended => not_ended_of_inRun run (same_run ▸ ended)
    have slot_u : u.slot j = s.slot j := by
      rcases early.slot with ⟨run, ended⟩ | ⟨same, -⟩
      · have run_here : s.inRun = true := run
        exact absurd ((show Works u (widthItem k (.slot j) u) from works_widthItem k _ u).trans late.works |>.ended ended) (not_ended run_here)
      · exact same.trans (elapsed_slot_other apart s)
    have fired : widthItem k (.slot j) u = u.setSlot j { s.slot j with state := .waiting, progress := 0 } := by
      have looks : u.looks j = true := looks_iff.mpr ⟨by rw [slot_u, armed], by rw [slot_u, uptime]; exact since⟩
      have follows : u.trigger j = some (.afterSlot k) := by rw [State.trigger, slot_u, record_q, ← trigger]; rfl
      have fires : widthItem k (.slot j) u = fire j u := if_pos (by rw [looks, follows]; simp)
      have staged_u : (u.slot j).staged = none := by rw [slot_u, staged]
      rw [fires, fire_of_delay (r := q) (by rw [firing_of_none staged_u, slot_u]; exact record_q) delay, firing_of_none staged_u, slot_u]
    rw [fired] at late
    rcases late.slot with ⟨run, ended⟩ | ⟨same, -⟩
    · exact absurd ended (not_ended (early.works.inRun_of run))
    · rw [same, State.slot_setSlot_same]

end Sys2Proof.Machine
end

section
/-! PROOFS. The Pin Matrix: O42, O43, O44. -/

namespace Sys2Proof.Machine

open Sys2Proof.Safety

variable {s t u : State} {j k : Fin 32}

/-! ### PIN-MAP (R140) -/

/-- A code of section 11.5 that stands for a source. -/
def SourceCode (c : Nat) : Prop := c ≤ 0x12 ∨ (0x20 ≤ c ∧ c ≤ 0x27) ∨ c = 0xFF

theorem ofCode_sourceCode (x : PinSource) : PinSource.ofCode (sourceCode x) = some x := by
  rcases x with (_ | c | n) | i | _
  · rfl
  · fin_cases c <;> rfl
  · exact dif_pos n.isLt
  · fin_cases i <;> rfl
  · rfl

theorem sourceCode_injective : Function.Injective sourceCode := fun x y h =>
  Option.some.inj ((ofCode_sourceCode x).symm.trans ((congrArg PinSource.ofCode h).trans (ofCode_sourceCode y)))

theorem exists_source {c : Nat} (h : SourceCode c) : ∃ x, sourceCode x = c := by
  rcases h with h | ⟨low, high⟩ | rfl
  · by_cases channel : c < 16
    · exact ⟨.line (.channel ⟨c, channel⟩), rfl⟩
    · obtain rfl | rfl | rfl : c = 16 ∨ c = 17 ∨ c = 18 := by omega
      · exact ⟨.line .crank, rfl⟩
      · exact ⟨.line (.cam 0), rfl⟩
      · exact ⟨.line (.cam 1), rfl⟩
  · exact ⟨.tap ⟨c - 0x20, by omega⟩, by simp only [sourceCode]; omega⟩
  · exact ⟨.unused, rfl⟩

theorem ofCode_eq_none {c : Nat} (h : ¬ SourceCode c) : PinSource.ofCode c = none := by
  unfold SourceCode at h
  unfold PinSource.ofCode
  rw [dif_neg (by omega), if_neg (by omega), if_neg (by omega), if_neg (by omega), dif_neg (by omega), if_neg (by omega)]

theorem mapM_ofCode_of_legal {codes : List Nat} (h : ∀ c ∈ codes, SourceCode c) :
    ∃ xs, codes.mapM PinSource.ofCode = some xs ∧ xs.map sourceCode = codes := by
  induction codes with
  | nil => exact ⟨[], rfl, rfl⟩
  | cons c codes ih =>
    obtain ⟨x, hx⟩ := exists_source (h c List.mem_cons_self)
    obtain ⟨xs, parsed, same⟩ := ih fun d hd => h d (List.mem_cons_of_mem c hd)
    refine ⟨x :: xs, ?_, by rw [List.map_cons, hx, same]⟩
    rw [List.mapM_cons, parsed, ← hx, ofCode_sourceCode]
    rfl

theorem mapM_ofCode_of_illegal {codes : List Nat} (h : ¬ ∀ c ∈ codes, SourceCode c) : codes.mapM PinSource.ofCode = none := by
  induction codes with
  | nil => exact absurd nofun h
  | cons c codes ih =>
    rw [List.mapM_cons]
    by_cases hc : SourceCode c
    · rw [ih fun rest => h (List.forall_mem_cons.mpr ⟨hc, rest⟩)]
      cases PinSource.ofCode c <;> rfl
    · rw [ofCode_eq_none hc]
      rfl

theorem map_getAt_allPins {xs : List PinSource} (h : xs.length = 24) :
    allPins.map (getAt (Vector.mk xs.toArray (by simp [h]))) = xs := by
  have pins : allPins = List.finRange 24 := by decide
  rw [pins]
  refine List.ext_getElem (by simp [h]) fun i hi hi' => ?_
  simp [getAt]

/-- A legal list of 24 codes is a map that carries them, duplicated as they are. -/
theorem parseMap_of_legal {codes : List Nat} (length : codes.length = 24) (h : ∀ c ∈ codes, SourceCode c) :
    ∃ m, parseMap codes = some m ∧ (∀ p : Fin 24, some (sourceCode (getAt m p)) = codes[p.val]?)
      ∧ (duplicated m = false ↔ (codes.filter (fun c => decide (c ≠ 0xFF))).Nodup) := by
  obtain ⟨xs, parsed, rfl⟩ := mapM_ofCode_of_legal h
  have length : xs.length = 24 := by simpa using length
  refine ⟨Vector.mk xs.toArray (by simp [length]), ?_, fun p => ?_, ?_⟩
  · unfold parseMap
    rw [parsed]
    exact dif_pos length
  · simp [getAt, length]
  · have used : (xs.map sourceCode).filter (fun c => decide (c ≠ 0xFF)) = (xs.filter (fun x => x != .unused)).map sourceCode := by
      rw [List.filter_map]
      refine congrArg _ (List.filter_congr fun x _ => ?_)
      have code : sourceCode x = 0xFF ↔ x = .unused := ⟨fun h => sourceCode_injective h, fun h => by rw [h]; rfl⟩
      rw [bne, beq_eq_decide]
      simp [code]
    unfold duplicated
    dsimp only
    rw [map_getAt_allPins length, used, List.nodup_map_iff sourceCode_injective]
    simp

theorem pinHeld_eq_false_iff : s.pinHeld = false ↔ ∀ p, s.holder (pinTarget p) = none := by
  simp [State.pinHeld, mem_allPins]

/-- Settles O42: the checks in the order of R190, the codes read by the parser's inverse. -/
theorem pinMapStoresOrRefuses : Obligations.PinMapStoresOrRefuses := by
  intro codes s allowed legal distinct
  have allowed_iff : (!s.betweenRuns || s.pinHeld) = false ↔ allowed := by
    rw [Bool.or_eq_false_iff, Bool.not_eq_false', betweenRuns_iff, pinHeld_eq_false_iff]
  have passed (length : codes.length = 24) (ok : allowed) : reqPinMap codes s = match parseMap codes with
      | none => refuse s .badField []
      | some m => if duplicated m then refuse s .duplicate [] else ({ s with pins := { s.pins with map := m } }, .bare .ok) := by
    exact (if_neg (not_not.mpr length)).trans (if_neg (Bool.eq_false_iff.mp (allowed_iff.mpr ok)))
  refine ⟨fun length => ?_, fun length no => ?_, fun length ok bad => ?_, fun length ok good twice => ?_, fun length ok good once => ?_⟩
  · exact next_badLength (r := reqPinMap codes s) (if_pos length)
  · refine next_answered (r := reqPinMap codes s) ?_ nofun nofun
    unfold reqPinMap
    rw [if_neg (not_not.mpr length), if_pos (by rw [← Bool.not_eq_false, allowed_iff]; exact no)]
    rfl
  · refine next_answered (r := reqPinMap codes s) ?_ nofun nofun
    rw [passed length ok, show parseMap codes = none by unfold parseMap; rw [mapM_ofCode_of_illegal bad]]
    rfl
  · obtain ⟨m, parsed, -, unique⟩ := parseMap_of_legal length good
    refine next_answered (r := reqPinMap codes s) ?_ nofun nofun
    rw [passed length ok, parsed]
    exact if_pos (by rw [← Bool.not_eq_false, unique]; exact twice)
  · obtain ⟨m, parsed, carries, unique⟩ := parseMap_of_legal length good
    refine ⟨m, carries, next_answered (r := reqPinMap codes s) ?_ nofun nofun⟩
    rw [passed length ok, parsed]
    exact if_neg (Bool.eq_false_iff.mp (unique.mpr once))

/-! ### The grant, the recovery and the alignment timeout (R147, R150, R152) -/

theorem recoveryDue_iff {x : Nat} (h : s.pins.drive = .recovering x) : s.recoveryDue = true ↔ x ≤ s.uptime := by
  unfold State.recoveryDue
  rw [h]
  exact decide_eq_true_iff

theorem recoveryDue_of_not (h : ∀ x, s.pins.drive ≠ .recovering x) : s.recoveryDue = false := by
  unfold State.recoveryDue
  cases hd : s.pins.drive with
  | free => rfl
  | busy e x => rfl
  | recovering x => exact absurd hd (h x)

theorem alignDue_iff {p : Fin 24} {w : AlignWait} (h : s.wait p = some w) : s.alignDue p = true ↔ w.since + 20000 ≤ s.uptime := by
  unfold State.alignDue
  rw [h]
  exact decide_eq_true_iff

theorem setAligned_timeout {p : Fin 24} {w : AlignWait} (h : s.wait p = some w) :
    setAligned p true s = ((s.setPath p (if w.ground then .shortGnd else .openPath)).setWait p none).setSlot w.slot
      { s.slot w.slot with state := .active, progress := 0, outcome := .alignTimeout } := by
  unfold setAligned
  rw [h]
  rfl

/-- Settles O43: each operation by whether its condition is met. -/
theorem pinMatrixGrantsAndTimesOut : Obligations.PinMatrixGrantsAndTimesOut := by
  intro s
  refine ⟨fun free waiting => ?_, fun idle => congrArg Host.Outcome.next (relayGrant_of_not idle),
    fun x recovering => ⟨fun due => congrArg Host.Outcome.next (if_pos ((recoveryDue_iff recovering).mpr due)), fun early => ?_⟩,
    fun no => congrArg Host.Outcome.next (if_neg (Bool.eq_false_iff.mp (recoveryDue_of_not no))),
    fun p w waits => ⟨fun early => ?_, fun due => congrArg Host.Outcome.next ?_⟩, fun p none => congrArg Host.Outcome.next ?_⟩
  · cases chosen : chooseEntry s.pins.waitList with
    | none => exact absurd (chooseEntry_eq_none chosen) waiting
    | some e => exact ⟨e, chosen_of_chooseEntry chosen, congrArg Host.Outcome.next (relayGrant_of free chosen)⟩
  · exact congrArg Host.Outcome.next (if_neg fun due => absurd ((recoveryDue_iff recovering).mp due) (by omega))
  · exact congrArg Host.Outcome.next (if_neg fun due => absurd ((alignDue_iff waits).mp due) (by omega))
  · exact (if_pos ((alignDue_iff waits).mpr due)).trans (setAligned_timeout waits)
  · exact if_neg (by simp [State.alignDue, none])

/-! ### The completions (R150, R153, R154, R158, R168) -/

theorem settledEntry_of {e : RelayEntry} {x : Nat} (busy : s.pins.drive = .busy e x) (due : x + 5000 ≤ s.uptime) :
    s.settledEntry e.kind = some e := by
  unfold State.settledEntry
  rw [busy]
  exact if_pos ⟨rfl, decide_eq_true due⟩

theorem settledEntry_of_not {kind : RelayKind} {e : RelayEntry} {x : Nat} (busy : s.pins.drive = .busy e x)
    (h : s.uptime < x + 5000 ∨ e.kind ≠ kind) : s.settledEntry kind = none := by
  unfold State.settledEntry
  rw [busy]
  refine if_neg fun ⟨same, due⟩ => h.elim (fun early => ?_) (absurd same)
  have due : x + 5000 ≤ s.uptime := of_decide_eq_true due
  omega

theorem relayCompleted_frame (s : State) : { relayCompleted s with sup := s.sup, ntc := s.ntc } = s := by
  unfold relayCompleted
  split
  · exact congrArg (fun v : State => { v with sup := s.sup }) (settleFeeds_rest _)
  · rfl

/-- The driver stage that waits for the transition is made, and otherwise the supply stays (R168). -/
theorem relayCompleted_stage (s : State) :
    (s.sup.shutdown = .driver → (relayCompleted s).sup.drvReq = false ∧ (relayCompleted s).sup.driver = .off
        ∧ (relayCompleted s).sup.shutdown = .feed (s.uptime + 1000))
      ∧ (s.sup.shutdown ≠ .driver → (relayCompleted s).sup = s.sup) := by
  refine ⟨fun stage => ?_, fun no => by rw [relayCompleted_sup s no]⟩
  unfold relayCompleted
  rw [if_pos stage]
  exact driverStage_sup s

/-- The pins of a relay path. -/
def RelayPath.pins : RelayPath → List (Fin 24)
  | .supply p => [p]
  | .bridge p q => [p, q]

theorem setRelayPath_frame (r : RelayPath) (s : State) :
    { setRelayPath r s with pins := { (setRelayPath r s).pins with paths := s.pins.paths } } = s := by cases r <;> rfl

theorem clearRelayPath_frame (r : RelayPath) (s : State) :
    { clearRelayPath r s with pins := { (clearRelayPath r s).pins with paths := s.pins.paths } } = s := by cases r <;> rfl

theorem setRelayPath_other {r : RelayPath} {p : Fin 24} (h : p ∉ r.pins) (s : State) : (setRelayPath r s).path p = s.path p := by
  cases r with
  | supply a => exact State.path_setPath_other _ _ _ _ (List.ne_of_not_mem_cons h)
  | bridge a b =>
    have hb := List.not_mem_of_not_mem_cons h
    exact (State.path_setPath_other _ _ _ _ (List.ne_of_not_mem_cons hb)).trans
      (State.path_setPath_other _ _ _ _ (List.ne_of_not_mem_cons h))

theorem clearRelayPath_other {r : RelayPath} {p : Fin 24} (h : p ∉ r.pins) (s : State) : (clearRelayPath r s).path p = s.path p := by
  cases r with
  | supply a => exact State.path_setPath_other _ _ _ _ (List.ne_of_not_mem_cons h)
  | bridge a b =>
    have hb := List.not_mem_of_not_mem_cons h
    exact (State.path_setPath_other _ _ _ _ (List.ne_of_not_mem_cons hb)).trans
      (State.path_setPath_other _ _ _ _ (List.ne_of_not_mem_cons h))

theorem clearRelayPath_own {r : RelayPath} {p : Fin 24} (h : p ∈ r.pins) (s : State) : (clearRelayPath r s).path p = .normal := by
  cases r with
  | supply a =>
    obtain rfl := List.mem_singleton.mp h
    exact State.path_setPath_same ..
  | bridge a b =>
    by_cases hb : p = b
    · rw [hb]
      exact State.path_setPath_same ..
    · obtain rfl : p = a := by simpa [RelayPath.pins, hb] using h
      exact (State.path_setPath_other _ _ _ _ hb).trans (State.path_setPath_same ..)

/-- What a completion leaves outside the slots, the holders, the list and its own pins. -/
def Completes (e : RelayEntry) (s t : State) : Prop :=
  { t with pins := s.pins, faults := s.faults, ntc := s.ntc } = s
    ∧ { t.pins with paths := s.pins.paths, waitList := s.pins.waitList } = { s.pins with drive := .free, completed := some s.uptime }
    ∧ ∀ p, p ∉ e.path.pins → t.path p = s.path p

theorem completes_set (e : RelayEntry) (s : State) : Completes e s (setRelayPath e.path (driveSettled s)) := by
  have frame := setRelayPath_frame e.path (driveSettled s)
  exact ⟨(congrArg (fun v : State => { v with pins := s.pins, faults := s.faults, ntc := s.ntc }) frame :),
    (congrArg (fun v : State => { v.pins with paths := s.pins.paths, waitList := s.pins.waitList }) frame :),
    fun p hp => setRelayPath_other hp _⟩

theorem completes_clear (e : RelayEntry) (s : State) : Completes e s (clearRelayPath e.path (driveSettled s)) := by
  have frame := clearRelayPath_frame e.path (driveSettled s)
  exact ⟨(congrArg (fun v : State => { v with pins := s.pins, faults := s.faults, ntc := s.ntc }) frame :),
    (congrArg (fun v : State => { v.pins with paths := s.pins.paths, waitList := s.pins.waitList }) frame :),
    fun p hp => clearRelayPath_other hp _⟩

theorem Completes.of_slots {e : RelayEntry} (h : Completes e s t)
    (frame : { u with faults := t.faults, ntc := t.ntc, pins := { u.pins with waitList := t.pins.waitList } } = t) : Completes e s u := by
  obtain ⟨rest, pins, paths⟩ := h
  refine ⟨Eq.trans ?_ rest, Eq.trans ?_ pins, fun p hp => Eq.trans ?_ (paths p hp)⟩
  · exact congrArg (fun v : State => { v with pins := s.pins, faults := s.faults, ntc := s.ntc }) frame
  · exact congrArg (fun v : State => { v.pins with paths := s.pins.paths, waitList := s.pins.waitList }) frame
  · exact (congrArg (fun v : State => v.path p) frame :)

theorem Completes.of_frame {e : RelayEntry} (h : Completes e s t) (frame : { u with faults := t.faults, ntc := t.ntc } = t) :
    Completes e s u :=
  h.of_slots (by rw [← (congrArg (fun v : State => v.pins.waitList) frame :)]; exact frame)

theorem Completes.relayCompleted {e : RelayEntry} (h : Completes e s t) :
    let v := relayCompleted t
    { v with pins := s.pins, faults := s.faults, sup := s.sup, ntc := s.ntc } = s ∧ v.pins = t.pins ∧ v.faults = t.faults
      ∧ (s.sup.shutdown = .driver → v.sup.drvReq = false ∧ v.sup.driver = .off ∧ v.sup.shutdown = .feed (s.uptime + 1000))
      ∧ (s.sup.shutdown ≠ .driver → v.sup = s.sup) := by
  intro v
  have frame : { v with sup := t.sup, ntc := t.ntc } = t := relayCompleted_frame t
  have stage := relayCompleted_stage t
  obtain ⟨rest, -, -⟩ := h
  have sup : t.sup = s.sup := (congrArg State.sup rest :)
  have now : t.uptime = s.uptime := (congrArg State.uptime rest :)
  rw [sup, now] at stage
  have same := congrArg (fun w : State => { w with pins := s.pins, faults := s.faults, sup := s.sup, ntc := s.ntc }) frame
  have back := congrArg (fun w : State => { w with sup := s.sup }) rest
  exact ⟨same.trans back, (congrArg State.pins frame :), (congrArg State.faults frame :), stage⟩

/-- Settles O44: the transition in flight is settled exactly after its 5,000 microseconds, and with the drive FREE a RELEASE
entry joins the list as it is. -/
theorem relayTransitionsComplete : Obligations.RelayTransitionsComplete := by
  intro e x s busy k slot pins others stage frame
  have pins_eq : e.path.pins = pins := by
    simp only [pins]
    cases e.path <;> rfl
  have framed {t : State} (h : Completes e s t) : frame (relayCompleted t) ∧ stage (relayCompleted t) := by
    obtain ⟨rest, same_pins, -, stage⟩ := h.relayCompleted
    obtain ⟨-, drive, paths⟩ := h
    generalize relayCompleted t = v at *
    refine ⟨⟨(congrArg State.run rest :), (congrArg State.rot rest :), (congrArg State.trace rest :), (congrArg State.chans rest :),
      (congrArg State.cap rest :), (congrArg State.uptime rest :), (congrArg State.link rest :), ?_, ?_, ?_, ?_, fun p hp => ?_⟩, stage⟩
    · rw [same_pins]
      exact (congrArg PinMatrix.map drive :)
    · rw [same_pins]
      exact (congrArg PinMatrix.waits drive :)
    · rw [same_pins]
      exact (congrArg PinMatrix.drive drive :)
    · rw [same_pins]
      exact (congrArg PinMatrix.completed drive :)
    · rw [State.path, same_pins]
      exact paths p (pins_eq ▸ hp)
  refine ⟨fun no => ?_, fun no => ?_, fun due apply => ?_, fun due release => ?_⟩
  · refine congrArg Host.Outcome.next ?_
    rw [relayApplyComplete, settledEntry_of_not busy (no.imp id fun h => by rw [h]; decide)]
  · refine congrArg Host.Outcome.next ?_
    rw [relayReleaseComplete, settledEntry_of_not busy (no.imp id fun h => by rw [h]; decide)]
  · let v := setRelayPath e.path (driveSettled s)
    have settled : Completes e s v := completes_set e s
    have slots : v.faults = s.faults := (congrArg State.faults (setRelayPath_frame e.path (driveSettled s)) :)
    have list : v.pins.waitList = s.pins.waitList :=
      (congrArg (fun w : State => w.pins.waitList) (setRelayPath_frame e.path (driveSettled s)) :)
    have free : v.pins.drive = .free := (congrArg PinMatrix.drive settled.2.1 :)
    have own : v.slot k = s.slot k := by unfold State.slot; rw [slots]
    have run : exec .relayApplyComplete s = .next (relayCompleted (applyCompleted e v)) := by
      refine congrArg Host.Outcome.next ?_
      have entry := settledEntry_of busy due
      rw [apply] at entry
      rw [relayApplyComplete, entry]
    refine ⟨relayCompleted (applyCompleted e v), run, ?_⟩
    have set_paths : (∀ p, e.path = .supply p → v.path p = .shortSupply)
        ∧ ∀ p q, e.path = .bridge p q → p ≠ q → v.path p = .bridge q ∧ v.path q = .bridge p := by
      refine ⟨fun p path => ?_, fun p q path distinct => ?_⟩
      · simp only [v, path]
        exact State.path_setPath_same ..
      · simp only [v, path]
        exact ⟨(State.path_setPath_other _ _ _ _ distinct).trans (State.path_setPath_same ..), State.path_setPath_same ..⟩
    suffices h : ∀ t, applyCompleted e v = t → Completes e s t ∧ t.pins.paths = v.pins.paths ∧ (∀ j, j ≠ k → t.slot j = s.slot j)
        ∧ t.faults.holders = s.faults.holders
        ∧ ((s.slot k).releaseEnd = .rep → t.slot k = entered (s.slot k) ∧ t.pins.waitList = s.pins.waitList)
        ∧ ((s.slot k).releaseEnd = .load → t.slot k = { s.slot k with state := .releasing }
          ∧ t.pins.waitList = s.pins.waitList ++ [{ slot := k, kind := .release, path := e.path, since := s.uptime }]) by
      obtain ⟨done, paths, others, holders, rep, load⟩ := h _ rfl
      obtain ⟨framed, staged⟩ := framed done
      obtain ⟨-, same_pins, same_faults, -⟩ := done.relayCompleted
      have slot (j : Fin 32) : (relayCompleted (applyCompleted e v)).slot j = (applyCompleted e v).slot j := by
        unfold State.slot
        rw [same_faults]
      have path (p : Fin 24) : (relayCompleted (applyCompleted e v)).path p = v.path p := by
        unfold State.path
        rw [same_pins, paths]
      refine ⟨framed, staged, fun j hj => (slot j).trans (others j hj), by rw [same_faults, holders],
        fun p hp => (path p).trans (set_paths.1 p hp), fun p q hp hq => ?_, fun h => ?_, fun h => ?_⟩
      · rw [path, path]
        exact set_paths.2 p q hp hq
      · rw [slot, same_pins]
        exact rep h
      · rw [slot, same_pins]
        exact load h
    rintro t rfl
    unfold applyCompleted
    rw [own]
    cases ending : (s.slot k).releaseEnd with
    | rep =>
      refine ⟨settled.of_slots rfl, rfl, fun j hj => ?_, (congrArg Faults.holders slots :), fun _ => ⟨?_, list⟩, nofun⟩
      · rw [enterActive_slot_other _ _ _ _ hj, State.slot, slots]
        rfl
      · rw [enterActive_slot_same, own]
        rfl
    | load =>
      have closed : (v.setSlot k { s.slot k with state := .releasing }).grantOpen = false := by
        refine grantOpen_eq_false fun e' => ?_
        show v.pins.drive ≠ _
        rw [free]
        exact nofun
      dsimp only
      rw [handRelay_of_closed _ _ closed]
      refine ⟨settled.of_slots rfl, rfl, fun j hj => ?_, (congrArg Faults.holders slots :), nofun, fun _ => ⟨?_, ?_⟩⟩
      · refine (State.slot_setSlot_other _ _ _ _ hj).trans ?_
        rw [State.slot, slots]
        rfl
      · exact State.slot_setSlot_same ..
      · exact congrArg₂ (· ++ ·) list (congrArg (fun now => [RelayEntry.mk e.slot .release e.path now]) (congrArg State.uptime settled.1 :))
  · let v := clearRelayPath e.path (driveSettled s)
    have settled : Completes e s v := completes_clear e s
    have slots : v.faults = s.faults := (congrArg State.faults (clearRelayPath_frame e.path (driveSettled s)) :)
    have list : v.pins.waitList = s.pins.waitList :=
      (congrArg (fun w : State => w.pins.waitList) (clearRelayPath_frame e.path (driveSettled s)) :)
    have own (j : Fin 32) : v.slot j = s.slot j := by unfold State.slot; rw [slots]
    have held (g : Fin 45) : v.holder g = s.holder g := by unfold State.holder; rw [slots]
    have now : v.uptime = s.uptime := (congrArg State.uptime settled.1 :)
    have same := releaseDone_pins k v
    have done : Completes e s (releaseDone k v) := settled.of_frame (releaseDone_frame k v)
    obtain ⟨framed, staged⟩ := framed done
    obtain ⟨-, same_pins, same_faults, -⟩ := done.relayCompleted
    have at_own := releaseDone_slot_same k v
    rw [own, now] at at_own
    have slot (j : Fin 32) : (relayCompleted (releaseDone k v)).slot j = (releaseDone k v).slot j := by
      unfold State.slot
      rw [same_faults]
    refine ⟨relayCompleted (releaseDone k v), ?_, framed, staged, fun j hj => ?_, ?_, fun p hp => ?_, fun g => ?_, fun h => ?_, fun h => ?_⟩
    · refine congrArg Host.Outcome.next ?_
      have entry := settledEntry_of busy due
      rw [release] at entry
      rw [relayReleaseComplete, entry]
    · rw [slot, releaseDone_slot_other k v j hj, own]
    · rw [same_pins, same, list]
    · rw [State.path, same_pins, same]
      exact clearRelayPath_own (pins_eq.symm ▸ hp) _
    · rw [State.holder, same_faults]
      exact (releaseDone_holder k v g).trans (by rw [held])
    · rw [slot, at_own, show (s.slot k).releaseEnd = .rep from h]
    · rw [slot, at_own, show (s.slot k).releaseEnd = .load from h]
      exact (congrArg (fun ends : ReleaseEnd => { s.slot k with state := SlotState.loaded, record := (s.slot k).staged.or (s.slot k).record, staged := none, releaseEnd := ends }) h :)

end Sys2Proof.Machine
end

section
/-! PROOFS. The Supply Sequencer: O46, O47. -/

namespace Sys2Proof.Machine

open Sys2Proof.Safety

variable {s t : State}

/-! ### What the commands leave (R162, R164) -/

theorem command_waitStart {u : Supply} {b i : Bool} {now : Nat} (h : u.waitStart.isSome = (u.battCmd && u.ignCmd)) :
    (u.command b i now).waitStart = if b && i then (if u.battCmd && u.ignCmd then u.waitStart else some now) else none := by
  unfold Supply.command
  cases battery : u.battCmd <;> cases ignition : u.ignCmd <;> rw [battery, ignition] at h <;> cases b <;> cases i <;>
    simp_all

theorem command_waitDone {u : Supply} {b i : Bool} {now : Nat} (h : u.waitStart.isSome = (u.battCmd && u.ignCmd))
    (done : u.waitDone = true → u.waitStart.isSome = true) :
    (u.command b i now).waitDone = (b && i && (u.battCmd && u.ignCmd) && u.waitDone) := by
  have idle (off : (u.battCmd && u.ignCmd) = false) : u.waitDone = false :=
    Bool.eq_false_iff.mpr fun on => by rw [off] at h; rw [h] at done; exact nomatch done on
  unfold Supply.command
  cases battery : u.battCmd <;> cases ignition : u.ignCmd <;> rw [battery, ignition] at idle <;> cases b <;> cases i <;>
    simp_all

theorem changes_iff {u : Supply} {now : Nat} : u.changes now = true ↔
    u.battery ≠ u.battAct ∨ u.ignition ≠ u.ignAct ∨ (u.driver ≠ .off ∧ u.nextDriver now = .off) := by
  unfold Supply.changes
  simp only [Bool.or_eq_true, Bool.and_eq_true, bne_iff_ne, beq_iff_eq, or_assoc, ne_comm]

/-- The supply as a SUPPLY-SET writes it, before the feeds follow. -/
def Supply.requested (u : Supply) (b i d : Bool) (now : Nat) : Supply :=
  { ({ u with shutdown := .none } : Supply).command b i now with drvReq := d }

theorem requested_eq {u : Supply} {b i d : Bool} {now : Nat} (h : u.waitStart.isSome = (u.battCmd && u.ignCmd))
    (done : u.waitDone = true → u.waitStart.isSome = true) : u.requested b i d now = { u with
      battCmd := b, ignCmd := i, drvReq := d, shutdown := .none
      waitStart := if b && i then (if u.battCmd && u.ignCmd then u.waitStart else some now) else none
      waitDone := b && i && (u.battCmd && u.ignCmd) && u.waitDone } := by
  have start := command_waitStart (u := { u with shutdown := .none }) (b := b) (i := i) (now := now) h
  have stood := command_waitDone (u := { u with shutdown := .none }) (b := b) (i := i) (now := now) h done
  rw [← start, ← stood]
  rfl

theorem reqSupplySet_of {b i d : Nat} (hb : b ≤ 1) (hi : i ≤ 1) (hd : d ≤ 1) {v : State}
    (h : settleFeeds { s with sup := s.sup.requested (decide (b = 1)) (decide (i = 1)) (decide (d = 1)) s.uptime } = v) :
    reqSupplySet b i d s = (v, { status := .ok, body := v.supplyBytes }) := by
  subst h
  unfold reqSupplySet
  rw [flag?_of_le hb, flag?_of_le hi, flag?_of_le hd]
  rfl

theorem reqSupplySet_of_bad {b i d : Nat} (h : 1 < b ∨ 1 < i ∨ 1 < d) :
    reqSupplySet b i d s = refuse s .badField s.supplyBytes := by
  unfold reqSupplySet
  split
  · next hb hi hd =>
    have none_of {v : Nat} (bad : 1 < v) : flag? v = none := flag?_eq_none bad
    rcases h with h | h | h
    · rw [none_of h] at hb; cases hb
    · rw [none_of h] at hi; cases hi
    · rw [none_of h] at hd; cases hd
  · rfl

/-- Settles O46: the written commands, then the settled feeds. -/
theorem supplyRequestsCommandTheFeeds : Obligations.SupplyRequestsCommandTheFeeds := by
  intro m b i d s
  refine ⟨fun mode h => ?_, fun h => ?_, fun h => ?_, fun hb hi hd law => ?_⟩
  · refine next_answered (r := reqSupplyConfig m s) ?_ nofun nofun
    rcases h with ⟨rfl, rfl⟩ | ⟨rfl, rfl⟩ <;> rfl
  · refine next_answered (r := reqSupplyConfig m s) ?_ nofun nofun
    match m, h with
    | _ + 2, _ => rfl
  · exact next_answered (r := reqSupplySet b i d s) (reqSupplySet_of_bad h) nofun nofun
  · intro both stood batt waited ign driver changes
    obtain ⟨-, -, -, wait, done, -⟩ := law
    have written := requested_eq (b := decide (b = 1)) (i := decide (i = 1)) (d := decide (d = 1)) (now := s.uptime) wait done
    let u := s.sup.requested (decide (b = 1)) (decide (i = 1)) (decide (d = 1)) s.uptime
    have waited_eq : (decide (b = 1) && decide (i = 1) && (s.sup.battCmd && s.sup.ignCmd) && s.sup.waitDone) = waited := by
      simp only [waited, both, stood, Bool.decide_and, Bool.decide_eq_true]
    have start_eq : (if (decide (b = 1) && decide (i = 1)) = true then (if (s.sup.battCmd && s.sup.ignCmd) = true then s.sup.waitStart else some s.uptime) else none)
        = if both then (if stood then s.sup.waitStart else some s.uptime) else none := by
      simp only [both, stood, Bool.and_eq_true, decide_eq_true_eq]
    rw [waited_eq, start_eq] at written
    have battery : u.battery = batt := by simp only [u, written]; rfl
    have ignition : u.ignition = ign := by
      have needs : waited = true → decide (i = 1) = true := by
        simp only [waited, both, Bool.and_eq_true, decide_eq_true_eq]
        exact fun h => h.1.1.2
      show (u.ignCmd && u.battery && !u.ignDrop && u.waitDone) = (batt && waited && !s.sup.ignDrop)
      rw [battery]
      simp only [u, written]
      cases on : waited with
      | false => simp
      | true => rw [needs on, Bool.true_and, Bool.and_true, Bool.and_true]
    have next : u.nextDriver s.uptime = driver := by
      show (if u.battery && u.drvReq then (if u.driver = .off then DriverState.wakeWait s.uptime else u.driver) else .off) = _
      rw [battery]
      simp only [u, written, driver, Bool.and_eq_true, decide_eq_true_eq]
    have changes_eq : u.changes s.uptime = true ↔ changes := by
      rw [changes_iff, battery, ignition, next]
      simp only [u, written]
      rfl
    have settled : u.settled s.uptime = { s.sup with
        battCmd := decide (b = 1), ignCmd := decide (i = 1), drvReq := decide (d = 1), shutdown := .none
        waitStart := if both then (if stood then s.sup.waitStart else some s.uptime) else none
        waitDone := waited, battAct := batt, ignAct := ign, driver := driver } := by
      show { u with battAct := u.battery, ignAct := u.ignition, driver := u.nextDriver s.uptime } = _
      rw [battery, ignition, next]
      simp only [u, written]
    let v := settleFeeds { s with sup := u }
    have sup : v.sup = u.settled s.uptime := settleFeeds_sup _
    have rest : { v with sup := u, ntc := s.ntc } = { s with sup := u } := settleFeeds_rest _
    have notice : v.ntc = if u.changes s.uptime then (raise .supply s).ntc else s.ntc := settleFeeds_ntc _
    have replied := reqSupplySet_of (s := s) hb hi hd (v := v) rfl
    have answer : respond 0x61 (reqSupplySet b i d s) = answered 0x61 .ok v.supplyBytes v := by
      rw [replied]
      exact respond_answered 0x61 .ok _ v nofun nofun
    refine ⟨answered 0x61 .ok v.supplyBytes v, congrArg Host.Outcome.next answer, sup.trans settled, ?_, fun h => ?_, fun h => ?_, ?_⟩
    · have bytes : v.supplyBytes = ([decide (b = 1), decide (i = 1), batt, ign, decide (d = 1)].map
          (fun v => if v then (1 : Byte) else 0) ++ [driver.code]) := by
        unfold State.supplyBytes
        rw [sup, settled]
        rfl
      rw [bytes]
      unfold answered
      dsimp only
      rw [show v.link = s.link from (congrArg State.link rest :), show v.uptime = s.uptime from (congrArg State.uptime rest :)]
    · exact notice.trans (if_pos (changes_eq.mpr h))
    · exact notice.trans (if_neg (mt changes_eq.mp h))
    · exact congrArg (fun w : State => { w with sup := s.sup, link := s.link }) rest

/-! ### The supply's timers (R162, R163, R168) -/

theorem ignitionDue_iff {x : Nat} (start : s.sup.waitStart = some x) (waits : s.sup.waitDone = false) :
    s.ignitionDue = true ↔ x + 50000 ≤ s.uptime := by
  unfold State.ignitionDue
  rw [start, waits]
  exact decide_eq_true_iff

theorem wakeDue_iff {x : Nat} (h : s.sup.driver = .wakeWait x) : s.wakeDue = true ↔ x + 100000 ≤ s.uptime := by
  unfold State.wakeDue
  rw [h]
  exact decide_eq_true_iff

theorem feedStageDue_iff {x : Nat} (h : s.sup.shutdown = .feed x) : s.feedStageDue = true ↔ x ≤ s.uptime := by
  unfold State.feedStageDue
  rw [h]
  exact decide_eq_true_iff

theorem ignitionWaitEnd_of {x : Nat} (law : SupplyLaw s) (start : s.sup.waitStart = some x) (waits : s.sup.waitDone = false)
    (due : x + 50000 ≤ s.uptime) :
    let on := s.sup.battAct && !s.sup.ignDrop
    let t : State := { s with sup := { s.sup with waitDone := true, ignAct := on } }
    ignitionWaitEnd s = if on then raise .supply t else t := by
  intro on t
  obtain ⟨battery, ignition, drivers, wait, -, -⟩ := law
  let u : Supply := { s.sup with waitDone := true }
  have commanded : s.sup.battCmd = true ∧ s.sup.ignCmd = true := by
    rw [start] at wait
    exact Bool.and_eq_true_iff.mp wait.symm
  have was : s.sup.ignAct = false := by rw [ignition, waits, Bool.and_false]
  have still : s.sup.settled s.uptime = s.sup := by
    refine settled_of_obeys s.sup s.uptime battery ?_ drivers
    rw [ignition, battery]
    rfl
  have batt : u.battery = s.sup.battAct := battery.symm
  have ign : u.ignition = on := by
    show (s.sup.ignCmd && u.battery && !s.sup.ignDrop && true) = on
    rw [batt, commanded.2, Bool.true_and, Bool.and_true]
  have next : u.nextDriver s.uptime = s.sup.driver := congrArg Supply.driver still
  have changes : u.changes s.uptime = on := by
    rw [Bool.eq_iff_iff, changes_iff, batt, ign, next]
    show s.sup.battAct ≠ s.sup.battAct ∨ on ≠ s.sup.ignAct ∨ (s.sup.driver ≠ .off ∧ s.sup.driver = .off) ↔ _
    rw [was]
    simp
  have settled : u.settled s.uptime = { s.sup with waitDone := true, ignAct := on } := by
    show { u with battAct := u.battery, ignAct := u.ignition, driver := u.nextDriver s.uptime } = _
    rw [batt, ign, next]
  refine (if_pos ((ignitionDue_iff start waits).mpr due)).trans ?_
  show raiseIf (u.changes s.uptime) .supply { s with sup := u.settled s.uptime } = _
  rw [changes, settled]
  rfl

theorem feedStage_of {x : Nat} (law : SupplyLaw s) (stage : s.sup.shutdown = .feed x) (due : x ≤ s.uptime) :
    let t : State := { s with sup := { s.sup with
      battCmd := false, ignCmd := false, battAct := false, ignAct := false, waitStart := none
      waitDone := false, driver := .off, shutdown := .none } }
    feedStage s = if s.sup.battAct then raise .supply t else t := by
  intro t
  obtain ⟨-, ignition, drivers, wait, done, -⟩ := law
  let u := s.sup.requested false false s.sup.drvReq s.uptime
  have written : u = { s.sup with battCmd := false, ignCmd := false, shutdown := .none, waitStart := none, waitDone := false } :=
    requested_eq wait done
  have settled : u.settled s.uptime = t.sup := by
    rw [written]
    rfl
  have changes : u.changes s.uptime = s.sup.battAct := by
    rw [Bool.eq_iff_iff, changes_iff, written]
    show false ≠ s.sup.battAct ∨ false ≠ s.sup.ignAct ∨ (s.sup.driver ≠ .off ∧ DriverState.off = .off) ↔ _
    rw [drivers, ignition]
    cases s.sup.battAct <;> simp
  refine (if_pos ((feedStageDue_iff stage).mpr due)).trans ?_
  show raiseIf (u.changes s.uptime) .supply { s with sup := u.settled s.uptime } = _
  rw [changes, settled]
  rfl

/-- Settles O47: each timer by whether it runs and whether it is due. -/
theorem supplyTimersRunOut : Obligations.SupplyTimersRunOut := by
  intro s law
  refine ⟨fun x start waits => ⟨fun early => ?_, fun due => congrArg Host.Outcome.next (ignitionWaitEnd_of law start waits due)⟩,
    fun no => ?_, fun x wakes => ⟨fun early => ?_, fun due => congrArg Host.Outcome.next (if_pos ((wakeDue_iff wakes).mpr due))⟩,
    fun no => ?_, fun x stage => ⟨fun early => ?_, fun due => congrArg Host.Outcome.next (feedStage_of law stage due)⟩, fun no => ?_⟩
  all_goals refine congrArg Host.Outcome.next (if_neg ?_)
  · rw [ignitionDue_iff start waits]
    omega
  · unfold State.ignitionDue
    rcases no with no | no <;> simp [no]
  · rw [wakeDue_iff wakes]
    omega
  · unfold State.wakeDue
    rcases no with no | no <;> simp [no]
  · rw [feedStageDue_iff stage]
    omega
  · unfold State.feedStageDue
    rcases no with no | no <;> simp [no]

end Sys2Proof.Machine
end

section
/-! PROOFS. The Notice Unit's requests and the rig link: O49, O51, O52, O53. -/

namespace Sys2Proof.Machine

open Sys2Proof.Safety

variable {s t : State}

/-! ### NOTICE-CONFIG (R178) -/

theorem testBit_bits (bs : List Bool) (i : Nat) : (parseEnables.bits bs).testBit i = bs.getD i false := by
  induction bs generalizing i with
  | nil => exact Nat.zero_testBit i
  | cons b bs ih =>
    unfold parseEnables.bits
    cases i with
    | zero => cases b <;> simp [Nat.testBit_zero]
    | succ i =>
      rw [Nat.testBit_succ, show ((if b then 1 else 0) + 2 * parseEnables.bits bs) / 2 = parseEnables.bits bs by split <;> omega, ih]
      rfl

theorem mapM_flag_of_le {es : List Nat} (h : ∀ e ∈ es, e ≤ 1) : es.mapM flag? = some (es.map fun e => decide (e = 1)) := by
  induction es with
  | nil => rfl
  | cons e es ih =>
    obtain ⟨he, hes⟩ := List.forall_mem_cons.mp h
    rw [List.mapM_cons, flag?_of_le he, ih hes]
    rfl

theorem mapM_flag_of_not {es : List Nat} (h : ¬ ∀ e ∈ es, e ≤ 1) : es.mapM flag? = none := by
  induction es with
  | nil => exact absurd nofun h
  | cons e es ih =>
    rw [List.mapM_cons]
    by_cases he : e ≤ 1
    · rw [ih fun rest => h (List.forall_mem_cons.mpr ⟨he, rest⟩)]
      cases flag? e <;> rfl
    · rw [flag?_eq_none (Nat.not_le.mp he)]
      rfl

theorem parseEnables_of_le {es : List Nat} (length : es.length = 8) (h : ∀ e ∈ es, e ≤ 1) :
    ∃ en, parseEnables es = some en ∧ ∀ i < 8, en.getLsbD i = decide (es[i]? = some 1) := by
  refine ⟨BitVec.ofNat 8 (parseEnables.bits (es.map fun e => decide (e = 1))), ?_, fun i hi => ?_⟩
  · unfold parseEnables
    dsimp only
    rw [mapM_flag_of_le h]
    exact if_pos (by rw [List.length_map, length])
  · rw [BitVec.getLsbD_ofNat, testBit_bits, decide_eq_true hi, Bool.true_and, List.getD_eq_getElem?_getD, List.getElem?_map]
    have inside : i < es.length := by omega
    simp [inside]

theorem reqNoticeConfig_eq {es : List Nat} {th : Nat} (length : es.length = 8) : reqNoticeConfig es th s =
    match parseEnables es with
    | some e =>
      if 1 ≤ th ∧ th ≤ 512 then ({ s with ntc := { s.ntc with enables := e, threshold := th } }, .bare .ok)
      else refuse s .badField []
    | none => refuse s .badField [] :=
  if_neg (not_not.mpr length)

/-! ### TRIGGER-ROUTE (R183) and the pulse timers (R182) -/

theorem parseRoute_eq_none {source param : Nat}
    (h : ¬ (source ≤ 7 ∧ (source = 4 → param < 72000) ∧ (source = 6 → param < 32) ∧ (source = 7 → param < 10))) :
    parseRoute source param = none := by
  have bound : source ≤ 7 → (source = 4 ∧ 72000 ≤ param) ∨ (source = 6 ∧ 32 ≤ param) ∨ (source = 7 ∧ 10 ≤ param) := by
    intro le
    by_contra all
    exact h ⟨le, by omega, by omega, by omega⟩
  unfold parseRoute
  split
  case h_5 => exact if_neg (show ¬ param < 72000 by have := bound (by omega); omega)
  case h_7 => rw [index?_eq_none (by have := bound (by omega); omega)]; rfl
  case h_8 => rw [index?_eq_none (by have := bound (by omega); omega)]; rfl
  case h_9 => rfl
  all_goals have := bound (by omega); omega

theorem reqTriggerRoute_of {line source param : Nat} {l : Fin 4} {r : Route} (hl : l.val = line) (hr : parseRoute source param = some r) :
    reqTriggerRoute line source param s = ({ s with ntc := { s.ntc with
      routes := setAt s.ntc.routes l r, timers := setAt s.ntc.timers l none } }, .bare .ok) := by
  unfold reqTriggerRoute
  rw [index?_of_eq hl, hr]

theorem pulseDue_of {l : Fin 4} {e : Nat} (h : getAt s.ntc.timers l = some e) : s.pulseDue l = decide (e < s.uptime) := by
  unfold State.pulseDue
  rw [h]
  rfl

/-- Settles O49: each request by its checks; the enables by their bits. -/
theorem noticesAndRoutesAreKept : Obligations.NoticesAndRoutesAreKept := by
  intro s
  refine ⟨fun es th length => next_badLength (r := reqNoticeConfig es th s) (if_pos length), fun es th length => ⟨fun le low high => ?_, fun bad => ?_⟩,
    ?_, fun line source param => ?_, fun l => ⟨fun e running => ⟨fun early => ?_, fun due => ?_⟩, fun idle => ?_⟩⟩
  · obtain ⟨en, parsed, bit⟩ := parseEnables_of_le length le
    refine ⟨en, bit, next_answered (r := reqNoticeConfig es th s) ?_ nofun nofun⟩
    rw [reqNoticeConfig_eq length, parsed]
    exact if_pos ⟨low, high⟩
  · refine next_answered (r := reqNoticeConfig es th s) ?_ nofun nofun
    rw [reqNoticeConfig_eq length]
    by_cases le : ∀ e ∈ es, e ≤ 1
    · obtain ⟨en, parsed, -⟩ := parseEnables_of_le length le
      rw [parsed]
      exact if_neg fun range => bad ⟨le, range⟩
    · rw [show parseEnables es = none by unfold parseEnables; dsimp only; rw [mapM_flag_of_not le]]
      rfl
  · exact next_answered (r := reqNoticeRead s) rfl nofun nofun
  · refine ⟨fun bad => ?_, fun legal l r hl route => ?_⟩
    · refine next_answered (r := reqTriggerRoute line source param s) ?_ nofun nofun
      unfold reqTriggerRoute
      by_cases hl : line < 4
      · rw [parseRoute_eq_none fun rest => bad ⟨hl, rest⟩]
        cases index? 4 line <;> rfl
      · rw [index?_eq_none (Nat.not_lt.mp hl)]
        rfl
    · refine next_answered (r := reqTriggerRoute line source param s) (reqTriggerRoute_of hl ?_) nofun nofun
      rcases route with ⟨rfl, rfl⟩ | ⟨rfl, rfl⟩ | ⟨rfl, rfl⟩ | ⟨rfl, rfl⟩ | ⟨rfl, rfl⟩ | ⟨rfl, rfl⟩ | ⟨rfl, k, hk, rfl⟩ | ⟨rfl, k, hk, rfl⟩
      case inr.inr.inr.inr.inl => exact if_pos (legal.2.2.1 rfl)
      case inr.inr.inr.inr.inr.inr.inl => exact congrArg (Option.map Route.slotActive) (index?_of_eq hk)
      case inr.inr.inr.inr.inr.inr.inr => exact congrArg (Option.map Route.captureMirror) (index?_of_eq hk)
      all_goals rfl
  all_goals refine congrArg Host.Outcome.next ?_
  · exact if_neg (by rw [pulseDue_of running, decide_eq_true_iff]; omega)
  · exact if_pos (by rw [pulseDue_of running, decide_eq_true_iff]; omega)
  · exact if_neg (by simp [State.pulseDue, idle])

/-! ### The receiver (R187, R188, R192, R193) -/

theorem receiveAddress_hunting {c : RxChar} (h : s.link.receiver = .hunting) : receiveAddress c s = huntAddress c s := by
  unfold receiveAddress
  rw [h]

theorem receiveAddress_initializing {c : RxChar} {x : Nat} (h : s.link.receiver = .initializing x) : receiveAddress c s = s := by
  unfold receiveAddress
  rw [h]

theorem receiveAddress_receiving {c : RxChar} {bc : Bool} {data : List Byte} {gap : Nat}
    (h : s.link.receiver = .receiving bc data gap) : receiveAddress c s = huntAddress c (abandonFrame s) := by
  unfold receiveAddress
  rw [h]

theorem abandonFrame_receiving {bc : Bool} {data : List Byte} {gap : Nat} (h : s.link.receiver = .receiving bc data gap) :
    abandonFrame s = countFraming (setReceiver .hunting s) := by
  unfold abandonFrame
  rw [h]

theorem abandonFrame_of_not (h : ∀ bc data gap, s.link.receiver ≠ .receiving bc data gap) : abandonFrame s = s := by
  unfold abandonFrame
  cases receiver : s.link.receiver with
  | receiving bc data gap => exact absurd receiver (h bc data gap)
  | hunting | initializing => rfl

theorem gapOver_receiving {bc : Bool} {data : List Byte} {gap : Nat} (h : s.link.receiver = .receiving bc data gap) :
    s.gapOver = true ↔ gap ≤ s.uptime := by
  unfold State.gapOver
  rw [h]
  exact decide_eq_true_iff

theorem gapTimeout_of_not (h : ∀ bc data gap, s.link.receiver ≠ .receiving bc data gap) : gapTimeout s = s := by
  unfold gapTimeout
  rw [abandonFrame_of_not h, ite_self]

theorem receiveLength_first {c : RxChar} {bc : Bool} {gap : Nat} (h : s.link.receiver = .receiving bc [] gap) :
    receiveLength c s = takeLength bc c s := by
  unfold receiveLength
  rw [h]

theorem receiveLength_other {c : RxChar} (h : ∀ bc gap, s.link.receiver ≠ .receiving bc [] gap) : receiveLength c s = s := by
  unfold receiveLength
  cases receiver : s.link.receiver with
  | receiving bc data gap =>
    cases data with
    | nil => exact absurd receiver (h bc gap)
    | cons => rfl
  | hunting | initializing => rfl

theorem initDue_iff {x : Nat} (h : s.link.receiver = .initializing x) : s.initDue = true ↔ x ≤ s.uptime := by
  unfold State.initDue
  rw [h]
  exact decide_eq_true_iff

theorem initDue_of_not (h : ∀ x, s.link.receiver ≠ .initializing x) : s.initDue = false := by
  unfold State.initDue
  cases receiver : s.link.receiver with
  | initializing x => exact absurd receiver (h x)
  | hunting | receiving => rfl

/-- Settles O51: each character by the receiver's state. -/
theorem receiverFindsItsFrames : Obligations.ReceiverFindsItsFrames := by
  intro c s b tuned mine passes begun lost
  refine ⟨fun hunting => ⟨fun m => ?_, fun m => ?_⟩, fun x init => ?_, fun bc data gap receiving => ⟨fun m => ?_, fun m => ?_, ?_,
    fun due => ?_, fun early => ?_, fun first low high => ?_, fun first bad => ?_, fun later => ?_⟩, fun none => ⟨?_, ?_, ?_⟩⟩
  all_goals refine congrArg Host.Outcome.next ?_
  · exact (receiveAddress_hunting hunting).trans (if_pos m)
  · exact (receiveAddress_hunting hunting).trans (if_neg m)
  · exact receiveAddress_initializing init
  · rw [receiveAddress_receiving receiving, abandonFrame_receiving receiving]
    exact if_pos m
  · rw [receiveAddress_receiving receiving, abandonFrame_receiving receiving]
    exact if_neg m
  · exact abandonFrame_receiving receiving
  · exact (if_pos ((gapOver_receiving receiving).mpr due)).trans (abandonFrame_receiving receiving)
  · exact if_neg (by rw [gapOver_receiving receiving]; omega)
  · subst first
    refine (receiveLength_first receiving).trans (if_neg ?_)
    show ¬ (b.toNat = 0 ∨ 250 < b.toNat)
    omega
  · subst first
    exact (receiveLength_first receiving).trans (if_pos bad)
  · refine receiveLength_other fun bc' gap' same => later ?_
    rw [receiving] at same
    cases same
    rfl
  · exact abandonFrame_of_not none
  · exact gapTimeout_of_not none
  · exact receiveLength_other fun bc gap => none bc [] gap

/-! ### A request is its command (R189) -/

/-- A parsed request is a command whose effect is its service. -/
def Serves (x : Parsed) : Prop := ∀ c, x = .request c → ∀ s, exec c s = .next (serve c s)

theorem serves_fixedForm {ws : List Nat} {p : List Byte} {f : List Nat → Instr}
    (h : ∀ v s, exec (f v) s = .next (serve (f v) s)) : Serves (fixedForm ws p f) := by
  unfold fixedForm
  split
  · rintro _ ⟨⟩
    exact h _
  · exact nofun

theorem serves_ite {p : Prop} [Decidable p] {c : Instr} (h : ∀ s, exec c s = .next (serve c s)) :
    Serves (if p then .request c else .badLength) := by
  split
  · rintro _ ⟨⟩
    exact h
  · exact nofun

theorem serves_parseRequest (kind : Byte) (p : List Byte) : Serves (parseRequest kind p) := by
  unfold parseRequest
  split
  case h_11 =>
    unfold parseCamSet
    split
    · exact serves_ite fun _ => rfl
    · exact nofun
  case h_12 =>
    unfold parseSpeedPush
    split
    · exact nofun
    · exact serves_ite fun _ => rfl
  case h_14 =>
    unfold parseTraceWrite
    split
    · exact serves_ite fun _ => rfl
    · exact nofun
  case h_36 => exact nofun
  all_goals exact serves_fixedForm fun _ _ => rfl

/-- A request in work whose formed reply is a status alone. -/
def bareReply (k st : Byte) (s : State) : State :=
  { s with link := { s.link with
      inWork := some { replyKind := k, reply := [st], resets := false, taken := s.uptime, phase := .formed } } }

theorem handFrame_request {f : Frame} {c : Instr} (asked : parseRequest f.kind f.payload = .request c) :
    exec c s = .next (handFrame f s) := by
  unfold handFrame
  rw [asked]
  exact serves_parseRequest _ _ c asked s

theorem handFrame_unknown {f : Frame} (asked : parseRequest f.kind f.payload = .unknownKind) :
    handFrame f s = bareReply 0xFF 0x10 s := by
  unfold handFrame
  rw [asked]
  simp only [respond, refuse, bareReply]
  rw [show (Status.unknownKind == Status.ok) = false from rfl, Bool.and_false]
  rfl

theorem handFrame_badLength {f : Frame} (asked : parseRequest f.kind f.payload = .badLength) :
    handFrame f s = bareReply (f.kind + 0x80) 0x11 s := by
  unfold handFrame
  rw [asked]
  simp only [respond, refuse, bareReply]
  rw [show (Status.badLength == Status.ok) = false from rfl, Bool.and_false]
  rfl

/-! ### Replies (R189, R190, R196) -/

theorem sentReply_of {w : InWork} {b : Nat} (work : s.link.inWork = some w) (sending : w.phase = .sending b)
    (due : b + w.sendTime ≤ s.uptime) : s.sentReply = some w := by
  simp [State.sentReply, work, sending, State.reached, due]

theorem sentReply_of_not {w : InWork} (work : s.link.inWork = some w)
    (h : ∀ b, w.phase = .sending b → s.uptime < b + w.sendTime) : s.sentReply = none := by
  unfold State.sentReply
  rw [work]
  dsimp only
  split
  · next b sending => exact if_neg (by rw [State.reached, decide_eq_true_iff]; exact Nat.not_le.mpr (h b sending))
  · rfl
  · rfl

theorem replyEnd_of_none (h : s.sentReply = none) : replyEnd s = s := by
  unfold replyEnd
  rw [h]

theorem replyEnd_resets {w : InWork} (h : s.sentReply = some w) (resets : w.resets = true) :
    replyEnd s = { s with link := { s.link with inWork := some { w with phase := .sent }, resetDue := some (s.uptime + 1) } } := by
  unfold replyEnd
  rw [h]
  exact if_pos resets

theorem replyEnd_free {w : InWork} (h : s.sentReply = some w) (resets : w.resets = false) : replyEnd s =
    match s.link.waiting with
    | none => setInWork none s
    | some f => handFrame f { s with link := { s.link with inWork := none, waiting := none } } := by
  unfold replyEnd
  rw [h]
  exact if_neg (Bool.eq_false_iff.mp resets)

/-- Settles O53: the reply's phase, then whether it has been sent. -/
theorem repliesAndTheirEnds : Obligations.RepliesAndTheirEnds := by
  intro s
  refine ⟨next_answered (r := reqUnitReset s) rfl nofun nofun, fun none => ⟨?_, ?_⟩, fun w work => ?_,
    fun x init => ⟨fun due => ?_, fun early => ?_⟩, fun no => ?_⟩
  · exact congrArg Host.Outcome.next (by rw [replyStart, none])
  · exact congrArg Host.Outcome.next (replyEnd_of_none (by rw [State.sentReply, none]))
  · intro sent
    have starts : replyStart s = if w.phase = .formed then setInWork (some { w with phase := .sending s.uptime }) s else s := by
      unfold replyStart
      rw [work]
    have waits (h : ∀ b, w.phase = .sending b → s.uptime < b + w.sendTime) : exec .replyEnd s = .next s :=
      congrArg Host.Outcome.next (replyEnd_of_none (sentReply_of_not work h))
    refine ⟨fun formed => ⟨waits fun b sending => ?_, congrArg Host.Outcome.next (starts.trans (if_pos formed))⟩,
      fun begun => congrArg Host.Outcome.next (starts.trans (if_neg begun)), fun done => waits fun b sending => ?_,
      fun b sending => ⟨fun early => waits fun b' sending' => ?_, fun due => ?_⟩⟩
    · rw [formed] at sending
      cases sending
    · rw [done] at sending
      cases sending
    · rw [sending] at sending'
      cases sending'
      exact early
    · have gone := sentReply_of work sending due
      refine ⟨fun resets => congrArg Host.Outcome.next (replyEnd_resets gone resets), fun resets none => congrArg Host.Outcome.next ?_,
        fun resets f c waiting asked => ?_, fun resets f waiting => ?_⟩
      · rw [replyEnd_free gone resets, none]
        rfl
      · rw [handFrame_request asked]
        refine congrArg Host.Outcome.next ?_
        rw [replyEnd_free gone resets, waiting]
      · intro formed
        have handed := replyEnd_free gone resets
        rw [waiting] at handed
        exact ⟨fun asked => congrArg Host.Outcome.next (handed.trans (handFrame_unknown asked)),
          fun asked => congrArg Host.Outcome.next (handed.trans (handFrame_badLength asked))⟩
  · exact congrArg Host.Outcome.next (if_pos ((initDue_iff init).mpr due))
  · exact congrArg Host.Outcome.next (if_neg (by rw [initDue_iff init]; omega))
  · exact congrArg Host.Outcome.next (if_neg (Bool.eq_false_iff.mp (initDue_of_not no)))

/-! ### A whole frame (R186, R188) -/

/-- With the length character taken, the characters up to the frame's end are collected and complete it. -/
theorem receiveFrame_rest {bc : Bool} {l : Byte} (chars : List RxChar) (seen : List Byte) (gap : Nat)
    (receiving : s.link.receiver = .receiving bc (l :: seen) gap) (some_left : chars ≠ [])
    (length : seen.length + chars.length = l.toNat + 2) :
    receiveFrame chars s = completeFrame bc (l :: seen ++ chars.map (·.data)) s := by
  induction chars generalizing s seen gap with
  | nil => exact absurd rfl some_left
  | cons c chars ih =>
    have taken : takeData c s = if (l :: seen ++ [c.data]).length = l.toNat + 3 then completeFrame bc (l :: seen ++ [c.data]) s
        else setReceiver (.receiving bc (l :: seen ++ [c.data]) (s.gapEnd c.follows)) s := by
      unfold takeData
      rw [receiving]
    show receiveFrame chars (takeData c s) = _
    rw [taken]
    rw [List.length_cons] at length
    cases chars with
    | nil => exact if_pos (by simp at length ⊢; omega)
    | cons d chars =>
      rw [if_neg (by simp at length ⊢; omega)]
      refine (ih (s := setReceiver _ s) (seen ++ [c.data]) _ rfl nofun (by simp at length ⊢; omega)).trans ?_
      rw [← List.cons_append, List.append_assoc]
      rfl

/-- A frame of a request up to its CRC characters. -/
def frameBody (kind : Byte) (payload : List Byte) : List Byte := BitVec.ofNat 8 (payload.length + 1) :: kind :: payload

theorem completeFrame_of {bc : Bool} {kind : Byte} {payload crc : List Byte} (two : crc.length = 2) :
    completeFrame bc (frameBody kind payload ++ crc) s = if crcBytes (frameBody kind payload) = crc then
        (if bc then takeBroadcast { kind := kind, payload := payload } (setReceiver .hunting s)
          else arrive { kind := kind, payload := payload } (setReceiver .hunting s))
      else countCrc (setReceiver .hunting s) := by
  have body_length : (frameBody kind payload ++ crc).length - 2 = (frameBody kind payload).length := by
    rw [List.length_append, two]
    omega
  unfold completeFrame
  dsimp only
  rw [body_length, List.take_left' rfl, List.drop_left' rfl]
  rfl

theorem receiveFrame_whole {bc : Bool} {kind : Byte} {payload : List Byte} {chars : List RxChar} {gap : Nat} {crc : List Byte}
    (short : payload.length ≤ 249) (receiving : s.link.receiver = .receiving bc [] gap) (two : crc.length = 2)
    (carried : chars.map (·.data) = frameBody kind payload ++ crc) :
    receiveFrame chars s = if crcBytes (frameBody kind payload) = crc then
        (if bc then takeBroadcast { kind := kind, payload := payload } (setReceiver .hunting s)
          else arrive { kind := kind, payload := payload } (setReceiver .hunting s))
      else countCrc (setReceiver .hunting s) := by
  cases chars with
  | nil => cases carried
  | cons c chars =>
    obtain ⟨(first : c.data = _), rest⟩ := List.cons.inj carried
    have value : c.data.toNat = payload.length + 1 := by
      rw [first, BitVec.toNat_ofNat]
      omega
    have count : chars.length = payload.length + 3 := by
      have := congrArg List.length rest
      simp at this
      omega
    have begun : takeData c s = setReceiver (.receiving bc [c.data] (s.gapEnd c.follows)) s := by
      unfold takeData
      rw [receiving]
      refine if_neg ?_
      show ¬ (c.data.toNat = 0 ∨ 250 < c.data.toNat)
      omega
    show receiveFrame chars (takeData c s) = _
    rw [begun, receiveFrame_rest (s := setReceiver _ s) chars [] _ rfl (by rintro rfl; cases count) (by simp; omega)]
    have whole : [c.data] ++ chars.map (·.data) = frameBody kind payload ++ crc := carried
    rw [whole, completeFrame_of two]
    rfl

theorem link_startRun (s : State) : (startRun s).link = s.link := by
  have work : (finishWork s).link = s.link := State.still_link (calm_finishWork s).still
  rw [startRun_eq]
  have begun (v : State) : (startRecords v).link = v.link := rfl
  have cleared := congrArg State.link (clearClamped_rest (startRecords (finishWork s)))
  generalize clearClamped (startRecords (finishWork s)) = v at cleared ⊢
  have same : v.link = s.link := (cleared.trans (begun _)).trans work
  split
  · unfold runStartEvent
    exact (congrArg State.link (pulseEvent_rest _ v) :).trans same
  · exact same

theorem link_reqStart (s : State) : (reqStart s).1.link = s.link := by
  unfold reqStart
  split
  · exact link_startRun s
  · rfl

theorem link_takeBroadcast (f : Frame) (s : State) : (takeBroadcast f s).link = s.link := by
  unfold takeBroadcast
  split
  case h_1 => exact link_reqStart s
  case h_2 => exact State.still_link (calm_reqHold s).still
  case h_3 => exact State.still_link (calm_reqResume s).still
  case h_4 => exact State.still_link (calm_reqEnd s).still
  case h_5 => exact State.still_link (calm_reqClear s).still
  case h_6 => exact State.still_link (calm_reqFaultArm _ s).still
  all_goals rfl

/-- A broadcast of one of the six kinds has its command's effect, without the reply (R191). -/
theorem takeBroadcast_of {f : Frame} {c : Instr} (asked : parseRequest f.kind f.payload = .request c)
    (six : c = .start ∨ c = .hold ∨ c = .resume ∨ c = .endRun ∨ c = .clear ∨ ∃ m, c = .faultArm m)
    (h : exec c s = .next t) : takeBroadcast f s = { t with link := s.link } := by
  have same := link_takeBroadcast f s
  suffices h : ∃ kind r, exec c s = .next (respond kind r) ∧ takeBroadcast f s = r.1 by
    obtain ⟨kind, r, run, broadcast⟩ := h
    cases h.symm.trans run
    rw [broadcast] at same ⊢
    rw [← same]
    rfl
  unfold takeBroadcast
  rw [asked]
  rcases six with rfl | rfl | rfl | rfl | rfl | ⟨m, rfl⟩
  · exact ⟨_, reqStart s, rfl, rfl⟩
  · exact ⟨_, reqHold s, rfl, rfl⟩
  · exact ⟨_, reqResume s, rfl, rfl⟩
  · exact ⟨_, reqEnd s, rfl, rfl⟩
  · exact ⟨_, reqClear s, rfl, rfl⟩
  · exact ⟨_, reqFaultArm m s, rfl, rfl⟩

theorem takeBroadcast_of_not {f : Frame} (h : ∀ c, parseRequest f.kind f.payload = .request c →
      c ≠ .start ∧ c ≠ .hold ∧ c ≠ .resume ∧ c ≠ .endRun ∧ c ≠ .clear ∧ ∀ m, c ≠ .faultArm m) : takeBroadcast f s = s := by
  unfold takeBroadcast
  split
  case h_1 asked => exact absurd rfl (h _ asked).1
  case h_2 asked => exact absurd rfl (h _ asked).2.1
  case h_3 asked => exact absurd rfl (h _ asked).2.2.1
  case h_4 asked => exact absurd rfl (h _ asked).2.2.2.1
  case h_5 asked => exact absurd rfl (h _ asked).2.2.2.2.1
  case h_6 asked => exact absurd rfl ((h _ asked).2.2.2.2.2 _)
  all_goals rfl

theorem arrive_idle {f : Frame} (h : s.link.inWork = none) : arrive f s = handFrame f s := by
  unfold arrive
  rw [h]

theorem arrive_waits {f : Frame} (busy : s.link.inWork.isSome = true) (h : s.link.waiting = none) :
    arrive f s = { s with link := { s.link with waiting := some f } } := by
  obtain ⟨w, work⟩ := Option.isSome_iff_exists.mp busy
  unfold arrive
  rw [work, h]

theorem arrive_overruns {f : Frame} (busy : s.link.inWork.isSome = true) (h : s.link.waiting.isSome = true) :
    arrive f s = countOverrun s := by
  obtain ⟨w, work⟩ := Option.isSome_iff_exists.mp busy
  obtain ⟨f', waits⟩ := Option.isSome_iff_exists.mp h
  unfold arrive
  rw [work, waits]

/-- Settles O52: the characters complete the frame, whose request is served as its command. -/
theorem goodFramesReachTheirBlock : Obligations.GoodFramesReachTheirBlock := by
  intro kind payload chars bc gap s short receiving body carried frame heard asked reply
  have whole {crc : List Byte} (two : crc.length = 2) (h : carried = body ++ crc) := receiveFrame_whole short receiving two h
  refine ⟨fun good => ?_, fun hi lo bad h => ?_⟩
  · have taken := whole (crc := crcBytes body) rfl good
    replace taken := taken.trans (if_pos rfl)
    let f : Frame := { kind := kind, payload := payload }
    have single (h : bc = false) : exec frame s = .next (arrive f heard) := by
      refine congrArg Host.Outcome.next (taken.trans ?_)
      rw [h]
      rfl
    have all (h : bc = true) : exec frame s = .next (takeBroadcast f heard) := by
      refine congrArg Host.Outcome.next (taken.trans ?_)
      rw [h]
      rfl
    refine ⟨fun one free => ⟨fun c request => ?_, fun unknown => ?_, fun length => ?_⟩, fun one busy free => ?_, fun one busy full => ?_,
      fun many => ⟨fun c request six t run => ?_, fun ignored => ?_⟩⟩
    · rw [single one, arrive_idle (s := heard) free]
      exact (handFrame_request (f := f) request).symm
    · rw [single one, arrive_idle (s := heard) free]
      exact congrArg Host.Outcome.next (handFrame_unknown (f := f) unknown)
    · rw [single one, arrive_idle (s := heard) free]
      exact congrArg Host.Outcome.next (handFrame_badLength (f := f) length)
    · rw [single one, arrive_waits (s := heard) busy free]
    · rw [single one, arrive_overruns (s := heard) busy full]
      rfl
    · rw [all many, takeBroadcast_of (f := f) request six run]
    · rw [all many, takeBroadcast_of_not (f := f) ignored]
  · refine congrArg Host.Outcome.next ((whole (crc := [hi, lo]) rfl h).trans (if_neg (Ne.symm bad)))

end Sys2Proof.Machine
end

section
/-! PROOFS. The checks of a fault record and FAULT-LOAD: O35. -/

namespace Sys2Proof.Machine

open Sys2Proof.Safety

variable {s t : State} {r : RawRecord} {teeth slot : Nat}

/-! ### Fields as bytes -/

theorem le_append (a b v : Nat) : le (a + b) v = le a v ++ le b (v / 256 ^ a) := by
  induction a generalizing v with
  | zero => simp [le]
  | succ a ih =>
    rw [Nat.succ_add, le, ih, le, Nat.div_div_eq_div_mul, ← Nat.pow_succ']
    rfl

/-- A field whose low bytes carry `x` and whose high bytes carry `n`. -/
theorem le_split {a b x n : Nat} (h : x < 256 ^ a) : le (a + b) (x + 256 ^ a * n) = le a x ++ le b n := by
  have low : (x + 256 ^ a * n) % 256 ^ a = x := by rw [Nat.add_mul_mod_self_left, Nat.mod_eq_of_lt h]
  have high : (x + 256 ^ a * n) / 256 ^ a = n := by
    rw [Nat.add_mul_div_left _ _ (Nat.pow_pos (by decide)), Nat.div_eq_of_lt h, Nat.zero_add]
  rw [le_append, high, ← le_mod, low]

/-- A field wider than its number ends in zeros. -/
theorem le_zeros (a b : Nat) {v : Nat} (h : v < 256 ^ a) : le (a + b) v = le a v ++ le b 0 := by
  simpa using le_split (b := b) (n := 0) h

/-! ### The action of a record (R113, R201) -/

/-- The fields of a record carry this action. -/
def ActionOf (teeth : Nat) (r : RawRecord) : Action → Prop
  | .openPin p => r.action = 0x01 ∧ r.target = p.val ∧ r.partner = 0 ∧ r.value = 0
  | .shortGnd p => r.action = 0x02 ∧ r.target = p.val ∧ r.partner = 0 ∧ r.value = 0
  | .shortSupply p => r.action = 0x03 ∧ r.target = p.val ∧ r.partner = 0 ∧ r.value = 0
  | .bridge p q => r.action = 0x04 ∧ r.target = p.val ∧ r.partner = q.val ∧ r.value = 0 ∧ p ≠ q
  | .freeze n => r.action = 0x10 ∧ r.target = 24 + n.val ∧ r.partner = 0 ∧ r.value = 0
  | .offset n d => r.action = 0x11 ∧ r.target = 24 + n.val ∧ r.partner = 0 ∧ r.value = d ∧ -(maxCode n : Int) ≤ d ∧ d ≤ maxCode n
  | .force n v => r.action = 0x12 ∧ r.target = 24 + n.val ∧ r.partner = 0 ∧ r.value = v ∧ v ≤ maxCode n
  | .toothDrop i => r.action = 0x20 ∧ r.target = 40 ∧ r.partner = 0 ∧ r.value = i ∧ i < teeth
  | .crankShift d => r.action = 0x21 ∧ r.target = 40 ∧ r.partner = 0 ∧ r.value = d ∧ -3600 ≤ d ∧ d ≤ 3600
  | .camHold c => r.action = 0x22 ∧ r.target = 41 + c.val ∧ r.partner = 0 ∧ r.value = 0
  | .camShift c d => r.action = 0x23 ∧ r.target = 41 + c.val ∧ r.partner = 0 ∧ r.value = d ∧ -3600 ≤ d ∧ d ≤ 3600
  | .battDrop => r.action = 0x30 ∧ r.target = 43 ∧ r.partner = 0 ∧ r.value = 0
  | .ignDrop => r.action = 0x31 ∧ r.target = 44 ∧ r.partner = 0 ∧ r.value = 0
  | .holdRun => r.action = 0x40 ∧ r.target = 45 ∧ r.partner = 0 ∧ r.value = 0 ∧ r.width = 0
  | .endRun => r.action = 0x41 ∧ r.target = 45 ∧ r.partner = 0 ∧ r.value = 0 ∧ r.width = 0

theorem pinOf_eq_some {v : Nat} {p : Fin 24} : pinOf v = some p ↔ v = p.val :=
  ⟨fun h => (index?_eq_some h).symm, fun h => index?_of_eq h.symm⟩

theorem chanOf_eq_some {v : Nat} {n : Fin 16} : chanOf v = some n ↔ v = 24 + n.val := by
  unfold chanOf
  split
  · exact ⟨fun h => by have := index?_eq_some h; omega, fun h => index?_of_eq (by omega)⟩
  · exact ⟨nofun, fun h => by omega⟩

theorem camOf_eq_some {v : Nat} {c : Fin 2} : camOf v = some c ↔ v = 41 + c.val := by
  unfold camOf
  split
  · exact ⟨fun h => by have := index?_eq_some h; omega, fun h => index?_of_eq (by omega)⟩
  · exact ⟨nofun, fun h => by omega⟩

theorem plain_iff : RawUnused.ok r false false = true ↔ r.partner = 0 ∧ r.value = 0 := by simp [RawUnused.ok]

theorem valued_iff : RawUnused.ok r false true = true ↔ r.partner = 0 := by simp [RawUnused.ok]

theorem offsetOk_iff {n : Fin 16} {d : Int} : offsetOk n d = true ↔ -(maxCode n : Int) ≤ d ∧ d ≤ maxCode n := by
  simp [offsetOk]

theorem shiftOk_iff {d : Int} : shiftOk d = true ↔ -3600 ≤ d ∧ d ≤ 3600 := by
  rw [shiftOk, Bool.and_eq_true, decide_eq_true_iff, decide_eq_true_iff]
  rfl

theorem parseAction_of {a : Action} (h : ActionOf teeth r a) : parseAction teeth r = some a := by
  have plain (hp : r.partner = 0) (hv : r.value = 0) : RawUnused.ok r false false = true := plain_iff.mpr ⟨hp, hv⟩
  have valued (hp : r.partner = 0) : RawUnused.ok r false true = true := valued_iff.mpr hp
  cases a with
  | openPin p | shortGnd p | shortSupply p =>
    obtain ⟨action, target, partner, value⟩ := h
    simp [parseAction, action, plain partner value, pinOf_eq_some.mpr target]
  | bridge p q =>
    obtain ⟨action, target, partner, value, distinct⟩ := h
    simp [parseAction, action, pinOf_eq_some.mpr target, pinOf_eq_some.mpr partner, value, distinct]
  | freeze n =>
    obtain ⟨action, target, partner, value⟩ := h
    simp [parseAction, action, plain partner value, chanOf_eq_some.mpr target]
  | offset n d =>
    obtain ⟨action, target, partner, value, range⟩ := h
    simp [parseAction, action, valued partner, chanOf_eq_some.mpr target, value, offsetOk_iff.mpr range]
  | force n v =>
    obtain ⟨action, target, partner, value, range⟩ := h
    simp [parseAction, action, valued partner, chanOf_eq_some.mpr target, value, range]
  | toothDrop i =>
    obtain ⟨action, target, partner, value, range⟩ := h
    simp [parseAction, action, valued partner, target, value, range]
  | crankShift d =>
    obtain ⟨action, target, partner, value, range⟩ := h
    simp [parseAction, action, valued partner, target, value, shiftOk_iff.mpr range]
  | camHold c =>
    obtain ⟨action, target, partner, value⟩ := h
    simp [parseAction, action, plain partner value, camOf_eq_some.mpr target]
  | camShift c d =>
    obtain ⟨action, target, partner, value, range⟩ := h
    simp [parseAction, action, valued partner, camOf_eq_some.mpr target, value, shiftOk_iff.mpr range]
  | battDrop | ignDrop =>
    obtain ⟨action, target, partner, value⟩ := h
    simp [parseAction, action, plain partner value, target]
  | holdRun | endRun =>
    obtain ⟨action, target, partner, value, width⟩ := h
    simp [parseAction, action, plain partner value, target, width]

theorem actionOf_parseAction {a : Action} (h : parseAction teeth r = some a) : ActionOf teeth r a := by
  unfold parseAction at h
  dsimp only at h
  split at h
  case h_1 action | h_2 action | h_3 action =>
    simp only [Option.ite_none_right_eq_some, plain_iff, Option.map_eq_some_iff, pinOf_eq_some] at h
    obtain ⟨⟨partner, value⟩, p, target, rfl⟩ := h
    exact ⟨action, target, partner, value⟩
  case h_4 action =>
    split at h
    · next p q target partner =>
      simp only [Option.ite_none_right_eq_some, Option.some.injEq] at h
      obtain ⟨⟨distinct, value⟩, rfl⟩ := h
      exact ⟨action, pinOf_eq_some.mp target, pinOf_eq_some.mp partner, value, distinct⟩
    · cases h
  case h_5 action =>
    simp only [Option.ite_none_right_eq_some, plain_iff, Option.map_eq_some_iff, chanOf_eq_some] at h
    obtain ⟨⟨partner, value⟩, n, target, rfl⟩ := h
    exact ⟨action, target, partner, value⟩
  case h_6 action =>
    simp only [Option.bind_eq_some_iff, chanOf_eq_some, Option.ite_none_right_eq_some, Bool.and_eq_true, valued_iff, offsetOk_iff,
      Option.some.injEq] at h
    obtain ⟨n, target, ⟨partner, range⟩, rfl⟩ := h
    exact ⟨action, target, partner, rfl, range⟩
  case h_7 action =>
    simp only [Option.bind_eq_some_iff, chanOf_eq_some, Option.ite_none_right_eq_some, Bool.and_eq_true, valued_iff,
      decide_eq_true_eq, Option.some.injEq] at h
    obtain ⟨n, target, ⟨⟨partner, low⟩, high⟩, rfl⟩ := h
    exact ⟨action, target, partner, (Int.toNat_of_nonneg low).symm, by omega⟩
  case h_8 action =>
    simp only [Option.ite_none_right_eq_some, valued_iff, Option.some.injEq] at h
    obtain ⟨⟨target, partner, low, high⟩, rfl⟩ := h
    exact ⟨action, target, partner, (Int.toNat_of_nonneg low).symm, by omega⟩
  case h_9 action =>
    simp only [Option.ite_none_right_eq_some, valued_iff, shiftOk_iff, Option.some.injEq] at h
    obtain ⟨⟨target, partner, range⟩, rfl⟩ := h
    exact ⟨action, target, partner, rfl, range⟩
  case h_10 action =>
    simp only [Option.ite_none_right_eq_some, plain_iff, Option.map_eq_some_iff, camOf_eq_some] at h
    obtain ⟨⟨partner, value⟩, c, target, rfl⟩ := h
    exact ⟨action, target, partner, value⟩
  case h_11 action =>
    simp only [Option.bind_eq_some_iff, camOf_eq_some, Option.ite_none_right_eq_some, Bool.and_eq_true, valued_iff, shiftOk_iff,
      Option.some.injEq] at h
    obtain ⟨c, target, ⟨partner, range⟩, rfl⟩ := h
    exact ⟨action, target, partner, rfl, range⟩
  case h_12 action | h_13 action =>
    simp only [Option.ite_none_right_eq_some, plain_iff, Option.some.injEq] at h
    obtain ⟨⟨⟨partner, value⟩, target⟩, rfl⟩ := h
    exact ⟨action, target, partner, value⟩
  case h_14 action | h_15 action =>
    simp only [Option.ite_none_right_eq_some, plain_iff, Option.some.injEq] at h
    obtain ⟨⟨⟨partner, value⟩, target, width⟩, rfl⟩ := h
    exact ⟨action, target, partner, value, width⟩
  case h_16 => cases h

theorem ActionOf.bytes {a : Action} (h : ActionOf teeth r a) :
    a.bytes = le 1 r.action ++ le 1 r.target ++ le 1 r.partner ++ leInt 4 r.value := by
  cases a with
  | openPin | shortGnd | shortSupply | freeze | camHold | battDrop | ignDrop =>
    obtain ⟨action, target, partner, value⟩ := h
    rw [action, target, partner, value]
    rfl
  | bridge | offset | force | toothDrop | crankShift | camShift | holdRun | endRun =>
    obtain ⟨action, target, partner, value, -⟩ := h
    rw [action, target, partner, value]
    rfl

theorem maxCode_of_target {n : Fin 16} (h : r.target = 24 + n.val) : (if r.target < 36 then 4095 else 65535 : Int) = maxCode n := by
  unfold maxCode
  rw [h]
  split <;> split <;> omega

theorem exists_pin {v : Nat} (h : v < 24) : ∃ p : Fin 24, v = p.val := ⟨⟨v, h⟩, rfl⟩

theorem exists_chan {v : Nat} (low : 24 ≤ v) (high : v < 40) : ∃ n : Fin 16, v = 24 + n.val :=
  ⟨⟨v - 24, by omega⟩, (Nat.add_sub_cancel' low).symm⟩

theorem exists_cam {v : Nat} (h : v = 41 ∨ v = 42) : ∃ c : Fin 2, v = 41 + c.val :=
  ⟨⟨v - 41, by omega⟩, (Nat.add_sub_cancel' (by omega)).symm⟩

theorem exists_action_of_legal (h : ActionLegal teeth r) : ∃ a, ActionOf teeth r a := by
  rcases h with ⟨action, target, partner, value⟩ | ⟨action, target, partner, distinct, value⟩
    | ⟨action, ⟨low, high, partner⟩, value⟩ | ⟨action, ⟨low, high, partner⟩, range⟩ | ⟨action, ⟨low, high, partner⟩, range⟩
    | ⟨action, target, partner, range⟩ | ⟨action, target, partner, range⟩ | ⟨action, target, partner, value⟩
    | ⟨action, target, partner, range⟩ | ⟨action, target, partner, value⟩ | ⟨action, target, partner, value⟩
    | ⟨action, target, ⟨partner, value⟩, width⟩
  · obtain ⟨p, target⟩ := exists_pin target
    rcases action with action | action | action
    · exact ⟨.openPin p, action, target, partner, value⟩
    · exact ⟨.shortGnd p, action, target, partner, value⟩
    · exact ⟨.shortSupply p, action, target, partner, value⟩
  · obtain ⟨p, target⟩ := exists_pin target
    obtain ⟨q, partner⟩ := exists_pin partner
    refine ⟨.bridge p q, action, target, partner, value, ?_⟩
    rintro rfl
    exact distinct (partner.trans target.symm)
  · obtain ⟨n, target⟩ := exists_chan low high
    exact ⟨.freeze n, action, target, partner, value⟩
  · obtain ⟨n, target⟩ := exists_chan low high
    rw [maxCode_of_target target] at range
    exact ⟨.offset n r.value, action, target, partner, rfl, range⟩
  · obtain ⟨n, target⟩ := exists_chan low high
    rw [maxCode_of_target target] at range
    exact ⟨.force n r.value.toNat, action, target, partner, by omega, by omega⟩
  · exact ⟨.toothDrop r.value.toNat, action, target, partner, by omega, by omega⟩
  · exact ⟨.crankShift r.value, action, target, partner, rfl, range⟩
  · obtain ⟨c, target⟩ := exists_cam target
    exact ⟨.camHold c, action, target, partner, value⟩
  · obtain ⟨c, target⟩ := exists_cam target
    exact ⟨.camShift c r.value, action, target, partner, rfl, range⟩
  · exact ⟨.battDrop, action, target, partner, value⟩
  · exact ⟨.ignDrop, action, target, partner, value⟩
  · rcases action with action | action
    · exact ⟨.holdRun, action, target, partner, value, width⟩
    · exact ⟨.endRun, action, target, partner, value, width⟩

/-- An action's number, as R201 gives it. -/
def Action.number : Action → Nat
  | .openPin _ => 0x01
  | .shortGnd _ => 0x02
  | .shortSupply _ => 0x03
  | .bridge _ _ => 0x04
  | .freeze _ => 0x10
  | .offset _ _ => 0x11
  | .force _ _ => 0x12
  | .toothDrop _ => 0x20
  | .crankShift _ => 0x21
  | .camHold _ => 0x22
  | .camShift _ _ => 0x23
  | .battDrop => 0x30
  | .ignDrop => 0x31
  | .holdRun => 0x40
  | .endRun => 0x41

theorem ActionOf.number {a : Action} (h : ActionOf teeth r a) : r.action = a.number := by cases a <;> exact h.1

theorem ActionOf.legal {a : Action} (h : ActionOf teeth r a) : ActionLegal teeth r := by
  have number := h.number
  unfold ActionLegal
  cases a with
  | openPin p | shortGnd p | shortSupply p =>
    obtain ⟨-, target, partner, value⟩ := h
    simp [number, Action.number, target, partner, value]
  | bridge p q =>
    obtain ⟨-, target, partner, value, distinct⟩ := h
    simp [number, Action.number, target, partner, value, Fin.val_inj, Ne.symm distinct]
  | freeze n =>
    obtain ⟨-, target, partner, value⟩ := h
    have := n.isLt
    simp [number, Action.number, target, partner, value]
    omega
  | offset n d =>
    obtain ⟨-, target, partner, rfl, range⟩ := h
    rw [maxCode_of_target target]
    have := n.isLt
    simp [number, Action.number, target, partner, range]
    omega
  | force n v =>
    obtain ⟨-, target, partner, value, range⟩ := h
    rw [maxCode_of_target target]
    have := n.isLt
    simp [number, Action.number, target, partner, value, range]
    omega
  | toothDrop i =>
    obtain ⟨-, target, partner, value, range⟩ := h
    simp [number, Action.number, target, partner, value, range]
  | crankShift d =>
    obtain ⟨-, target, partner, rfl, range⟩ := h
    simp [number, Action.number, target, partner, range]
  | camHold c =>
    obtain ⟨-, target, partner, value⟩ := h
    have := c.isLt
    simp [number, Action.number, target, partner, value]
    omega
  | camShift c d =>
    obtain ⟨-, target, partner, rfl, range⟩ := h
    have := c.isLt
    simp [number, Action.number, target, partner, range]
    omega
  | battDrop | ignDrop =>
    obtain ⟨-, target, partner, value⟩ := h
    simp [number, Action.number, target, partner, value]
  | holdRun | endRun =>
    obtain ⟨-, target, partner, value, width⟩ := h
    simp [number, Action.number, target, partner, value, width]

/-! ### The trigger of a record (R112, R201) -/

/-- Parameters of a trigger of slot `slot` (bytes 8 to 13). -/
def TriggerOf (slot : Nat) (r : RawRecord) : Trigger → Prop
  | .atStart => r.trigger = 0 ∧ r.params = 0
  | .angle x (some n) => r.trigger = 1 ∧ r.params = x + 256 ^ 3 * n ∧ x < 72000 ∧ n < 65536
  | .angle x none => r.trigger = 1 ∧ r.params = x + 256 ^ 3 * 65536 ∧ x < 72000
  | .capture i e m => r.trigger = 2 ∧ r.params = i.val + 256 * (e.code.toNat + 256 * m) ∧ 1 ≤ m ∧ m < 256
  | .line i e => r.trigger = 3 ∧ r.params = i.val + 256 * e.code.toNat
  | .time v => r.trigger = 4 ∧ r.params = v ∧ v < 2 ^ 40
  | .afterSlot j => r.trigger = 5 ∧ r.params = j.val ∧ j.val ≠ slot

theorem EdgeSel.ofCode_code (e : EdgeSel) : EdgeSel.ofCode e.code.toNat = some e := by cases e <;> rfl

theorem EdgeSel.code_le (e : EdgeSel) : e.code.toNat ≤ 2 := by cases e <;> decide

theorem EdgeSel.code_of_ofCode {v : Nat} {e : EdgeSel} (h : EdgeSel.ofCode v = some e) : v = e.code.toNat := by
  unfold EdgeSel.ofCode at h
  split at h <;> cases h <;> rfl

theorem flag_eq_some {v : Nat} {b : Bool} (h : flag? v = some b) : v = if b then 1 else 0 := by
  unfold flag? at h
  split at h <;> cases h <;> rfl

theorem parseTrigger_of {x : Trigger} (h : TriggerOf slot r x) : parseTrigger slot r.trigger r.params = some x := by
  cases x with
  | atStart =>
    obtain ⟨kind, params⟩ := h
    rw [kind, params]
    rfl
  | angle x n =>
    cases n with
    | some n =>
      obtain ⟨kind, params, angle, cycle⟩ := h
      have h1 : r.params % 2 ^ 24 = x := by omega
      have h2 : r.params / 2 ^ 24 % 2 ^ 16 = n := by omega
      have h3 : r.params / 2 ^ 40 = 0 := by omega
      simp only [parseTrigger, kind, h1, h2, h3]
      rw [if_pos (show x < Config.cycleAngle from angle)]
      rfl
    | none =>
      obtain ⟨kind, params, angle⟩ := h
      have h1 : r.params % 2 ^ 24 = x := by omega
      have h2 : r.params / 2 ^ 24 % 2 ^ 16 = 0 := by omega
      have h3 : r.params / 2 ^ 40 = 1 := by omega
      simp only [parseTrigger, kind, h1, h2, h3]
      rw [if_pos (show x < Config.cycleAngle from angle)]
      rfl
  | capture i e m =>
    obtain ⟨kind, params, low, high⟩ := h
    have := i.isLt
    have := e.code_le
    have h1 : r.params % 256 = i.val := by omega
    have h2 : r.params / 256 % 256 = e.code.toNat := by omega
    have h3 : r.params / 2 ^ 16 % 256 = m := by omega
    have h4 : r.params / 2 ^ 24 = 0 := by omega
    simp only [parseTrigger, kind, h1, h2, h3, h4, index?_val, EdgeSel.ofCode_code]
    exact if_pos ⟨low, trivial⟩
  | line i e =>
    obtain ⟨kind, params⟩ := h
    have := i.isLt
    have := e.code_le
    have h1 : r.params % 256 = i.val := by omega
    have h2 : r.params / 256 % 256 = e.code.toNat := by omega
    have h3 : r.params / 2 ^ 16 = 0 := by omega
    simp only [parseTrigger, kind, h1, h2, h3, index?_val, EdgeSel.ofCode_code]
    rfl
  | time v =>
    obtain ⟨kind, rfl, range⟩ := h
    simp only [parseTrigger, kind]
    exact if_pos range
  | afterSlot j =>
    obtain ⟨kind, params, other⟩ := h
    simp only [parseTrigger, kind, params, index?_val]
    exact if_pos other

theorem triggerOf_parseTrigger {x : Trigger} (h : parseTrigger slot r.trigger r.params = some x) : TriggerOf slot r x := by
  generalize kind : r.trigger = k at h
  unfold parseTrigger at h
  dsimp only at h
  split at h
  case h_1 =>
    simp only [Option.ite_none_right_eq_some, Option.some.injEq] at h
    obtain ⟨params, rfl⟩ := h
    exact ⟨kind, params⟩
  case h_2 =>
    split at h
    · next angle =>
      have angle : r.params % 2 ^ 24 < 72000 := angle
      split at h
      · next flag =>
        simp only [Option.ite_none_right_eq_some, Option.some.injEq] at h
        obtain ⟨cycle, rfl⟩ := h
        have flag : r.params / 2 ^ 40 = 1 := flag_eq_some flag
        exact ⟨kind, by omega, angle⟩
      · next flag =>
        cases h
        have flag : r.params / 2 ^ 40 = 0 := flag_eq_some flag
        exact ⟨kind, by omega, angle, by omega⟩
      · cases h
    · cases h
  case h_3 =>
    split at h
    · next i e input edge =>
      simp only [Option.ite_none_right_eq_some, Option.some.injEq] at h
      obtain ⟨⟨low, top⟩, rfl⟩ := h
      have input := index?_eq_some input
      have edge := EdgeSel.code_of_ofCode edge
      exact ⟨kind, by omega, low, by omega⟩
    · cases h
  case h_4 =>
    split at h
    · next i e input edge =>
      simp only [Option.ite_none_right_eq_some, Option.some.injEq] at h
      obtain ⟨top, rfl⟩ := h
      have input := index?_eq_some input
      have edge := EdgeSel.code_of_ofCode edge
      exact ⟨kind, by omega⟩
    · cases h
  case h_5 =>
    simp only [Option.ite_none_right_eq_some, Option.some.injEq] at h
    obtain ⟨range, rfl⟩ := h
    exact ⟨kind, rfl, range⟩
  case h_6 =>
    split at h
    · next j index =>
      simp only [Option.ite_none_right_eq_some, Option.some.injEq] at h
      obtain ⟨other, rfl⟩ := h
      exact ⟨kind, (index?_eq_some index).symm, other⟩
    · cases h
  case h_7 => cases h

theorem TriggerOf.bytes {x : Trigger} (h : TriggerOf slot r x) : x.bytes = le 1 r.trigger ++ le 6 r.params := by
  cases x with
  | atStart =>
    obtain ⟨kind, params⟩ := h
    rw [kind, params]
    rfl
  | angle x n =>
    cases n with
    | some n =>
      obtain ⟨kind, params, angle, cycle⟩ := h
      have tail : le 3 n = le 2 n ++ [0] := le_zeros 2 1 cycle
      rw [kind, params, show le 6 (x + 256 ^ 3 * n) = le 3 x ++ le 3 n from le_split (a := 3) (b := 3) (by omega), tail, ← List.append_assoc]
      rfl
    | none =>
      obtain ⟨kind, params, angle⟩ := h
      rw [kind, params, show le 6 (x + 256 ^ 3 * 65536) = le 3 x ++ le 3 65536 from le_split (a := 3) (b := 3) (by omega)]
      rfl
  | capture i e m =>
    obtain ⟨kind, params, low, high⟩ := h
    have input := i.isLt
    have edge := e.code_le
    have first : le 6 (i.val + 256 * (e.code.toNat + 256 * m)) = le 1 i.val ++ le 5 (e.code.toNat + 256 * m) :=
      le_split (a := 1) (b := 5) (by omega)
    have second : le 5 (e.code.toNat + 256 * m) = le 1 e.code.toNat ++ le 4 m := le_split (a := 1) (b := 4) (by omega)
    have third : le 4 m = le 1 m ++ le 3 0 := le_zeros 1 3 high
    rw [kind, params, first, second, third]
    cases e <;> rfl
  | line i e =>
    obtain ⟨kind, params⟩ := h
    have input := i.isLt
    have first : le 6 (i.val + 256 * e.code.toNat) = le 1 i.val ++ le 5 e.code.toNat := le_split (a := 1) (b := 5) (by omega)
    rw [kind, params, first]
    cases e <;> rfl
  | time v =>
    obtain ⟨kind, params, range⟩ := h
    have tail : le 6 v = le 5 v ++ [0] := le_zeros 5 1 range
    rw [kind, params, tail]
    rfl
  | afterSlot j =>
    obtain ⟨kind, params, -⟩ := h
    have index := j.isLt
    have tail : le 6 j.val = le 1 j.val ++ le 5 0 := le_zeros 1 5 (show j.val < 256 ^ 1 by omega)
    rw [kind, params, tail]
    rfl

theorem exists_trigger_of_legal (h : TriggerLegal slot r) : ∃ x, TriggerOf slot r x := by
  unfold TriggerLegal paramByte at h
  rcases h with ⟨kind, params⟩ | ⟨kind, angle, any⟩ | ⟨kind, input, edge, low, top⟩ | ⟨kind, input, edge, top⟩ | ⟨kind, range⟩
    | ⟨kind, range, other⟩
  · exact ⟨.atStart, kind, params⟩
  · rcases any with flag | ⟨flag, cycle⟩
    · exact ⟨.angle (r.params % 256 ^ 3) (some (r.params / 256 ^ 3)), kind, by omega, angle, by omega⟩
    · exact ⟨.angle (r.params % 256 ^ 3) none, kind, by omega, angle⟩
  · obtain ⟨i, input⟩ : ∃ i : Fin 8, r.params / 256 ^ 0 % 256 = i.val := ⟨⟨_, input⟩, rfl⟩
    have code := EdgeSel.code_of_ofCode (EdgeSel.ofCode_of_le edge)
    exact ⟨.capture i (edgeOf (r.params / 256 ^ 1 % 256)) (r.params / 256 ^ 2 % 256), kind, by omega, low, by omega⟩
  · obtain ⟨i, input⟩ : ∃ i : Fin 2, r.params / 256 ^ 0 % 256 = i.val := ⟨⟨_, input⟩, rfl⟩
    have code := EdgeSel.code_of_ofCode (EdgeSel.ofCode_of_le edge)
    exact ⟨.line i (edgeOf (r.params / 256 ^ 1 % 256)), kind, by omega⟩
  · exact ⟨.time r.params, kind, rfl, range⟩
  · exact ⟨.afterSlot ⟨r.params, range⟩, kind, rfl, other⟩

theorem TriggerOf.legal {x : Trigger} (h : TriggerOf slot r x) : TriggerLegal slot r := by
  unfold TriggerLegal paramByte
  cases x with
  | atStart => exact .inl h
  | angle x n =>
    refine .inr (.inl ?_)
    cases n with
    | some n =>
      obtain ⟨kind, params, angle, cycle⟩ := h
      exact ⟨kind, by omega, .inl (by omega)⟩
    | none =>
      obtain ⟨kind, params, angle⟩ := h
      exact ⟨kind, by omega, .inr ⟨by omega, by omega⟩⟩
  | capture i e m =>
    obtain ⟨kind, params, low, high⟩ := h
    have := i.isLt
    have := e.code_le
    exact .inr (.inr (.inl ⟨kind, by omega, by omega, by omega, by dsimp only; omega⟩))
  | line i e =>
    obtain ⟨kind, params⟩ := h
    have := i.isLt
    have := e.code_le
    exact .inr (.inr (.inr (.inl ⟨kind, by omega, by omega, by dsimp only; omega⟩)))
  | time v =>
    obtain ⟨kind, rfl, range⟩ := h
    exact .inr (.inr (.inr (.inr (.inl ⟨kind, range⟩))))
  | afterSlot j =>
    obtain ⟨kind, params, other⟩ := h
    have := j.isLt
    exact .inr (.inr (.inr (.inr (.inr ⟨kind, by omega, by omega⟩))))

/-! ### The edge-aligned flag (R113) -/

theorem alignable_iff {x : PinSource} : x.alignable = true ↔
    x = .line .crank ∨ (∃ c, x = .line (.cam c)) ∨ ∃ n : Fin 16, 12 ≤ n.val ∧ x = .line (.channel n) := by
  rcases x with (_ | c | n) | i | _ <;> simp [PinSource.alignable]

theorem alignedOk_iff {a : Action} {m : Vector PinSource 24} (h : ActionOf teeth r a) : alignedOk m a true = true ↔
    (r.action = 0x01 ∨ r.action = 0x02) ∧ ∀ p : Fin 24, p.val = r.target →
      (getAt m p = .line .crank ∨ (∃ c, getAt m p = .line (.cam c)) ∨ ∃ n : Fin 16, 12 ≤ n.val ∧ getAt m p = .line (.channel n)) := by
  have number := h.number
  cases a with
  | openPin p | shortGnd p =>
    have at_pin (q : Fin 24) : q.val = r.target ↔ q = p := by rw [h.2.1, Fin.val_inj]
    simp only [alignedOk, if_true, alignable_iff, at_pin, forall_eq, number, Action.number]
    simp
  | _ => simp [alignedOk, number, Action.number]

/-! ### The whole record -/

theorem parseRecord_of_legal (h : RecordLegal s slot r) : ∃ rec, s.parseRecord slot r = some rec ∧ rec.bytes = recordBytes r := by
  obtain ⟨-, action, trigger, aligned, measure, delay, width, rep⟩ := h
  obtain ⟨a, action⟩ := exists_action_of_legal action
  obtain ⟨x, trigger⟩ := exists_trigger_of_legal trigger
  obtain ⟨m, parsed_measure, measure_byte⟩ : ∃ m, Measure.ofCode r.measure = some m ∧ [m.code] = le 1 r.measure := by
    obtain h | h : r.measure = 0 ∨ r.measure = 1 := by omega
    · exact ⟨.time, by rw [h]; rfl, by rw [h]; rfl⟩
    · exact ⟨.angle, by rw [h]; rfl, by rw [h]; rfl⟩
  obtain ⟨b, parsed_flag, flag_byte, suits⟩ : ∃ b, flag? r.flags = some b ∧ [flagByte b] = le 1 r.flags
      ∧ alignedOk s.pins.map a b = true := by
    rcases aligned with h | ⟨h, suits⟩
    · exact ⟨false, by rw [h]; rfl, by rw [h]; rfl, rfl⟩
    · exact ⟨true, by rw [h]; rfl, by rw [h]; rfl, (alignedOk_iff action).mpr suits⟩
  refine ⟨{ action := a, trigger := x, measure := m, delay := r.delay, width := r.width, rep := r.rep, aligned := b }, ?_, ?_⟩
  · unfold State.parseRecord
    rw [parseAction_of action, parseTrigger_of trigger, parsed_measure, parsed_flag]
    exact if_pos ⟨delay, width, rep, suits⟩
  · unfold FaultRecord.bytes recordBytes
    dsimp only
    rw [action.bytes, trigger.bytes, measure_byte, flag_byte]
    simp only [List.append_assoc]

theorem legal_of_parseRecord {rec : FaultRecord} (fits : slot < 32) (h : s.parseRecord slot r = some rec) : RecordLegal s slot r := by
  unfold State.parseRecord at h
  split at h
  · next a x m b action trigger measure flag =>
    simp only [Option.ite_none_right_eq_some] at h
    obtain ⟨⟨delay, width, rep, suits⟩, -⟩ := h
    have action := actionOf_parseAction action
    refine ⟨fits, action.legal, (triggerOf_parseTrigger trigger).legal, ?_, ?_, delay, width, rep⟩
    · cases b with
      | false => exact .inl (flag_eq_some flag)
      | true => exact .inr ⟨flag_eq_some flag, (alignedOk_iff action).mp suits⟩
    · unfold Measure.ofCode at measure
      split at measure
      · omega
      · omega
      · cases measure
  · cases h

theorem idle_iff {st : SlotState} : st.idle = true ↔ st = .empty ∨ st = .loaded ∨ st = .done := by
  cases st <;> simp [SlotState.idle]

/-- Settles O35: the parser accepts exactly the legal records, and gives back their bytes. -/
theorem faultLoadStoresOrStages : Obligations.FaultLoadStoresOrStages := by
  intro slot r s
  refine ⟨fun legal k hk => ?_, fun bad => ?_⟩
  · obtain ⟨rec, parsed, bytes⟩ := parseRecord_of_legal legal
    refine ⟨rec, bytes, fun idle => ?_, fun empty loaded done => ?_⟩
    all_goals
      refine next_answered (r := reqFaultLoad slot r s) ?_ nofun nofun
      unfold reqFaultLoad
      rw [index?_of_eq hk, parsed]
    · exact if_pos (idle_iff.mpr idle)
    · exact if_neg fun h => (idle_iff.mp h).elim empty (Or.elim · loaded done)
  · refine next_answered (r := reqFaultLoad slot r s) ?_ nofun nofun
    unfold reqFaultLoad
    by_cases fits : slot < 32
    · cases parsed : s.parseRecord slot r with
      | none => cases index? 32 slot <;> rfl
      | some rec => exact absurd (legal_of_parseRecord fits parsed) bad
    · rw [index?_eq_none (Nat.not_lt.mp fits)]
      rfl

end Sys2Proof.Machine
end

section
/-! PROOFS. The run clock over every command, and the resets: O17, O54, O55. -/

namespace Sys2Proof.Machine

open Sys2Proof.Safety

variable {s t u : State}

/-! ### The run clock (R24) -/

/-- What a command other than a start, a reset and a run microsecond leaves: the run clock; and, within a frame, the
receiver. -/
def State.tape (s : State) : Nat × Receiver := (s.run.clock, s.link.receiver)

theorem Calm.tape (h : Calm s t) : t.tape = s.tape := Prod.ext h.clock (congrArg Link.receiver (State.still_link h.still))

/-- The receiver stays, and the run clock stays or, outside a run, is set to 0. -/
structure Attends (s t : State) : Prop where
  receiver : t.link.receiver = s.link.receiver
  clock : t.run.clock = s.run.clock ∨ (t.run.clock = 0 ∧ s.inRun = false)

theorem attends_of_tape (h : t.tape = s.tape) : Attends s t := ⟨congrArg Prod.snd h, .inl (congrArg Prod.fst h)⟩

theorem clock_startRun (s : State) : (startRun s).run.clock = 0 := by
  rw [startRun_eq]
  have begun (v : State) : (startRecords v).run.clock = 0 := rfl
  have cleared := congrArg (fun v : State => v.run.clock) (clearClamped_rest (startRecords (finishWork s)))
  generalize clearClamped (startRecords (finishWork s)) = v at cleared ⊢
  have zero : v.run.clock = 0 := cleared.trans (begun _)
  split
  · unfold runStartEvent
    exact (congrArg (fun v : State => v.run.clock) (pulseEvent_rest _ v) :).trans zero
  · exact zero

theorem attends_reqStart (s : State) : Attends s (reqStart s).1 := by
  refine ⟨congrArg Link.receiver (link_reqStart s), ?_⟩
  unfold reqStart
  split
  · next ok =>
    refine .inr ⟨?_, inRun_of_between (betweenRuns_iff.mp ok)⟩
    exact clock_startRun s
  · exact .inl rfl

theorem tape_configInput (k : Option (Fin 10)) (c : RawInputConfig) (s : State) : (configInput k c s).1.tape = s.tape := by
  unfold configInput
  split
  · split <;> rfl
  · rfl

theorem tape_reqSpeedFlush (f : Nat) (s : State) : (reqSpeedFlush f s).1.tape = s.tape := by
  unfold reqSpeedFlush
  split
  · rfl
  · dsimp only
    split
    · exact (calm_profileEmptied _).tape
    · rfl

theorem attends_serve (c : Instr) (s : State) : Attends s (serve c s) := by
  cases c with
  | start => exact ⟨(attends_reqStart s).receiver, (attends_reqStart s).clock⟩
  | hold => exact attends_of_tape (calm_reqHold s).tape
  | resume => exact attends_of_tape (calm_reqResume s).tape
  | endRun => exact attends_of_tape (calm_reqEnd s).tape
  | clear => exact attends_of_tape (calm_reqClear s).tape
  | status f => exact attends_of_tape (by unfold serve respond reqStatus; dsimp only; split <;> rfl)
  | runConfig c => exact attends_of_tape (by unfold serve respond reqRunConfig; dsimp only; split <;> [split; skip] <;> rfl)
  | wheelSet w => exact attends_of_tape (by unfold serve respond reqWheelSet; dsimp only; split <;> [split; skip] <;> rfl)
  | camSet c n es => exact attends_of_tape (by unfold serve respond reqCamSet; dsimp only; split <;> [skip; (split <;> [split; skip])] <;> rfl)
  | speedPush n ps => exact attends_of_tape (by unfold serve respond reqSpeedPush; dsimp only; split <;> [skip; (split <;> [skip; split])] <;> rfl)
  | speedFlush f => exact attends_of_tape (tape_reqSpeedFlush f s)
  | traceWrite a n xs => exact attends_of_tape (by unfold serve respond reqTraceWrite; dsimp only; split <;> [skip; split] <;> rfl)
  | traceRead a n => exact attends_of_tape (by unfold serve respond reqTraceRead; dsimp only; split <;> rfl)
  | channelConfig c => exact attends_of_tape (by unfold serve respond reqChannelConfig; dsimp only; split <;> [split; skip] <;> rfl)
  | windowSet w => exact attends_of_tape (by unfold serve respond reqWindowSet; dsimp only; split <;> [split; skip] <;> rfl)
  | segmentPush g => exact attends_of_tape (by unfold serve respond reqSegmentPush; dsimp only; split <;> [skip; (split <;> [skip; split])] <;> rfl)
  | segmentFlush n f => exact attends_of_tape (calm_reqSegmentFlush n f s).tape
  | channelRead n => exact attends_of_tape (by unfold serve respond reqChannelRead; dsimp only; split <;> rfl)
  | channelSet n v => exact attends_of_tape (by unfold serve respond reqChannelSet; dsimp only; split <;> [split; skip] <;> rfl)
  | captureConfig c | lineConfig c => exact attends_of_tape (tape_configInput _ c s)
  | captureRead n => exact attends_of_tape (by unfold serve respond reqCaptureRead; dsimp only; split <;> rfl)
  | pinMap cs => exact attends_of_tape (by unfold serve respond reqPinMap; dsimp only; split <;> [skip; (split <;> [skip; (split <;> [skip; split])])] <;> rfl)
  | faultLoad k r => exact attends_of_tape (calm_reqFaultLoad k r s).tape
  | faultArm m => exact attends_of_tape (calm_reqFaultArm m s).tape
  | faultCancel m => exact attends_of_tape (calm_reqFaultCancel m s).tape
  | faultQuery k => exact attends_of_tape (by unfold serve respond reqFaultQuery; dsimp only; split <;> rfl)
  | supplyConfig m => exact attends_of_tape (by unfold serve respond reqSupplyConfig; dsimp only; split <;> rfl)
  | supplySet b i d => exact attends_of_tape (calm_reqSupplySet b i d s).tape
  | noticeConfig es t => exact attends_of_tape (by unfold serve respond reqNoticeConfig; dsimp only; split <;> [skip; (split <;> [split; skip])] <;> rfl)
  | triggerRoute l src p => exact attends_of_tape (by unfold serve respond reqTriggerRoute; dsimp only; split <;> rfl)
  | _ => exact attends_of_tape rfl

theorem attends_handFrame (f : Frame) (s : State) : Attends s (handFrame f s) := by
  unfold handFrame
  split
  · exact attends_of_tape rfl
  · exact attends_of_tape rfl
  · exact attends_serve _ s

theorem attends_takeBroadcast (f : Frame) (s : State) : Attends s (takeBroadcast f s) := by
  unfold takeBroadcast
  split
  case h_1 => exact attends_reqStart s
  case h_2 => exact attends_of_tape (calm_reqHold s).tape
  case h_3 => exact attends_of_tape (calm_reqResume s).tape
  case h_4 => exact attends_of_tape (calm_reqEnd s).tape
  case h_5 => exact attends_of_tape (calm_reqClear s).tape
  case h_6 => exact attends_of_tape (calm_reqFaultArm _ s).tape
  all_goals exact attends_of_tape rfl

/-- The run clock stays, or outside a run is set to 0. -/
def Clocked (s t : State) : Prop := t.run.clock = s.run.clock ∨ (t.run.clock = 0 ∧ s.inRun = false)

theorem attends_arrive (f : Frame) (s : State) : Attends s (arrive f s) := by
  unfold arrive
  split
  · exact attends_handFrame f s
  · exact attends_of_tape rfl
  · exact attends_of_tape rfl

theorem attends_completeFrame (bc : Bool) (data : List Byte) (s : State) :
    Attends (setReceiver .hunting s) (completeFrame bc data s) := by
  unfold completeFrame
  dsimp only
  split
  · split
    · exact attends_takeBroadcast _ _
    · exact attends_arrive _ _
  · exact attends_of_tape rfl

/-- Outside a frame the characters of a frame are passed over. -/
theorem receiveFrame_hunting (chars : List RxChar) (h : s.link.receiver = .hunting) : receiveFrame chars s = s := by
  induction chars with
  | nil => rfl
  | cons c chars ih =>
    have passed : takeData c s = s := by
      unfold takeData
      rw [h]
    show receiveFrame chars (takeData c s) = s
    rw [passed, ih]

/-- A character of a frame leaves the run, or completes the frame and leaves the receiver HUNTING. -/
theorem takeData_cases (c : RxChar) (s : State) :
    (takeData c s).run = s.run ∨ ((takeData c s).link.receiver = .hunting ∧ Clocked s (takeData c s)) := by
  unfold takeData
  split
  · exact .inl rfl
  · exact .inl rfl
  · left
    unfold takeLength
    split <;> rfl
  · next bc l rest gap receiving =>
    dsimp only
    split
    · have done := attends_completeFrame bc (l :: rest ++ [c.data]) s
      exact .inr ⟨done.receiver, done.clock⟩
    · exact .inl rfl

/-- At most one character of a list completes a frame. -/
theorem clocked_receiveFrame (chars : List RxChar) (s : State) : Clocked s (receiveFrame chars s) := by
  induction chars generalizing s with
  | nil => exact .inl rfl
  | cons c chars ih =>
    show Clocked s (receiveFrame chars (takeData c s))
    rcases takeData_cases c s with same | ⟨hunting, clocked⟩
    · have rest := ih (takeData c s)
      unfold Clocked at rest ⊢
      rwa [inRun_congr same, same] at rest
    · rw [receiveFrame_hunting chars hunting]
      exact clocked

theorem clock_sampleInput (k : Fin 10) (line : Bool) (order : List WorkItem) (s : State) :
    (sampleInput k line order s).run.clock = s.run.clock := by
  have edge (d : Edge) (v : State) : (deliverEdge k d order v).run.clock = v.run.clock :=
    (Calm.forEach (calm_edgeItem v.run.state k d) _ _).clock.trans (congrArg (fun v => v.1.clock) (logEdge_unlogged k d v) :)
  unfold sampleInput
  split
  · dsimp only
    split
    · split
      · exact (edge _ _).trans rfl
      · rfl
    · rfl
  · rfl

theorem clocked_takeDue {c : Instr} (other : c ≠ .warmReset) (s : State) : Clocked s (takeDue c s) := by
  have calm {t : State} (h : Calm s t) : Clocked s t := .inl h.clock
  cases c with
  | warmReset => exact absurd rfl other
  | relayRecoveryEnd => exact calm (calm_relayRecoveryEnd s)
  | halfPeriodEnd n => exact calm (calm_halfEnd n s)
  | inputSample k line order => exact .inl (clock_sampleInput k line order s)
  | speedPointEnd => exact calm (calm_pointEnd s)
  | sampleSlotEnd n => exact calm (calm_sampleEnd n s)
  | delayElapse k => exact calm (calm_delayEnd k s)
  | widthElapse k order => exact calm (calm_widthEnd k order s)
  | relayApplyComplete => exact calm (calm_relayApplyComplete s)
  | relayReleaseComplete => exact calm (calm_relayReleaseComplete s)
  | alignmentTimeout p => exact calm (calm_alignExpire p s)
  | ignitionWaitEnd => exact calm (calm_ignitionWaitEnd s)
  | wakeWaitEnd => exact calm (calm_wakeWaitEnd s)
  | connSenseChange high => exact calm (calm_senseChange high s)
  | connectionAccepted => exact calm (calm_connectionAccepted s)
  | feedStage => exact calm (calm_feedStage s)
  | holdTimeout => exact calm (calm_holdTimeout s)
  | relayGrant => exact calm (calm_relayGrant s)
  | initIntervalEnd | pulseTimerEnd =>
    left
    show (ite _ _ _ : State).run.clock = _
    split <;> rfl
  | characterGapTimeout =>
    left
    show (gapTimeout s).run.clock = _
    unfold gapTimeout abandonFrame
    split <;> [split; skip] <;> rfl
  | runClockWrap =>
    left
    show (clockWrap s).run.clock = _
    unfold clockWrap raiseIf
    split <;> [(dsimp only; split); skip] <;> rfl
  | replyStart =>
    left
    show (replyStart s).run.clock = _
    unfold replyStart
    split <;> [split; skip] <;> rfl
  | replyEnd =>
    show Clocked s (replyEnd s)
    unfold replyEnd
    split
    · exact .inl rfl
    · split
      · exact .inl rfl
      · split
        · exact .inl rfl
        · exact (attends_handFrame _ _).clock
  | _ => exact .inl rfl

theorem clocked_exec {c : Instr} (running : ∀ o, c ≠ .runMicrosecond o) (warm : c ≠ .warmReset) (cold : ∀ b, c ≠ .coldReset b)
    (h : exec c s = .next t) : Clocked s t := by
  rcases exec_event_or_request c s with e | e | ⟨x, rfl⟩ | rfl | ⟨x, rfl⟩ | ⟨x, rfl⟩ | ⟨x, rfl⟩ | ⟨x, rfl⟩
  · cases h.symm.trans e
    exact clocked_takeDue warm s
  · cases h.symm.trans e
    exact (attends_serve c s).clock
  · cases h
    exact clocked_receiveFrame x s
  · cases h
    left
    show (abandonFrame s).run.clock = _
    unfold abandonFrame
    split <;> rfl
  · exact absurd rfl (cold x)
  · exact absurd rfl (running x)
  · cases h
    left
    have hunted (v : State) : (huntAddress x v).run = v.run := by
      unfold huntAddress
      dsimp only
      split <;> rfl
    show (receiveAddress x s).run.clock = _
    unfold receiveAddress abandonFrame
    split
    · rfl
    · rw [hunted]
    · rw [hunted]
      split <;> rfl
  · cases h
    left
    show (receiveLength x s).run.clock = _
    unfold receiveLength takeLength
    split
    · split <;> rfl
    all_goals rfl

/-- Settles O17: only the tick advances the clock; a start and the two resets set it to 0, a start outside a run. -/
theorem onlyRunMicrosecondsMoveTheClock : Obligations.OnlyRunMicrosecondsMoveTheClock := by
  intro c s t running h
  by_cases warm : c = .warmReset
  · subst warm
    cases h
    refine ⟨?_, fun _ no => absurd rfl no⟩
    show (warmReset s).run.clock = _ ∨ _
    unfold warmReset
    split
    · exact .inr rfl
    · exact .inl rfl
  · by_cases cold : ∃ b, c = .coldReset b
    · obtain ⟨b, rfl⟩ := cold
      cases h
      exact ⟨.inr rfl, fun _ _ no => absurd rfl (no b)⟩
    · have clocked := clocked_exec running warm (not_exists.mp cold) h
      refine ⟨clocked.imp id And.left, fun inside _ _ => clocked.resolve_right ?_⟩
      rintro ⟨-, out⟩
      rcases inside with inside | inside
      · rw [inRun_of_running inside] at out
        cases out
      · rw [inRun_of_held inside] at out
        cases out

/-! ### The resets (R22, R47, R72, R92, R110, R139, R160, R174, R184, R193) -/

theorem coldReset_input (straps : BitVec 3) (s : State) (k : Fin 10) :
    (coldReset straps s).input k = { State.reset.input k with wire := (s.input k).wire } := by
  have reset : State.reset.input k = Input.cold := getAt_replicate Input.cold k
  rw [reset]
  simp [coldReset, State.input, State.cold, getAt]

theorem warmTables_chan (s : State) (n : Fin 16) : (warmTables s).chan n = (s.chan n).afterWarm n := by
  unfold warmTables
  rw [forEach_view (fun s => s.chan n) _ (fun k s => s.setSlot k (s.slot k).afterWarm) (fun _ _ _ => rfl),
    forEach_view (fun s => s.chan n) _ (fun k s => s.setInput k ((s.input k).afterWarm s.uptime)) (fun _ _ _ => rfl),
    forEach_at (fun s => s.chan n) (fun c => c.afterWarm n) n _ (fun n s => s.setChan n ((s.chan n).afterWarm n)) (mem_allChannels n)
      nodup_allChannels (fun j _ hj s => State.chan_setChan_other _ _ _ _ (Ne.symm hj)) (fun s => State.chan_setChan_same _ _ _)]

theorem warmTables_rest (s : State) :
    { warmTables s with chans := s.chans, cap := { (warmTables s).cap with inputs := s.cap.inputs },
                        faults := { (warmTables s).faults with slots := s.faults.slots } } = s := by
  let view := fun t : State => { t with
    chans := s.chans, cap := { t.cap with inputs := s.cap.inputs }, faults := { t.faults with slots := s.faults.slots } }
  have slots (u : State) := forEach_view view allSlots (fun k t => t.setSlot k (t.slot k).afterWarm) (fun _ _ _ => rfl) u
  have inputs (u : State) := forEach_view view allInputs (fun k t => t.setInput k ((t.input k).afterWarm t.uptime)) (fun _ _ _ => rfl) u
  have channels (u : State) := forEach_view view allChannels (fun n t => t.setChan n ((t.chan n).afterWarm n)) (fun _ _ _ => rfl) u
  exact (slots _).trans ((inputs _).trans (channels _))

theorem warmTables_input (s : State) (k : Fin 10) : (warmTables s).input k = (s.input k).afterWarm s.uptime := by
  let view := fun t : State => (t.input k, t.uptime)
  have slots (u : State) := forEach_view view allSlots (fun k t => t.setSlot k (t.slot k).afterWarm) (fun _ _ _ => rfl) u
  have channels (u : State) := forEach_view view allChannels (fun n t => t.setChan n ((t.chan n).afterWarm n)) (fun _ _ _ => rfl) u
  have inputs (u : State) := forEach_at view (fun x => (x.1.afterWarm x.2, x.2)) k allInputs
    (fun k t => t.setInput k ((t.input k).afterWarm t.uptime)) (mem_allInputs k) nodup_allInputs
    (fun j _ hj t => Prod.ext (State.input_setInput_other _ _ _ _ (Ne.symm hj)) rfl)
    (fun t => Prod.ext (State.input_setInput_same _ _ _) rfl) u
  have whole : view (warmTables s) = ((s.input k).afterWarm s.uptime, s.uptime) := by
    refine (slots _).trans ((inputs _).trans ?_)
    rw [channels]
  exact congrArg Prod.fst whole

theorem afterWarm_driver_of (u : Supply) (now : Nat) (h : u.shutdown = .driver) :
    (u.afterWarm now).drvReq = false ∧ (u.afterWarm now).driver = .off ∧ (u.afterWarm now).shutdown = .feed (now + 1000) := by
  simp [Supply.afterWarm, h, Supply.settled, Supply.nextDriver, Config.feedStageDelay]

/-- With no driver stage pending the kept commands decide the feeds and the drivers, without the drops (R174). -/
theorem afterWarm_kept (u : Supply) (now : Nat) (h : u.shutdown ≠ .driver) :
    (u.afterWarm now).drvReq = u.drvReq ∧ (u.afterWarm now).shutdown = u.shutdown
      ∧ (u.afterWarm now).driver = if u.battCmd && u.drvReq then (if u.driver = .off then .wakeWait now else u.driver) else .off := by
  simp [Supply.afterWarm, h, Supply.settled, Supply.nextDriver, Supply.battery]

theorem afterWarm_rest (u : Supply) (now : Nat) : (u.afterWarm now).battDrop = false ∧ (u.afterWarm now).ignDrop = false
    ∧ (u.afterWarm now).battCmd = u.battCmd ∧ (u.afterWarm now).ignCmd = u.ignCmd ∧ (u.afterWarm now).mode = u.mode
    ∧ (u.afterWarm now).waitStart = u.waitStart ∧ (u.afterWarm now).waitDone = u.waitDone ∧ (u.afterWarm now).conn = u.conn
    ∧ (u.afterWarm now).connPin = u.connPin ∧ (u.afterWarm now).sensed = u.sensed ∧ (u.afterWarm now).battAct = u.battCmd
    ∧ (u.afterWarm now).ignAct = (u.ignCmd && u.battCmd && u.waitDone) := by
  rw [Supply.afterWarm_eq]
  refine ⟨rfl, rfl, rfl, rfl, rfl, rfl, rfl, rfl, rfl, rfl, Bool.and_true _, ?_⟩
  show (u.ignCmd && (u.battCmd && !false) && !false && u.waitDone) = _
  rw [Bool.not_false, Bool.and_true, Bool.and_true]

theorem warmDue_iff {x : Nat} (h : s.link.resetDue = some x) : s.warmDue = true ↔ x ≤ s.uptime := by
  unfold State.warmDue
  rw [h]
  exact decide_eq_true_iff

/-- Settles O54: the cold values as they stand; the warm reset's tables, then its blocks. -/
theorem resetsTakeTheirValues : Obligations.ResetsTakeTheirValues := by
  intro s
  refine ⟨fun straps => ⟨_, rfl, rfl, rfl, rfl, rfl, rfl, rfl, rfl, coldReset_input straps s, rfl, rfl, rfl, rfl, rfl⟩,
    fun none => congrArg Host.Outcome.next (if_neg ?_), fun x at_x due => ?_⟩
  · rcases none with none | ⟨x, at_x, early⟩
    · simp [State.warmDue, none]
    · rw [warmDue_iff at_x]
      omega
  · have rest := warmTables_rest s
    have chan := warmTables_chan s
    have input := warmTables_input s
    have slot := warmTables_slot s
    have run : exec .warmReset s = .next (warmBlocks (warmTables s)) :=
      congrArg Host.Outcome.next (if_pos ((warmDue_iff at_x).mpr due))
    generalize warmTables s = v at *
    have now : v.uptime = s.uptime := (congrArg State.uptime rest :)
    have sup : v.sup = s.sup := (congrArg State.sup rest :)
    obtain ⟨battDrop, ignDrop, battCmd, ignCmd, mode, waitStart, waitDone, conn, connPin, sensed, battAct, ignAct⟩ :=
      afterWarm_rest s.sup s.uptime
    have sup_eq : (warmBlocks v).sup = s.sup.afterWarm s.uptime := by
      show v.sup.afterWarm v.uptime = _
      rw [sup, now]
    have empty (k : Fin 32) : State.reset.slot k = Slot.cold := getAt_replicate Slot.cold k
    refine ⟨warmBlocks v, run, now, (congrArg State.pending rest :), (congrArg State.trace rest :), ?_, ?_, chan, rfl, input,
      fun g => getAt_replicate none g, fun k none => ?_, fun k some => ?_, ?_, ?_, ?_, ?_⟩
    · exact congrArg Run.afterReset (congrArg (fun u : State => u.run.config) rest :)
    · exact congrArg₂ Rotation.afterReset (congrArg (fun u : State => u.rot.wheel) rest :) (congrArg (fun u : State => u.rot.cams) rest :)
    · rw [empty]
      exact (slot k).trans (by simp only [Slot.afterWarm, none]; rfl)
    · rw [empty]
      exact (slot k).trans (by simp only [Slot.afterWarm, if_neg some])
    · exact congrArg₂ PinMatrix.afterReset now (congrArg (fun u : State => u.pins.map) rest :)
    · rw [show (warmBlocks v).ntc = .afterReset v.ntc.enables v.ntc.threshold v.ntc.routes from rfl,
        show v.ntc = s.ntc from (congrArg State.ntc rest :)]
      rfl
    · rw [show (warmBlocks v).link = v.link.afterWarm v.uptime from rfl, now, show v.link = s.link from (congrArg State.link rest :)]
      rfl
    · rw [sup_eq]
      refine ⟨battDrop, ignDrop, battCmd, ignCmd, mode, waitStart, waitDone, conn, connPin, sensed, battAct, ignAct,
        afterWarm_driver_of s.sup s.uptime, fun kept => ?_⟩
      obtain ⟨request, shutdown, driver⟩ := afterWarm_kept s.sup s.uptime kept
      refine ⟨request, shutdown, fun law on => ?_, fun off battery request => ?_⟩
      · obtain ⟨batt, -, drivers, -⟩ := law
        obtain ⟨act, req⟩ := drivers.mp on
        rw [act] at batt
        rw [driver, req, (Bool.and_eq_true_iff.mp batt.symm).1]
        exact if_neg on
      · rw [driver, off, battery, request]
        rfl

/-- Settles O55: the cold unit obeys every law, and its tables are the cold ones. -/
theorem resetStateObeysTheLaws : Obligations.ResetStateObeysTheLaws := by
  obtain ⟨trace, rotation, pattern, run, supply, queue, guards, log, notice, link⟩ := laws_cold 0 0 (.replicate 10 .cold) true []
  have holder : HolderLaw State.reset := held_iff.mp (held_cold 0 0 (.replicate 10 .cold) true [])
  have chan (n : Fin 16) : State.reset.chan n = Channel.cold (if n.val < 12 then 4095 else 65535) := getAt_coldChannels n
  have input (k : Fin 10) : State.reset.input k = Input.cold := getAt_replicate Input.cold k
  have slot (k : Fin 32) : State.reset.slot k = Slot.cold := getAt_replicate Slot.cold k
  refine ⟨⟨trace, rotation, pattern, run, supply, queue, guards, log, holder, notice, link⟩, rfl, rfl, rfl, rfl, rfl, rfl, rfl, rfl,
    rfl, fun n => ?_, fun k => ?_, fun k => ?_, fun g => getAt_replicate none g,
    fun p => ⟨getAt_replicate PinSource.unused p, getAt_replicate Path.normal p⟩, rfl, rfl, rfl, rfl, rfl, rfl, rfl, rfl⟩
  · rw [chan]
    exact ⟨rfl, rfl, rfl, rfl⟩
  · rw [input]
    exact ⟨rfl, rfl⟩
  · rw [slot]
    rfl

end Sys2Proof.Machine
end

section
/-! PROOFS. The end of a pulse line's half, and the switches of the harness pins: O28, O45. -/

namespace Sys2Proof.Machine

open Sys2Proof.Safety

variable {s t : State}

/-! ### Alignment waits on a level change (R146) -/

theorem setAligned_change {p : Fin 24} {w : AlignWait} (h : s.wait p = some w) :
    setAligned p false s = ((s.setPath p (if w.ground then .shortGnd else .openPath)).setWait p none).setSlot w.slot
      { s.slot w.slot with state := .active, progress := 0, outcome := if (s.slot w.slot).late then .late else .applied } := by
  unfold setAligned
  rw [h]
  rfl

theorem offerChange_of_no_wait {src : LineSource} {p : Fin 24} (h : s.wait p = none) : offerChange src p s = s :=
  if_neg (by simp [h])

theorem offerChange_of_not_running {src : LineSource} {p : Fin 24} (h : s.run.state ≠ .running) : offerChange src p s = s :=
  if_neg fun both => h both.1

theorem levelChange_of_idle {src : LineSource} (h : (∀ p, s.wait p = none) ∨ s.run.state ≠ .running) : levelChange src s = s :=
  forEach_id _ _ _ fun p _ => h.elim (fun none => offerChange_of_no_wait (none p)) offerChange_of_not_running

/-- The one pin that waits, since an earlier microsecond, for this source takes its path. -/
theorem levelChange_of_wait {src : LineSource} {p : Fin 24} {w : AlignWait} (running : s.run.state = .running) (waits : s.wait p = some w)
    (alone : ∀ q, q ≠ p → s.wait q = none) (source : w.source = .line src) (since : w.since < s.uptime) :
    levelChange src s = ((s.setPath p (if w.ground then .shortGnd else .openPath)).setWait p none).setSlot w.slot
      { s.slot w.slot with state := .active, progress := 0, outcome := if (s.slot w.slot).late then .late else .applied } := by
  have taken : offerChange src p s = setAligned p false s :=
    if_pos ⟨running, by rw [waits]; simp [source, since]⟩
  rw [setAligned_change waits] at taken
  refine (forEach_one (mem_allPins p) nodup_allPins (fun q _ hq => offerChange_of_no_wait (alone q hq)) fun q _ hq => ?_).trans taken
  rw [taken]
  refine offerChange_of_no_wait ?_
  exact (State.wait_setWait_other _ _ _ _ hq).trans (alone q hq)

/-! ### The end of a half (R87 to R89) -/

theorem halfEndDue_iff {n : Fin 16} {h : Half} (pulse : 12 ≤ n.val) (half : (s.chan n).half = some h) :
    s.halfEndDue n = true ↔ h.since + h.period ≤ s.uptime := by
  simp [State.halfEndDue, pulse, half, State.reached]

theorem halfEnd_of_due {n : Fin 16} {h : Half} (pulse : 12 ≤ n.val) (half : (s.chan n).half = some h)
    (due : h.since + h.period ≤ s.uptime) :
    halfEnd n s = offerLine (s.chan n).line n (s.setChan n ((s.chan n).turned s.uptime)) :=
  if_pos ((halfEndDue_iff pulse half).mpr due)

theorem turned_line_eq_iff (c : Channel) (now : Nat) : (c.turned now).line = c.line ↔ ¬ (c.output ≠ 0 ∨ c.line ≠ c.restLevel) := by
  unfold Channel.turned
  split
  · next zero => simp [zero, eq_comm]
  · next some => cases c.line <;> simp [some]

/-- Settles O28: the line turns, and a moved line is offered to the pins that wait. -/
theorem halfPeriodEndTurnsTheLine : Obligations.HalfPeriodEndTurnsTheLine := by
  intro n h s pulse half c turned moves
  refine ⟨fun early => congrArg Host.Outcome.next (if_neg ?_), fun due => ?_⟩
  · rw [halfEndDue_iff pulse half]
    omega
  have line : ((turned.chan n).line = c.line) ↔ ¬ moves := by
    show ((s.setChan n (c.turned s.uptime)).chan n).line = c.line ↔ _
    rw [State.chan_setChan_same]
    exact turned_line_eq_iff c s.uptime
  have run : exec (.halfPeriodEnd n) s = .next (offerLine c.line n turned) :=
    congrArg Host.Outcome.next (halfEnd_of_due pulse half due)
  rw [run]
  refine ⟨fun idle => congrArg Host.Outcome.next ?_, fun moved running p w waits alone source since => congrArg Host.Outcome.next ?_⟩
  · unfold offerLine
    split
    · rfl
    · next changed =>
      rcases idle with rests | idle
      · exact absurd (line.mpr rests) changed
      · exact levelChange_of_idle idle
  · refine (if_neg fun same => line.mp same moved).trans ?_
    exact levelChange_of_wait (s := turned) running waits alone source since

/-! ### The switches of a pin (R141, R143, R156) -/

theorem moving_of_free {p : Fin 24} (h : s.pins.drive = .free) : s.moving p = false := by simp [State.moving, h]

theorem moving_of_busy {e : RelayEntry} {x : Nat} {p : Fin 24} (h : s.pins.drive = .busy e x) :
    s.moving p = true ↔ e.path = .supply p ∨ ∃ q, e.path = .bridge p q ∨ e.path = .bridge q p := by
  unfold State.moving
  rw [h]
  dsimp only
  cases e.path with
  | supply a => simp
  | bridge a b =>
    simp only [Bool.or_eq_true, beq_iff_eq, reduceCtorEq, RelayPath.bridge.injEq, false_or]
    exact ⟨fun h => h.elim (fun ha => ⟨b, .inl ⟨ha, rfl⟩⟩) fun hb => ⟨a, .inr ⟨rfl, hb⟩⟩, fun ⟨_, h⟩ => h.imp And.left And.right⟩

theorem switches_of_normal {p : Fin 24} (still : s.moving p = false) (h : s.path p = .normal) : s.switches p =
    { series := decide (getAt s.pins.routed p ≠ .unused), ground := false, supplyRelay := false, bridgeRelay := false } := by
  have series : s.seriesByPath p = decide (getAt s.pins.routed p ≠ .unused) := by
    simp only [State.seriesByPath, h]
    rw [bne, beq_eq_decide, decide_not]
  simp [State.switches, still, series, h]

theorem switches_of_shortSupply {p : Fin 24} (still : s.moving p = false) (h : s.path p = .shortSupply) : s.switches p =
    { series := false, ground := false, supplyRelay := true, bridgeRelay := false } := by
  simp [State.switches, still, State.seriesByPath, h]

theorem switches_of_bridge {p q : Fin 24} (still : s.moving p = false) (h : s.path p = .bridge q) : s.switches p =
    { series := s.bridgeTarget p, ground := false, supplyRelay := false, bridgeRelay := true } := by
  simp [State.switches, still, State.seriesByPath, h]

theorem driven_of_off {b : Bool} {d : PinDrive} (h : s.sup.driver ≠ .on ∨ b = false) : s.driven b d = .highImpedance := by
  unfold State.driven
  rw [drvEn_eq]
  rcases h with off | off <;> simp [off]

theorem driven_of_on {d : PinDrive} (h : s.sup.driver = .on) : s.driven true d = d := by
  simp [State.driven, drvEn_eq, h]

/-! ### A pin from grant to completion (R150, R156) -/

/-- What a pin whose relays do not move sees is given without the drive. -/
theorem contact_unmoved {p : Fin 24} (h : s.moving p = false) :
    s.contact p = ({ s with pins := { s.pins with drive := .free, waitList := [] } } : State).contact p := by
  unfold State.contact
  rw [h, moving_of_free rfl]
  rfl

theorem switches_unmoved {p : Fin 24} (h : s.moving p = false) :
    s.switches p = ({ s with pins := { s.pins with drive := .free, waitList := [] } } : State).switches p := by
  unfold State.switches
  rw [h, moving_of_free rfl]
  rfl

theorem grant_at_pin {e : RelayEntry} {p : Fin 24} {v : State} (free : s.pins.drive = .free)
    (same : { v with pins := { v.pins with drive := s.pins.drive, waitList := s.pins.waitList } } = s)
    (busy : v.pins.drive = .busy e s.uptime) :
    let moved := e.path = .supply p ∨ ∃ q, e.path = .bridge p q ∨ e.path = .bridge q p
    v.path p = s.path p ∧ (moved → v.contact p = .moving ∧ v.switches p = { s.switches p with series := false })
      ∧ (¬ moved → v.contact p = s.contact p ∧ v.switches p = s.switches p) := by
  intro moved
  have still : s.moving p = false := moving_of_free free
  have paths : v.path p = s.path p := (congrArg (fun u : State => u.path p) same :)
  have series : v.seriesByPath p = s.seriesByPath p := (congrArg (fun u : State => u.seriesByPath p) same :)
  have switches (b : Bool) : ({ v.switches p with series := b } : Switches) = { s.switches p with series := b } :=
    (congrArg (fun u : State => ({ u.switches p with series := b } : Switches)) same :)
  refine ⟨paths, fun h => ?_, fun h => ?_⟩
  · have moving : v.moving p = true := (moving_of_busy busy).mpr h
    refine ⟨contact_of_moving moving, Eq.trans ?_ (switches false)⟩
    simp [State.switches, moving]
  · have rest : v.moving p = false := Bool.eq_false_iff.mpr (mt (moving_of_busy busy).mp h)
    have parked : ({ v with pins := { v.pins with drive := .free, waitList := [] } } : State)
        = { s with pins := { s.pins with drive := .free, waitList := [] } } :=
      (congrArg (fun u : State => ({ u with pins := { u.pins with drive := .free, waitList := [] } } : State)) same :)
    rw [contact_unmoved rest, switches_unmoved rest, parked]
    exact ⟨(contact_unmoved still).symm, (switches_unmoved still).symm⟩

/-- Settles O45: the pins by their paths, then a pin at the grant and at the completion of its transition. -/
theorem harnessPinsFollowTheirPaths : Obligations.HarnessPinsFollowTheirPaths := by
  refine ⟨fun s p => ?_, fun s free waiting => ?_, fun e x p s busy due path => ⟨fun apply => ?_, fun release => ?_⟩⟩
  · intro still unused on z
    refine ⟨fun h => ?_, fun k h => rigSide_of_tap h, fun h => ⟨fun h' => ?_, fun h' => ?_⟩, fun c h => ⟨fun h' => ?_, fun h' => ?_⟩,
      fun n h => ?_, fun h path => ⟨contact_of_normal h path, switches_of_normal h path⟩,
      fun h path => ⟨contact_of_open h path, ?_⟩, fun h path => ⟨contact_of_shortGnd h path, ?_⟩,
      fun h path => ⟨contact_of_shortSupply h path, switches_of_shortSupply h path⟩,
      fun q k r h path holder record => ⟨fun action => ?_, fun action other => ?_⟩⟩
    · exact (by simp [State.rigSide, show getAt s.pins.routed p = .unused from h])
    · exact (rigSide_of_line h).trans (congrArg Contact.source (driven_of_on h'))
    · exact (rigSide_of_line h).trans (congrArg Contact.source (driven_of_off (.inl h')))
    · exact (rigSide_of_line h).trans (congrArg Contact.source (driven_of_on h'))
    · exact (rigSide_of_line h).trans (congrArg Contact.source (driven_of_off (.inl h')))
    · intro c
      refine ⟨fun h' enabled => (rigSide_of_line h).trans (congrArg Contact.source ?_),
        fun h' => (rigSide_of_line h).trans (congrArg Contact.source (driven_of_off h'))⟩
      show s.driven c.pinEnable _ = _
      rw [enabled]
      exact driven_of_on h'
    · simp [State.switches, show s.moving p = false from h, State.seriesByPath, path]
    · simp [State.switches, show s.moving p = false from h, State.seriesByPath, path]
    · have target : s.bridgeTarget p = true := (bridgeTarget_of holder record action).trans (beq_self_eq_true p)
      rw [contact_of_bridge h path, switches_of_bridge h path, target]
      exact ⟨rfl, rfl⟩
    · have target : s.bridgeTarget p = false := (bridgeTarget_of holder record action).trans (beq_false_of_ne (Ne.symm other))
      rw [contact_of_bridge h path, switches_of_bridge h path, target]
      exact ⟨rfl, rfl⟩
  · cases chosen : chooseEntry s.pins.waitList with
    | none => exact absurd (chooseEntry_eq_none chosen) waiting
    | some e =>
      exact ⟨relayGrant s, e, rfl, by rw [relayGrant_of free chosen]; rfl,
        fun p => grant_at_pin free (relayGrant_frame s) (by rw [relayGrant_of free chosen]; rfl)⟩
  · obtain ⟨-, -, completes, -⟩ := relayTransitionsComplete e x s busy
    obtain ⟨t, run, ⟨-, -, -, -, -, -, -, -, -, free, -⟩, -, -, -, supply, -⟩ := completes due apply
    have still : t.moving p = false := moving_of_free free
    exact ⟨t, run, contact_of_shortSupply still (supply p path), switches_of_shortSupply still (supply p path)⟩
  · obtain ⟨-, -, -, completes⟩ := relayTransitionsComplete e x s busy
    obtain ⟨t, run, ⟨-, -, -, -, -, -, -, -, -, free, -⟩, -, -, -, normal, -⟩ := completes due release
    have still : t.moving p = false := moving_of_free free
    have normal : t.path p = .normal := normal p (by rw [path]; exact List.mem_singleton_self p)
    have routed : t.pins.routed = s.pins.routed := by
      cases run
      exact (calm_relayReleaseComplete s).routed
    refine ⟨t, run, contact_of_normal still normal, ?_, ?_⟩
    · rw [switches_of_normal still normal, routed]
      exact decide_eq_true_iff
    · rw [switches_of_normal still normal]

end Sys2Proof.Machine
end

section
/-! PROOFS. The block on its own, and the beginning of a microsecond: O3. -/

namespace Sys2Proof.Machine

open Sys2Proof.Safety

variable {s t : State}

/-! ### The events that fall due (log entry 1) -/

/-- A due event is the command of its name. -/
theorem exec_of_due {c : Instr} (due : isDue c s = true) : exec c s = .next (takeDue c s) := by
  cases c with
  | warmReset | initIntervalEnd | relayRecoveryEnd | runClockWrap | halfPeriodEnd | inputSample | speedPointEnd | sampleSlotEnd
    | delayElapse | widthElapse | relayApplyComplete | relayReleaseComplete | alignmentTimeout | ignitionWaitEnd | wakeWaitEnd
    | connSenseChange | connectionAccepted | feedStage | holdTimeout | pulseTimerEnd | replyStart | replyEnd | characterGapTimeout
    | relayGrant => rfl
  | _ => cases due

theorem nextDue_of {before behind : List Instr} {c : Instr} (h : dueEvents s = before ++ c :: behind) (due : isDue c s = true)
    (none : ∀ b ∈ before, isDue b s = false) : nextDue s = some c := by
  unfold nextDue
  rw [h, List.find?_append, List.find?_eq_none.mpr fun b hb => Bool.eq_false_iff.mp (none b hb), Option.none_or]
  exact List.find?_cons_of_pos due

theorem nextDue_of_none (h : ∀ c ∈ dueEvents s, isDue c s = false) : nextDue s = none :=
  List.find?_eq_none.mpr fun c hc => Bool.eq_false_iff.mp (h c hc)

theorem idle_of_work {w : WorkItem} {rest : List WorkItem} (h : s.run.work = w :: rest) : idle s = takeItem w s := by
  unfold idle
  rw [h]

theorem idle_of_due {c : Instr} (work : s.run.work = []) (h : nextDue s = some c) : idle s = takeDue c s := by
  unfold idle
  rw [work, h]

theorem idle_of_none (work : s.run.work = []) (h : nextDue s = none) : idle s = nextMicro [] s := by
  unfold idle
  rw [work, h]

/-! ### A microsecond begins -/

/-- Channel n at the beginning of a microsecond, in a run `r` (R75 to R77, R88). -/
def Channel.begun (n : Fin 16) (r : Run) (c : Channel) : Channel :=
  if !(r.state == .running || r.state == .held) || !r.begun then c.reachPin.atRest n else c.reachPin

theorem beginChannel_chan (n : Fin 16) (s : State) : (beginChannel n s).chan n = (s.chan n).begun n s.run :=
  State.chan_setChan_same _ _ _

theorem beginInput_input (k : Fin 10) (s : State) : (beginInput k s).input k =
    if (s.input k).enable then s.input k else { s.input k with level := none, phase := none } := by
  unfold beginInput
  dsimp only
  split
  · rfl
  · exact State.input_setInput_same _ _ _

/-- The unit as a microsecond begins, before its channels and inputs follow. -/
def nextUptime (s : State) : State :=
  { s with
    uptime := s.uptime + 1
    run := { s.run with inMicro := false }
    pins := { s.pins with routed := s.pins.map }
    sup := { s.sup with sensed := false } }

theorem beginMicro_eq (s : State) :
    beginMicro s = forEach allInputs beginInput (forEach allChannels beginChannel (nextUptime s)) := rfl

theorem beginMicro_chan (n : Fin 16) (s : State) : (beginMicro s).chan n = (s.chan n).begun n s.run := by
  let view := fun t : State => (t.chan n, t.run)
  have inputs (u : State) := forEach_view view allInputs beginInput (fun k _ t => by
    unfold beginInput
    dsimp only
    split <;> rfl) u
  have channels (u : State) := forEach_at view (fun x => (x.1.begun n x.2, x.2)) n allChannels beginChannel (mem_allChannels n)
    nodup_allChannels (fun j _ hj t => Prod.ext (State.chan_setChan_other _ _ _ _ (Ne.symm hj)) rfl)
    (fun t => Prod.ext (beginChannel_chan n t) rfl) u
  have same (c : Channel) : c.begun n (nextUptime s).run = c.begun n s.run := rfl
  rw [beginMicro_eq]
  have at_inputs := congrArg Prod.fst (inputs (forEach allChannels beginChannel (nextUptime s)))
  have at_channels := congrArg Prod.fst (channels (nextUptime s))
  generalize forEach allChannels beginChannel (nextUptime s) = v at at_inputs at_channels ⊢
  generalize forEach allInputs beginInput v = w at at_inputs ⊢
  exact at_inputs.trans (at_channels.trans (same _))

theorem beginMicro_input (k : Fin 10) (s : State) : (beginMicro s).input k =
    if (s.input k).enable then s.input k else { s.input k with level := none, phase := none } := by
  have channels (u : State) := forEach_view (fun t : State => t.input k) allChannels beginChannel (fun _ _ _ => rfl) u
  have inputs (u : State) := forEach_at (fun t : State => t.input k)
    (fun x => if x.enable then x else { x with level := none, phase := none }) k allInputs beginInput (mem_allInputs k) nodup_allInputs
    (fun j _ hj t => by
      unfold beginInput
      dsimp only
      split
      · rfl
      · exact State.input_setInput_other _ _ _ _ (Ne.symm hj)) (beginInput_input k) u
  rw [beginMicro_eq, inputs, channels]
  rfl

theorem beginMicro_rest (s : State) :
    { beginMicro s with chans := s.chans, cap := { (beginMicro s).cap with inputs := s.cap.inputs } } =
      nextUptime s := by
  let view := fun t : State => { t with chans := s.chans, cap := { t.cap with inputs := s.cap.inputs } }
  have channels (u : State) := forEach_view view allChannels beginChannel (fun _ _ _ => rfl) u
  have inputs (u : State) := forEach_view view allInputs beginInput (fun k _ t => by
    unfold beginInput
    dsimp only
    split <;> rfl) u
  rw [beginMicro_eq]
  exact (inputs _).trans (channels (nextUptime s))

theorem nextMicro_of_running (order : List WorkItem) (h : s.run.state = .running) :
    nextMicro order s = takeWork order (openMicro order s (beginMicro s)) := by
  unfold nextMicro
  dsimp only
  rw [beginMicro_run]
  exact if_pos h

theorem nextMicro_of_not_running (order : List WorkItem) (h : s.run.state ≠ .running) : nextMicro order s = beginMicro s := by
  unfold nextMicro
  dsimp only
  rw [beginMicro_run]
  exact (if_neg h).trans (quietMicro_of_quiet h)

/-- A run microsecond with nothing left of the one before and nothing due. -/
theorem exec_runMicrosecond (order : List WorkItem) (running : s.run.state = .running) (work : s.run.work = [])
    (due : nextDue s = none) : exec (.runMicrosecond order) s = .next (takeWork order (openMicro order s (beginMicro s))) :=
  congrArg Host.Outcome.next (runMicro_of_quiet running work due)

theorem begun_of_rest {n : Fin 16} {r : Run} {c : Channel} (h : r.state ≠ .running ∧ r.state ≠ .held ∨ r.begun = false) :
    c.begun n r = c.reachPin.atRest n := by
  refine if_pos ?_
  rcases h with ⟨running, held⟩ | first
  · simp [running, held]
  · simp [first]

theorem begun_of_run {n : Fin 16} {r : Run} {c : Channel} (h : r.state = .running ∨ r.state = .held) (begun : r.begun = true) :
    c.begun n r = c.reachPin := by
  refine if_neg ?_
  rcases h with h | h <;> simp [h, begun]

/-- Settles O3: the work left, the first event due, the next microsecond, in this order. -/
theorem anEmptyQueueLetsTimeGoOn : Obligations.AnEmptyQueueLetsTimeGoOn := by
  intro s empty
  have step_eq : step s = .next (idle s) := by
    unfold step
    rw [empty]
  refine ⟨fun w rest work => by rw [step_eq, idle_of_work work], fun work => ⟨fun before c behind events due none => ?_, fun none => ?_⟩⟩
  · rw [step_eq, idle_of_due work (nextDue_of events due none), exec_of_due due]
  have due := nextDue_of_none none
  rw [step_eq, idle_of_none work due]
  refine ⟨fun running => ?_, fun stopped => ?_⟩
  · rw [exec_runMicrosecond [] running work due, nextMicro_of_running [] running]
  · rw [nextMicro_of_not_running [] stopped]
    have rest := beginMicro_rest s
    have input := fun k => beginMicro_input k s
    have chan := fun n => beginMicro_chan n s
    generalize beginMicro s = t at rest input chan
    refine ⟨t, rfl, (congrArg State.uptime rest :), (congrArg State.trace rest :), (congrArg (fun u : State => u.cap.log) rest :),
      (congrArg (fun u : State => u.pins.map) rest :), (congrArg (fun u : State => u.pins.routed) rest :), fun k off => ?_, fun k on => ?_,
      fun n => ?_, fun out n => ?_, fun held begun n => ?_, (congrArg State.sup rest :), (congrArg State.run rest :),
      (congrArg State.rot rest :), (congrArg State.faults rest :), (congrArg State.ntc rest :), (congrArg State.link rest :)⟩
    · rw [input, if_neg (Bool.eq_false_iff.mp off)]
    · rw [input, if_pos on]
    · rw [chan]
      unfold Channel.begun
      split <;> exact ⟨rfl, rfl⟩
    · rw [chan, begun_of_rest (.inl ⟨stopped, out⟩)]
      exact ⟨rfl, rfl, rfl⟩
    · rw [chan, begun_of_run (.inr held) begun]
      exact ⟨rfl, rfl, rfl⟩

end Sys2Proof.Machine
end

section
/-! PROOFS. A run microsecond: what it forms, and what its items leave: O9. -/

namespace Sys2Proof.Machine

open Sys2Proof.Safety

variable {s t u v : State} {H P : Fin 16 → Prop} {n : Fin 16}

/-! ### What an item or an event leaves of the run, the lines and the channels -/

/-- From `s` to `t` the run has not ended, or has ended with its lines stopped. -/
def Turned (s t : State) : Prop :=
  ((t.run.state = .ended → s.run.state = .ended) ∧ t.rot.turns = s.rot.turns)
    ∨ (s.inRun = true ∧ t.run.state = .ended ∧ t.rot.turns = stoppedTurns)

/-- What the source of a channel plays stands, but for the run's end. -/
structure Channel.Stands (over' : Prop) (c d : Channel) : Prop where
  queue : d.queue = c.queue
  idle : c.active = none → d.active = none
  plays : ¬ over' → d.active = c.active ∧ d.state = c.state ∧ d.held = c.held

/-- What an item, an event of a half of the channels in `H` or of a sample slot of those in `P` may do in a run microsecond. -/
structure Shapes (H P : Fin 16 → Prop) (s t : State) : Prop where
  quiet : s.inRun = false → { t.run with work := s.run.work } = s.run
  grows : s.ntc.Grows t.ntc
  run : Turned s t
  value : ∀ n, { t.chan n with
    active := (s.chan n).active, state := (s.chan n).state, held := (s.chan n).held, queue := (s.chan n).queue
    half := (s.chan n).half, line := (s.chan n).line, modifier := (s.chan n).modifier } = s.chan n
  line : ∀ n, ¬ H n ∨ (s.chan n).half = none → (t.chan n).half = (s.chan n).half ∧ (t.chan n).line = (s.chan n).line
  play : ∀ n, ¬ P n ∨ (s.chan n).active = none →
    (s.chan n).Stands (s.run.state ≠ .ended ∧ t.run.state = .ended) (t.chan n)

theorem Turned.refl (s : State) : Turned s s := .inl ⟨id, rfl⟩

theorem inRun_of_work (h : { t.run with work := s.run.work } = s.run) : t.inRun = s.inRun := by
  unfold State.inRun
  rw [show t.run.state = s.run.state from (congrArg Run.state h :)]

theorem Shapes.refl (s : State) : Shapes H P s s :=
  ⟨fun _ => rfl, .refl _, .refl s, fun _ => rfl, fun _ _ => ⟨rfl, rfl⟩, fun _ _ => ⟨rfl, id, fun _ => ⟨rfl, rfl, rfl⟩⟩⟩

theorem Shapes.ended (h : Shapes H P s t) (e : s.run.state = .ended) : t.run.state = .ended :=
  ((congrArg Run.state (h.quiet (inRun_of_ended e)) :) : t.run.state = s.run.state).trans e

theorem Shapes.inRun_of (h : Shapes H P s t) (run : t.inRun = true) : s.inRun = true := by
  by_contra q
  rw [inRun_of_work (h.quiet (Bool.eq_false_iff.mpr q))] at run
  exact q run

theorem Shapes.trans (h : Shapes H P s t) (h' : Shapes H P t u) : Shapes H P s u where
  quiet q := by
    have first := h.quiet q
    have second := h'.quiet ((inRun_of_work first).trans q)
    exact (congrArg (fun r : Run => { r with work := s.run.work }) second).trans first
  grows := h.grows.trans h'.grows
  run := by
    rcases h.run with ⟨over', turns⟩ | ⟨run, over', turns⟩
    · rcases h'.run with ⟨over'', turns'⟩ | ⟨run, ended, stopped⟩
      · exact .inl ⟨over' ∘ over'', turns'.trans turns⟩
      · exact .inr ⟨h.inRun_of run, ended, stopped⟩
    · rcases h'.run with ⟨-, turns'⟩ | ⟨run', -, -⟩
      · exact .inr ⟨run, h'.ended over', turns'.trans turns⟩
      · exact absurd over' (not_ended_of_inRun run')
  value n := by
    have second := congrArg (fun c : Channel => ({ c with
      active := (s.chan n).active, state := (s.chan n).state, held := (s.chan n).held, queue := (s.chan n).queue
      half := (s.chan n).half, line := (s.chan n).line, modifier := (s.chan n).modifier } : Channel)) (h'.value n)
    exact second.trans (h.value n)
  line n hn := by
    have first := h.line n hn
    have second := h'.line n (hn.imp id first.1.trans)
    exact ⟨second.1.trans first.1, second.2.trans first.2⟩
  play n hn := by
    have first := h.play n hn
    have second := h'.play n (hn.imp id first.idle)
    refine ⟨second.queue.trans first.queue, second.idle ∘ first.idle, fun going => ?_⟩
    have early : ¬ (s.run.state ≠ .ended ∧ t.run.state = .ended) := fun ⟨was, ended⟩ => going ⟨was, h'.ended ended⟩
    have late : ¬ (t.run.state ≠ .ended ∧ u.run.state = .ended) := fun ⟨was, ended⟩ =>
      going ⟨fun before => was (h.ended before), ended⟩
    obtain ⟨active, state, held⟩ := first.plays early
    obtain ⟨active', state', held'⟩ := second.plays late
    exact ⟨active'.trans active, state'.trans state, held'.trans held⟩

theorem Works.shapes (h : Works s t) : Shapes H P s t := by
  rcases h.run with goes | ends
  · refine ⟨fun q => by rw [h.quiet q], h.grows, .inl ⟨goes.still_over, goes.turns⟩, fun n => by rw [goes.chan n], fun n _ => ?_,
      fun n _ => ?_⟩
    · rw [goes.chan n]
      exact ⟨rfl, rfl⟩
    · rw [goes.chan n]
      exact ⟨rfl, id, fun _ => ⟨rfl, rfl, rfl⟩⟩
  · refine ⟨fun q => by rw [h.quiet q], h.grows, .inr ⟨ends.before, ends.ended, ends.turns⟩, fun n => by rw [ends.chan n]; rfl,
      fun n _ => ?_, fun n _ => ?_⟩
    · rw [ends.chan n]
      exact ⟨rfl, rfl⟩
    · rw [ends.chan n]
      exact ⟨rfl, fun _ => rfl, fun going => absurd ⟨not_ended_of_inRun ends.before, ends.ended⟩ going⟩

theorem shapes_setWork (l : List WorkItem) (s : State) : Shapes H P s (s.setWork l) :=
  ⟨fun _ => rfl, .refl _, .inl ⟨id, rfl⟩, fun _ => rfl, fun _ _ => ⟨rfl, rfl⟩, fun _ _ => ⟨rfl, id, fun _ => ⟨rfl, rfl, rfl⟩⟩⟩

/-- A half or a sample slot ends: its channel's line, or what its source plays, is changed. -/
theorem shapes_setChan {c : Channel} (value : { c with
      active := (s.chan n).active, state := (s.chan n).state, held := (s.chan n).held, queue := (s.chan n).queue
      half := (s.chan n).half, line := (s.chan n).line, modifier := (s.chan n).modifier } = s.chan n)
    (line : (H n ∧ (s.chan n).half ≠ none) ∨ (c.half = (s.chan n).half ∧ c.line = (s.chan n).line))
    (play : (P n ∧ (s.chan n).active ≠ none)
      ∨ (c.queue = (s.chan n).queue ∧ c.active = (s.chan n).active ∧ c.state = (s.chan n).state ∧ c.held = (s.chan n).held)) :
    Shapes H P s (s.setChan n c) := by
  refine ⟨fun _ => rfl, .refl _, .inl ⟨id, rfl⟩, fun m => ?_, fun m hm => ?_, fun m hm => ?_⟩
  · rw [State.chan_setChan]
    split
    · next e => rw [e]; exact value
    · rfl
  · rw [State.chan_setChan]
    split
    · next e =>
      subst e
      exact line.resolve_left fun ⟨named, turns⟩ => hm.elim (fun none => none named) turns
    · exact ⟨rfl, rfl⟩
  · rw [State.chan_setChan]
    split
    · next e =>
      subst e
      rcases play with ⟨named, busy⟩ | ⟨queue, active, state, held⟩
      · exact absurd hm (not_or.mpr ⟨not_not.mpr named, busy⟩)
      · exact ⟨queue, fun none => active.trans none, fun _ => ⟨active, state, held⟩⟩
    · exact ⟨rfl, id, fun _ => ⟨rfl, rfl, rfl⟩⟩

theorem shapes_offerLine (b : Bool) (n : Fin 16) (s : State) : Shapes H P s (offerLine b n s) := by
  unfold offerLine
  split
  · exact .refl s
  · exact (works_levelChange _ s).shapes

theorem shapes_halfEnd (h : H n) (s : State) : Shapes H P s (halfEnd n s) := by
  unfold halfEnd
  split
  · next due =>
    have turns : (s.chan n).half ≠ none := fun none => by simp [State.halfEndDue, none] at due
    refine Shapes.trans (shapes_setChan ?_ (.inl ⟨h, turns⟩) (.inr ?_)) (shapes_offerLine _ n _)
    all_goals unfold Channel.turned
    · split <;> rfl
    · split <;> exact ⟨rfl, rfl, rfl, rfl⟩
  · exact .refl s

theorem shapes_sampleEnd (h : P n) (s : State) : Shapes H P s (sampleEnd n s) := by
  unfold sampleEnd
  split
  · dsimp only
    split
    · exact .refl s
    · next a active =>
      have busy : (s.chan n).active ≠ none := by rw [active]; exact nofun
      split
      · exact shapes_setChan rfl (.inr ⟨rfl, rfl⟩) (.inl ⟨h, busy⟩)
      · split
        · exact shapes_setChan rfl (.inr ⟨rfl, rfl⟩) (.inl ⟨h, busy⟩)
        · unfold segmentEnd
          split
          · next g rest queue =>
            have taken : Shapes H P s (takeSegment n g rest s) := shapes_setChan rfl (.inr ⟨rfl, rfl⟩) (.inl ⟨h, busy⟩)
            exact taken.trans (works_raiseCause n .taken _).shapes
          · have starved : Shapes H P s (starve n a.sample s) := shapes_setChan rfl (.inr ⟨rfl, rfl⟩) (.inl ⟨h, busy⟩)
            exact (starved.trans (works_raiseCause n .starved _).shapes).trans (works_handStarved _).shapes
  · exact .refl s

theorem Shapes.of_bench (h : t.bench = s.bench) (grows : s.ntc.Grows t.ntc) : Shapes H P s t := by
  have run : t.run = s.run := congrArg (·.1) h
  have rot : t.rot = s.rot := congrArg (·.2.1) h
  have chans : t.chans = s.chans := congrArg (·.2.2) h
  have chan (n : Fin 16) : t.chan n = s.chan n := congrArg (getAt · n) chans
  refine ⟨fun _ => congrArg (fun r : Run => { r with work := s.run.work }) run, grows, .inl ⟨fun e => run ▸ e, by rw [rot]⟩,
    fun n => by rw [chan n], fun n _ => by rw [chan n]; exact ⟨rfl, rfl⟩,
    fun n _ => by rw [chan n]; exact ⟨rfl, id, fun _ => ⟨rfl, rfl, rfl⟩⟩⟩

theorem shapes_workItem (w : WorkItem) (s : State) : Shapes H P s (workItem w s) := by
  by_cases pulses : w = .pulses
  · subst pulses
    exact .of_bench (runPulses_bench s) (grows_runPulses s)
  · exact (works_workItem pulses s).shapes

theorem shapes_takeItem (w : WorkItem) (s : State) : Shapes H P s (takeItem w s) :=
  takeItem_keeps (Shapes H P s) (fun l t h => h.trans (shapes_setWork l t)) (fun w t h => h.trans (shapes_workItem w t)) w s (.refl s)

theorem shapes_namedItem {w : WorkItem} (half : ∀ n, w = .halfEnd n → H n) (slot : ∀ n, w = .sampleEnd n → P n) (s : State) :
    Shapes H P s (namedItem w s) := by
  cases w with
  | pointEnd => exact (works_pointEnd s).shapes
  | sampleEnd n => exact shapes_sampleEnd (slot n rfl) s
  | halfEnd n => exact shapes_halfEnd (half n rfl) s
  | delayEnd k => exact (works_delayEnd k s).shapes
  | widthEnd k => exact (works_widthEnd k [] s).shapes
  | _ => exact shapes_takeItem _ s

theorem shapes_finishWork (s : State) : Shapes H P s (finishWork s) :=
  finishWork_keeps (Shapes H P s) (fun l t h => h.trans (shapes_setWork l t)) (fun w t h => h.trans (shapes_workItem w t)) s (.refl s)

/-- What a run microsecond's work leaves, by the events its order names. -/
theorem shapes_takeWork (order : List WorkItem) (s : State) :
    Shapes (fun n => .halfEnd n ∈ order) (fun n => .sampleEnd n ∈ order) s (takeWork order s) := by
  have named := forEach_keeps (Shapes (fun n => .halfEnd n ∈ order) (fun n => .sampleEnd n ∈ order) s)
    (order.takeWhile (fun w => w != .pause)) namedItem (fun w hw t h => h.trans (shapes_namedItem
      (fun n e => e ▸ (List.takeWhile_subset _ hw)) (fun n e => e ▸ (List.takeWhile_subset _ hw)) t)) s (.refl s)
  unfold takeWork
  dsimp only
  split
  · exact named
  · exact named.trans (shapes_finishWork _)

end Sys2Proof.Machine
end

section
/-! PROOFS. What a run microsecond forms, and the advance of the angle: O9. -/

namespace Sys2Proof.Machine

open Sys2Proof.Safety

variable {s t : State} {n : Fin 16} {k : Fin 32}

/-! ### One channel, one slot -/

/-- A STREAM channel's take at a run microsecond (R56). -/
def Channel.streamTaken (n : Fin 16) (c : Channel) : Channel :=
  match c.active, c.queue with
  | none, g :: rest => { c with active := some g.fresh, queue := rest, state := .playing }
  | none, [] => if c.state = .starved then c else { c with active := none, state := .starved, held := some (c.restSource n) }
  | some _, _ => c

/-- A STREAM channel's play of a run microsecond, `read` its trace memory (R57, R61). -/
def Channel.streamPlayed (n : Fin 16) (read : Nat → Nat) (c : Channel) : Channel :=
  match c.active with
  | some a => { c with active := some (a.play read), source := (a.play read).sample }
  | none => { c with source := c.held.getD (c.restSource n) }

/-- An ANGLE_MAP channel's source value at θ (R70). -/
def Channel.mapped (n : Fin 16) (read : Nat → Nat) (theta : Nat) (c : Channel) : Nat :=
  match c.window theta with
  | some w => read (w.address theta)
  | none => c.restSource n

/-- Channel n with its source of a run microsecond (R51). -/
def Channel.sourced (flushed : List (Fin 16)) (n : Fin 16) (read : Nat → Nat) (theta : Nat) (c : Channel) : Channel :=
  if c.enable then
    match c.mode with
    | .const => { c with source := c.constCode, state := .playing }
    | .stream => (if flushed.contains n then c else c.streamTaken n).streamPlayed n read
    | .angleMap => { c with source := c.mapped n read theta, state := .playing }
  else c

/-- Channel n with its output of a run microsecond (R78, R77). -/
def Channel.put (n : Fin 16) (now : Nat) (c : Channel) : Channel :=
  if c.enable then c.driven n now else { c.atRest n with clamped := false }

/-- Slot with the progress of a run microsecond whose sweep has this size (R122, R128). -/
def Slot.counted (sweep : Nat) (x : Slot) : Slot :=
  match x.record with
  | some r =>
    if x.state = .waiting ∨ (x.state = .active ∧ r.width ≠ 0) then
      { x with progress := x.progress + (match r.measure with | .time => 1 | .angle => sweep) }
    else x
  | none => x

theorem State.setChan_chan_self (s : State) (n : Fin 16) : s.setChan n (s.chan n) = s := by
  unfold State.setChan State.chan
  rw [setAt_getAt]

theorem streamTake_eq (n : Fin 16) (s : State) : streamTake n s = s.setChan n ((s.chan n).streamTaken n) := by
  unfold streamTake Channel.streamTaken
  dsimp only
  rcases ha : (s.chan n).active with _ | a <;> rcases hq : (s.chan n).queue with _ | ⟨g, rest⟩ <;> dsimp only
  · split
    · exact (s.setChan_chan_self n).symm
    · unfold starve
      dsimp only
      rw [hq]
  · rfl
  · exact (s.setChan_chan_self n).symm
  · exact (s.setChan_chan_self n).symm

theorem streamPlay_eq (n : Fin 16) (s : State) : streamPlay n s = s.setChan n ((s.chan n).streamPlayed n s.traceAt) := by
  unfold streamPlay Channel.streamPlayed
  dsimp only
  rcases ha : (s.chan n).active with _ | a <;> dsimp only

theorem formSource_eq (flushed : List (Fin 16)) (n : Fin 16) (s : State) :
    formSource flushed n s = s.setChan n ((s.chan n).sourced flushed n s.traceAt s.theta) := by
  unfold formSource Channel.sourced
  dsimp only
  split
  · cases mode : (s.chan n).mode <;> dsimp only
    · rw [streamPlay_eq]
      split
      · rfl
      · rw [streamTake_eq, State.chan_setChan_same, State.setChan_setChan_same]
        rfl
    · rfl
  · exact (s.setChan_chan_self n).symm

theorem countProgress_eq (k : Fin 32) (s : State) : countProgress k s = s.setSlot k ((s.slot k).counted s.sweepSize) := by
  unfold countProgress Slot.counted Measure.step
  dsimp only
  rcases record : (s.slot k).record with _ | r <;> dsimp only
  · exact (s.setSlot_slot_self k).symm
  · split
    · rfl
    · exact (s.setSlot_slot_self k).symm

/-! ### The whole of a run microsecond's forming -/

/-- Channel n as a run microsecond forms it. -/
def Channel.formed (flushed : List (Fin 16)) (n : Fin 16) (read : Nat → Nat) (theta now : Nat) (c : Channel) : Channel :=
  (c.sourced flushed n read theta).put n now

theorem formSources_chan (flushed : List (Fin 16)) (n : Fin 16) (s : State) :
    (forEach allChannels (formSource flushed) s).chan n = (s.chan n).sourced flushed n s.traceAt s.theta := by
  have whole := forEach_at (fun t : State => (t.chan n, t.traceAt, t.theta))
    (fun x => (x.1.sourced flushed n x.2.1 x.2.2, x.2)) n allChannels (formSource flushed) (mem_allChannels n) nodup_allChannels
    (fun _ _ hj _ => by
      rw [formSource_eq]
      exact Prod.ext (State.chan_setChan_other _ _ _ _ (Ne.symm hj)) rfl)
    (fun _ => by
      rw [formSource_eq]
      exact Prod.ext (State.chan_setChan_same _ _ _) rfl) s
  dsimp only at whole
  exact (Prod.mk.inj whole).1

theorem formOutputs_chan (n : Fin 16) (s : State) : (forEach allChannels formOutput s).chan n = (s.chan n).put n s.uptime := by
  have whole := forEach_at (fun t : State => (t.chan n, t.uptime))
    (fun x => (x.1.put n x.2, x.2)) n allChannels formOutput (mem_allChannels n) nodup_allChannels
    (fun _ _ hj _ => Prod.ext (State.chan_setChan_other _ _ _ _ (Ne.symm hj)) rfl)
    (fun _ => Prod.ext (State.chan_setChan_same _ _ _) rfl) s
  dsimp only at whole
  exact (Prod.mk.inj whole).1

theorem countSlots_slot (k : Fin 32) (s : State) : (forEach allSlots countProgress s).slot k = (s.slot k).counted s.sweepSize := by
  have whole := forEach_at (fun t : State => (t.slot k, t.sweepSize))
    (fun x => (x.1.counted x.2, x.2)) k allSlots countProgress (mem_allSlots k) nodup_allSlots
    (fun _ _ hj _ => by
      rw [countProgress_eq]
      exact Prod.ext (State.slot_setSlot_other _ _ _ _ (Ne.symm hj)) rfl)
    (fun _ => by
      rw [countProgress_eq]
      exact Prod.ext (State.slot_setSlot_same _ _ _) rfl) s
  dsimp only at whole
  exact (Prod.mk.inj whole).1

theorem formSources_rest (flushed : List (Fin 16)) (s : State) (v : Vector Channel 16) :
    { forEach allChannels (formSource flushed) s with chans := v } = { s with chans := v } :=
  forEach_view (fun t : State => { t with chans := v }) allChannels (formSource flushed) (fun n _ t => by rw [formSource_eq]; rfl) s

theorem formOutputs_rest (s : State) (v : Vector Channel 16) :
    { forEach allChannels formOutput s with chans := v } = { s with chans := v } :=
  forEach_view (fun t : State => { t with chans := v }) allChannels formOutput (fun _ _ _ => rfl) s

theorem countSlots_rest (s : State) (v : Vector Slot 32) :
    { forEach allSlots countProgress s with faults := { (forEach allSlots countProgress s).faults with slots := v } } =
      { s with faults := { s.faults with slots := v } } :=
  forEach_view (fun t : State => { t with faults := { t.faults with slots := v } }) allSlots countProgress
    (fun k _ t => by rw [countProgress_eq]; rfl) s

/-- What a run microsecond forms in a unit `b`, as it opens after `old` under an order. -/
structure Opens (order : List WorkItem) (old b m : State) : Prop where
  chan : ∀ n, m.chan n = (b.chan n).formed (flushedFirst order b) n b.traceAt (advance b).theta b.uptime
  slot : ∀ k, m.slot k = (b.slot k).counted (advance b).sweepSize
  rest : ({ m with chans := b.chans, faults := { m.faults with slots := b.faults.slots } } : State) =
    { advance b with run := { b.run.tick with begun := true, work := m.run.work } }
  work : m.run.work = runItems old m

theorem opens_openMicro (order : List WorkItem) (old b : State) : Opens order old b (openMicro order old b) := by
  unfold openMicro
  unfold formMicro
  dsimp only
  have sources_chan (n : Fin 16) := formSources_chan (flushedFirst order b) n (advance b)
  have sources := formSources_rest (flushedFirst order b) (advance b) b.chans
  generalize forEach allChannels (formSource (flushedFirst order b)) (advance b) = x at sources_chan sources ⊢
  have outputs_chan (n : Fin 16) := formOutputs_chan n x
  have outputs := formOutputs_rest x b.chans
  generalize forEach allChannels formOutput x = y at outputs_chan outputs ⊢
  have slots_slot (k : Fin 32) := countSlots_slot k y
  have slots := countSlots_rest y b.faults.slots
  generalize forEach allSlots countProgress y = z at slots_slot slots ⊢
  have before := outputs.trans sources
  refine ⟨fun n => ?_, fun k => ?_, ?_, rfl⟩
  · have same : z.chan n = y.chan n := (congrArg (fun t : State => t.chan n) slots :)
    have now : x.uptime = b.uptime := (congrArg State.uptime sources :)
    exact same.trans (by rw [outputs_chan, sources_chan, now]; rfl)
  · have same : y.slot k = b.slot k := (congrArg (fun t : State => t.slot k) before :)
    have sweep : y.sweepSize = (advance b).sweepSize := (congrArg State.sweepSize before :)
    exact (slots_slot k).trans (by rw [same, sweep])
  · have whole : ({ z with chans := b.chans, faults := { z.faults with slots := b.faults.slots } } : State) = advance b :=
      (congrArg (fun t : State => { t with chans := b.chans }) slots).trans
        (congrArg (fun t : State => { t with faults := { t.faults with slots := b.faults.slots } }) before)
    exact congrArg (fun t : State =>
      { t with run := { t.run with begun := true, work := runItems old { z with run := { z.run with begun := true } } } }) whole

/-! ### The advance of the angle (R1, R6) -/

/-- What the advance leaves of the generator before it turns. -/
def Rotation.fixed (r : Rotation) : Wheel × Vector (List CamEdge) 2 × Option CrankMod × Vector (Option CamMod) 2 × Nat × Nat × Nat :=
  (r.wheel, r.cams, r.crankMod, r.camMods, r.acc, r.cycle, r.prevTheta)

theorem Rotation.played_fixed (r : Rotation) : r.takePoint.playPoint.fixed = r.fixed := by
  have taken : r.takePoint.fixed = r.fixed := by
    unfold Rotation.takePoint
    split <;> rfl
  have played : r.takePoint.playPoint.fixed = r.takePoint.fixed := by
    unfold Rotation.playPoint
    split <;> rfl
  exact played.trans taken

theorem SpeedPoint.speedAt_succ (p : SpeedPoint) (s0 k : Nat) : p.speedAt s0 (k + 1) =
    if k + 1 ≤ p.ramp then ((s0 : Int) + Int.tdiv (((p.target : Int) - s0) * (k + 1)) p.ramp).toNat else p.target := by
  unfold SpeedPoint.speedAt
  by_cases h : k + 1 ≤ p.ramp
  · rw [if_pos ⟨h, Nat.lt_of_lt_of_le (Nat.succ_pos k) h⟩, if_pos h]
    rfl
  · rw [if_neg h, if_neg fun both => h both.1]

theorem Rotation.played_speed (r : Rotation) : r.takePoint.playPoint.speed = nextSpeed r := by
  unfold nextSpeed nextPoint Rotation.takePoint Rotation.playPoint
  rcases active : r.active with _ | a <;> rcases queue : r.queue with _ | ⟨p, rest⟩ <;> dsimp only
  · rw [active]
  · exact SpeedPoint.speedAt_succ p r.speed 0
  · rw [active]
    exact SpeedPoint.speedAt_succ a.point a.s0 a.k
  · rw [active]
    exact SpeedPoint.speedAt_succ a.point a.s0 a.k

theorem nextSpeed_le {r : Rotation} (h : r.Ranges) : nextSpeed r ≤ 192000 := by
  rw [← Rotation.played_speed]
  obtain ⟨-, -, speed, -⟩ := Rotation.playPoint_ranges (Rotation.takePoint_ranges h)
  exact speed

theorem Rotation.turn_acc {r : Rotation} (acc : r.acc < 5760000000) (speed : r.speed ≤ 192000) :
    r.turn.acc = (r.acc + 3 * r.speed) % 5760000000 ∧
      r.turn.cycle = if r.acc + 3 * r.speed < 5760000000 then r.cycle else (r.cycle + 1) % 65536 := by
  unfold Rotation.turn
  dsimp only
  by_cases short : r.acc + 3 * r.speed < 5760000000
  · have stays : ¬ Config.cycleGrains ≤ r.acc + 3 * r.speed := Nat.not_le.mpr short
    rw [if_neg stays, if_pos short]
    exact ⟨(Nat.mod_eq_of_lt short).symm, rfl⟩
  · have wraps : Config.cycleGrains ≤ r.acc + 3 * r.speed := Nat.not_lt.mp short
    have once : r.acc + 3 * r.speed - 5760000000 = (r.acc + 3 * r.speed) % 5760000000 := by omega
    rw [if_pos wraps, if_neg short]
    exact ⟨once, rfl⟩

theorem Rotation.turn_rest (r : Rotation) :
    r.turn.speed = r.speed ∧ r.turn.prevTheta = r.prevTheta ∧ r.turn.wheel = r.wheel ∧ r.turn.cams = r.cams
      ∧ r.turn.crankMod = r.crankMod ∧ r.turn.camMods = r.camMods := by
  unfold Rotation.turn
  dsimp only
  split <;> exact ⟨rfl, rfl, rfl, rfl, rfl, rfl⟩

/-- The advance of the generator at a run microsecond. -/
theorem Rotation.advance_facts {r : Rotation} (h : r.Ranges) :
    r.advance.acc = (r.acc + 3 * nextSpeed r) % 5760000000
      ∧ r.advance.cycle = (if r.acc + 3 * nextSpeed r < 5760000000 then r.cycle else (r.cycle + 1) % 65536)
      ∧ r.advance.speed = nextSpeed r ∧ r.advance.prevTheta = r.acc / Config.grainsPerCentidegree
      ∧ r.advance.wheel = r.wheel ∧ r.advance.cams = r.cams ∧ r.advance.crankMod = r.crankMod ∧ r.advance.camMods = r.camMods := by
  have speed := ({ r with prevTheta := r.acc / Config.grainsPerCentidegree } : Rotation).played_speed
  have fixed := ({ r with prevTheta := r.acc / Config.grainsPerCentidegree } : Rotation).played_fixed
  unfold Rotation.advance
  generalize ({ r with prevTheta := r.acc / Config.grainsPerCentidegree } : Rotation).takePoint.playPoint = q at speed fixed ⊢
  replace speed : q.speed = nextSpeed r := speed
  obtain ⟨wheel, cams, crank, cam, acc, cycle, prev⟩ := Prod.mk.inj fixed |>.imp id fun e => Prod.mk.inj e |>.imp id fun e =>
    Prod.mk.inj e |>.imp id fun e => Prod.mk.inj e |>.imp id fun e => Prod.mk.inj e |>.imp id Prod.mk.inj
  replace acc : q.acc = r.acc := acc
  obtain ⟨acc', cycle'⟩ := q.turn_acc (acc ▸ h.1) (speed ▸ nextSpeed_le h)
  obtain ⟨speed', prev', wheel', cams', crank', cam'⟩ := q.turn_rest
  rw [acc, speed] at acc' cycle'
  exact ⟨acc', by rw [cycle', show q.cycle = r.cycle from cycle], speed'.trans speed, prev'.trans prev, wheel'.trans wheel,
    cams'.trans cams, crank'.trans crank, cam'.trans cam⟩

/-- θ moves by at most 8 centidegrees in one run microsecond (R1). -/
theorem theta_step {acc speed : Nat} (h : acc < 5760000000) (top : speed ≤ 192000) :
    ((acc + 3 * speed) % 5760000000 / 80000 + 72000 - acc / 80000) % 72000 ≤ 8 := by
  by_cases wraps : 5760000000 ≤ acc + 3 * speed
  · rw [show (acc + 3 * speed) % 5760000000 = acc + 3 * speed - 5760000000 by omega]
    have little : (acc + 3 * speed - 5760000000) / 80000 + 72000 - acc / 80000 ≤ 8 := by omega
    exact (Nat.mod_le _ _).trans little
  · rw [Nat.mod_eq_of_lt (Nat.not_le.mp wraps)]
    have onward : acc / 80000 ≤ (acc + 3 * speed) / 80000 := Nat.div_le_div_right (Nat.le_add_right _ _)
    have little : (acc + 3 * speed) / 80000 - acc / 80000 ≤ 8 := by omega
    rw [show (acc + 3 * speed) / 80000 + 72000 - acc / 80000 = ((acc + 3 * speed) / 80000 - acc / 80000) + 72000 by omega,
      Nat.add_mod_right]
    exact (Nat.mod_le _ _).trans little

theorem getAt_camLines (r : Rotation) (c : Fin 2) :
    getAt r.withLines.camLines c = camLevel (getAt r.cams c) (getAt r.camMods c) (r.acc / Config.grainsPerCentidegree) := by
  unfold Rotation.withLines
  dsimp only
  rw [getAt_setAt]
  split
  · next e => rw [e]
  · next h =>
    obtain rfl : c = 0 := by omega
    rw [getAt_setAt_same]

/-- A run microsecond is what it forms, then its work. -/
theorem exec_runMicrosecond_opens (order : List WorkItem) (running : s.run.state = .running) (work : s.run.work = [])
    (due : nextDue s = none) :
    ∃ m, Opens order s (beginMicro s) m ∧ exec (.runMicrosecond order) s = .next (takeWork order m) :=
  ⟨_, opens_openMicro order s (beginMicro s), exec_runMicrosecond order running work due⟩

/-- What a run microsecond forms outside the channels, the inputs and the slots, from the unit before it. -/
theorem Opens.formed {order : List WorkItem} {m : State} (h : Opens order s (beginMicro s) m) :
    ({ m with
      chans := s.chans
      cap := { m.cap with inputs := s.cap.inputs }
      faults := { m.faults with slots := s.faults.slots } } : State) =
      { advance (nextUptime s) with run := { s.run.tick with begun := true, work := m.run.work } } := by
  have rest := h.rest
  have begun := beginMicro_rest s
  generalize beginMicro s = b at rest begun
  have first := congrArg (fun t : State => ({ t with
    chans := s.chans
    cap := { t.cap with inputs := s.cap.inputs }
    faults := { t.faults with slots := s.faults.slots } } : State)) rest
  have second := congrArg (fun t : State => ({ advance t with
    run := { t.run.tick with begun := true, work := m.run.work }
    faults := { t.faults with slots := s.faults.slots } } : State)) begun
  exact first.trans second

/-- Settles O9: what the microsecond forms is calm under its work, and the run's end alone stops the lines. -/
theorem runMicrosecondAdvancesTheAngle : Obligations.RunMicrosecondAdvancesTheAngle := by
  intro order s law running work due
  obtain ⟨m, opens, exec_eq⟩ := exec_runMicrosecond_opens order running work due
  obtain ⟨ranges, -⟩ := rotationLaw_iff.mp law
  have formed := opens.formed
  have calm := calm_takeWork order m
  have turned := (shapes_takeWork order m).run
  generalize takeWork order m = t at exec_eq calm turned
  have rot : m.rot = s.rot.advance.withLines := (congrArg State.rot formed :)
  have run : { m.run with work := s.run.work } = { s.run.tick with begun := true } :=
    (congrArg (fun u : State => { u.run with work := s.run.work }) formed :)
  obtain ⟨acc, cycle, speed, prev, wheel, cams, crank, cam⟩ := Rotation.advance_facts ranges
  have running' : m.run.state ≠ .ended := by
    rw [show m.run.state = s.run.state from (congrArg Run.state run :), running]
    exact nofun
  have acc' : t.rot.acc = s.rot.advance.acc := calm.acc.trans (congrArg Rotation.acc rot :)
  have theta : t.theta = s.rot.advance.acc / Config.grainsPerCentidegree := congrArg (· / Config.grainsPerCentidegree) acc'
  refine ⟨t, exec_eq, calm.uptime.trans (congrArg State.uptime formed :), calm.clock.trans (congrArg Run.clock run :),
    acc'.trans acc, (calm.cycle.trans (congrArg Rotation.cycle rot :)).trans cycle,
    (calm.prevTheta.trans (congrArg Rotation.prevTheta rot :)).trans prev, ?_,
    (State.still_trace calm.still).trans (congrArg State.trace formed :), calm.runConfig.trans (congrArg Run.config run :),
    calm.inMicro.trans (congrArg Run.inMicro run :), calm.routed.trans (congrArg (fun u : State => u.pins.routed) formed :),
    fun going => ?_, fun ended => ?_⟩
  · rw [theta, acc]
    exact theta_step ranges.1 (nextSpeed_le ranges)
  · obtain ⟨-, turns⟩ | ⟨-, over', -⟩ := turned
    · obtain ⟨speed', lines⟩ := Prod.mk.inj turns
      obtain ⟨crank', cams'⟩ := Prod.mk.inj lines
      refine ⟨(speed'.trans (congrArg Rotation.speed rot :)).trans speed, (crank'.trans (congrArg Rotation.crankLine rot :)).trans ?_,
        fun c => ?_⟩
      · rw [theta, ← wheel, ← crank]
        rfl
      · rw [cams', rot, getAt_camLines, theta, cams, cam]
    · exact absurd over' going
  · obtain ⟨still, -⟩ | ⟨-, -, stopped⟩ := turned
    · exact absurd (still ended) running'
    · obtain ⟨speed', lines⟩ := Prod.mk.inj stopped
      exact ⟨speed', (Prod.mk.inj lines).1⟩

end Sys2Proof.Machine
end

section
/-! PROOFS. An item of a run microsecond is taken once: O50. -/

namespace Sys2Proof.Machine

open Sys2Proof.Safety

variable {s t u : State} {n : Fin 16} {k : Fin 32} {w : WorkItem} {order : List WorkItem}

/-! ### Every item is taken -/

/-- An item or an event of a run microsecond itself. -/
def passItem (w : WorkItem) (s : State) : State :=
  match w with
  | .pointEnd => pointEnd s
  | .sampleEnd n => sampleEnd n s
  | .halfEnd n => halfEnd n s
  | .delayEnd k => delayEnd k s
  | .widthEnd k => widthEnd k [] s
  | .pulses | .change _ | .channelNotice _ | .guardNotice _ | .speedDrain | .guardTrip _ | .underrun _
  | .slot _ | .runControl | .release | .flush _ | .pause => workItem w s

theorem namedItem_cases (w : WorkItem) (s : State) :
    (namedItem w s = takeItem w s ∧ ∀ t, workItem w t = passItem w t) ∨ (namedItem w s = passItem w s ∧ ∀ t, workItem w t = t) := by
  cases w with
  | pointEnd | sampleEnd | halfEnd | delayEnd | widthEnd => exact .inr ⟨rfl, fun _ => rfl⟩
  | _ => exact .inl ⟨rfl, fun _ => rfl⟩

theorem workItem_cases (w : WorkItem) (s : State) : workItem w s = passItem w s ∨ workItem w s = s :=
  (namedItem_cases w s).imp (fun h => h.2 s) (fun h => h.2 s)

/-- The items left of a run microsecond and the pulse timers. -/
def State.beat (s : State) : List WorkItem × Vector (Option Nat) 4 := (s.run.work, s.ntc.timers)

theorem Works.beat (h : Works s t) : t.beat = s.beat := Prod.ext h.work h.timers

theorem sampleEnd_beat (n : Fin 16) (s : State) : (sampleEnd n s).beat = s.beat := by
  unfold sampleEnd
  split
  · dsimp only
    split
    · rfl
    · next a _ =>
      split
      · rfl
      · split
        · rfl
        · unfold segmentEnd
          split
          · exact (works_raiseCause n .taken _).beat
          · exact ((works_raiseCause n .starved (starve n a.sample s)).trans (works_handStarved _)).beat
  · rfl

theorem halfEnd_beat (n : Fin 16) (s : State) : (halfEnd n s).beat = s.beat := by
  unfold halfEnd
  split
  · unfold offerLine
    split
    · rfl
    · exact (works_levelChange _ _).beat
  · rfl

theorem works_passItem (pulses : w ≠ .pulses) (sample : ∀ n, w ≠ .sampleEnd n) (half : ∀ n, w ≠ .halfEnd n) (s : State) :
    Works s (passItem w s) := by
  cases w with
  | pointEnd => exact works_pointEnd s
  | sampleEnd n => exact absurd rfl (sample n)
  | halfEnd n => exact absurd rfl (half n)
  | delayEnd k => exact works_delayEnd k s
  | widthEnd k => exact works_widthEnd k [] s
  | _ => exact works_workItem pulses s

theorem passItem_beat (h : w ≠ .pulses) (s : State) : (passItem w s).beat = s.beat := by
  by_cases sample : ∃ n, w = .sampleEnd n
  · obtain ⟨n, rfl⟩ := sample
    exact sampleEnd_beat n s
  · by_cases half : ∃ n, w = .halfEnd n
    · obtain ⟨n, rfl⟩ := half
      exact halfEnd_beat n s
    · exact (works_passItem h (fun n e => sample ⟨n, e⟩) (fun n e => half ⟨n, e⟩) s).beat

theorem passItem_work (w : WorkItem) (s : State) : (passItem w s).run.work = s.run.work := by
  by_cases pulses : w = .pulses
  · subst pulses
    exact congrArg (·.1.work) (runPulses_bench s)
  · exact congrArg Prod.fst (passItem_beat pulses s)

theorem calm_passItem (w : WorkItem) (s : State) : Calm s (passItem w s) := by
  rcases namedItem_cases w s with ⟨-, e⟩ | ⟨e, -⟩
  · rw [← e s]
    exact calm_workItem w s
  · rw [← e]
    exact calm_namedItem w s

theorem takeWork_of_whole (whole : .pause ∉ order) (s : State) : takeWork order s = finishWork (forEach order namedItem s) := by
  have all : order.takeWhile (fun w => w != .pause) = order :=
    List.takeWhile_eq_self_iff.mpr fun w hw => bne_iff_ne.mpr fun e => whole (e ▸ hw)
  unfold takeWork
  rw [all]
  exact if_neg (by simpa using whole)

/-- A loop that takes `w` leads from what holds until then to what its taking gives. -/
theorem forEach_once {α : Type} {f : α → State → State} {A B : State → Prop} {w : α} {xs : List α}
    (other : ∀ v ∈ xs, v ≠ w → ∀ t, A t → A (f v t)) (own : ∀ t, A t → B (f w t)) (stays : ∀ v ∈ xs, ∀ t, B t → B (f v t))
    (mem : w ∈ xs) (h : A s) : B (forEach xs f s) := by
  induction xs generalizing s with
  | nil => cases mem
  | cons x xs ih =>
    rw [forEach_cons]
    by_cases this : x = w
    · subst this
      exact forEach_keeps B xs f (fun v hv t => stays v (List.mem_cons_of_mem x hv) t) _ (own s h)
    · exact ih (fun v hv => other v (List.mem_cons_of_mem x hv)) (fun v hv => stays v (List.mem_cons_of_mem x hv))
        ((List.mem_cons.mp mem).resolve_left (Ne.symm this)) (other x List.mem_cons_self this s h)

/-- What the items and events keep, an item in its turn keeps. -/
theorem workItem_keeps {P : State → Prop} {v : WorkItem} {t : State} (h : P t → P (passItem v t)) (ht : P t) : P (workItem v t) := by
  rcases workItem_cases v t with e | e <;> rw [e]
  · exact h ht
  · exact ht

/-- An item of a run microsecond that is not paused is taken once, by name or in its turn: what holds until then leads to what
its taking gives. -/
theorem takeWork_once {A B : State → Prop} (other : ∀ v t, v ≠ w → A t → A (passItem v t)) (own : ∀ t, A t → B (passItem w t))
    (stays : ∀ v t, B t → B (passItem v t)) (whole : .pause ∉ order) (item : ∀ t, workItem w t = passItem w t)
    (setA : ∀ l t, A t → A (t.setWork l)) (setB : ∀ l t, B t → B (t.setWork l)) (mem : w ∈ s.run.work) (h : A s) :
    B (takeWork order s) := by
  have named := forEach_keeps (fun t => A t ∧ w ∈ t.run.work ∨ B t) order namedItem (fun v _ t ht => ?_) s (.inl ⟨h, mem⟩)
  · rw [takeWork_of_whole whole]
    unfold finishWork
    have stays' : ∀ v ∈ (forEach order namedItem s).run.work, ∀ t, B t → B (workItem v t) := fun v _ t => workItem_keeps (stays v t)
    rcases named with ⟨before, left⟩ | taken
    · exact forEach_once (fun v _ hv t => workItem_keeps (other v t hv)) (fun t ht => item t ▸ own t ht) stays' left (setA _ _ before)
    · exact forEach_keeps B _ workItem stays' _ (setB _ _ taken)
  · rcases namedItem_cases v t with ⟨e, this⟩ | ⟨e, this⟩ <;> rw [e]
    · unfold takeItem
      rcases ht with ⟨before, left⟩ | taken
      · by_cases same : v = w
        · subst same
          rw [if_pos (by simpa using left), this]
          exact .inr (own _ (setA _ _ before))
        · split
          · rw [this]
            refine .inl ⟨other v _ same (setA _ _ before), ?_⟩
            rw [passItem_work]
            exact (List.mem_erase_of_ne (Ne.symm same)).mpr left
          · exact .inl ⟨before, left⟩
      · split
        · rw [this]
          exact .inr (stays v _ (setB _ _ taken))
        · exact .inr taken
    · rcases ht with ⟨before, left⟩ | taken
      · by_cases same : v = w
        · subst same
          exact .inr (own t before)
        · exact .inl ⟨other v t same before, (passItem_work v t).symm ▸ left⟩
      · exact .inr (stays v t taken)

/-! ### The pulses of a run microsecond (R182) -/

/-- The pulse timer of line l after the pulses of a run microsecond. -/
def State.pulsed (s : State) (l : Fin 4) : Option Nat :=
  if s.sweeps (getAt s.ntc.routes l) || (s.rot.cycleEvent && getAt s.ntc.routes l == .cyclePulse) then some (s.uptime + 9)
  else getAt s.ntc.timers l

theorem runPulses_timer (s : State) (l : Fin 4) : getAt (runPulses s).ntc.timers l = s.pulsed l := by
  unfold State.pulsed
  rw [runPulses_eq]
  have first := pulseEvent_timer s.sweeps s l
  have rest := pulseEvent_rest s.sweeps s
  generalize pulseEvent s.sweeps s = v at first rest ⊢
  have cycle : v.rot.cycleEvent = s.rot.cycleEvent := (congrArg (fun t : State => t.rot.cycleEvent) rest :)
  have routes : v.ntc.routes = s.ntc.routes := (congrArg (fun t : State => t.ntc.routes) rest :)
  have uptime : v.uptime = s.uptime := (congrArg State.uptime rest :)
  rw [cycle]
  cases s.rot.cycleEvent
  · simpa using first
  · rw [if_pos rfl, pulseEvent_timer, first, routes, uptime]
    cases s.sweeps (getAt s.ntc.routes l) <;> cases getAt s.ntc.routes l == .cyclePulse <;> rfl

theorem sweeps_of_calm {m : State} (h : Calm m t) (r : Route) : t.sweeps r = m.sweeps r := by
  have theta : t.theta = m.theta := congrArg (· / Config.grainsPerCentidegree) h.acc
  cases r with
  | angleMark x =>
    unfold State.sweeps State.hit State.sweepSize
    rw [theta, h.prevTheta]
  | _ => rfl

theorem pulsed_of_calm {m : State} (h : Calm m t) {l : Fin 4}
    (e : getAt t.ntc.timers l = getAt m.ntc.timers l ∨ getAt t.ntc.timers l = m.pulsed l) : t.pulsed l = m.pulsed l := by
  unfold State.pulsed at e ⊢
  rw [sweeps_of_calm h, h.routes, h.cycleEvent, h.uptime]
  split
  · rfl
  · next quiet =>
    rw [if_neg quiet] at e
    exact e.elim id id

/-- A run microsecond's work sets the pulse timers of its sweep and of its cycle event, once. -/
theorem takeWork_timers {m : State} (whole : .pause ∉ order) (mem : .pulses ∈ m.run.work) (l : Fin 4) :
    getAt (takeWork order m).ntc.timers l = m.pulsed l := by
  refine (takeWork_once (w := .pulses) (A := fun t => Calm m t ∧ t.ntc.timers = m.ntc.timers)
    (B := fun t => Calm m t ∧ getAt t.ntc.timers l = m.pulsed l) (fun v t hv ⟨calm, kept⟩ => ?_) (fun t ⟨calm, kept⟩ => ?_)
    (fun v t ⟨calm, set⟩ => ?_) whole (fun _ => rfl) (fun l t ⟨calm, kept⟩ => ⟨calm.trans (calm_setWork l t), kept⟩)
    (fun l t ⟨calm, set⟩ => ⟨calm.trans (calm_setWork l t), set⟩) mem ⟨.refl m, rfl⟩).2
  · exact ⟨calm.trans (calm_passItem v t), (congrArg Prod.snd (passItem_beat hv t)).trans kept⟩
  · exact ⟨calm.trans (calm_passItem .pulses t), (runPulses_timer t l).trans (pulsed_of_calm calm (.inl (by rw [kept])))⟩
  · refine ⟨calm.trans (calm_passItem v t), ?_⟩
    by_cases pulses : v = .pulses
    · subst pulses
      exact (runPulses_timer t l).trans (pulsed_of_calm calm (.inr set))
    · exact (congrArg (getAt · l) (congrArg Prod.snd (passItem_beat pulses t))).trans set

/-- The sweep of a run microsecond reaches the angles it passes (R3). -/
theorem reached_iff {a x : Nat} (ha : a < 72000) (hx : x < 72000) (d : Nat) (hd : d < 72000) :
    (1 ≤ (a + 72000 - x) % 72000 ∧ (a + 72000 - x) % 72000 ≤ d) ↔ ∃ i, 1 ≤ i ∧ i ≤ d ∧ a = (x + i) % 72000 := by
  constructor
  · rintro ⟨low, high⟩
    exact ⟨_, low, high, by omega⟩
  · rintro ⟨i, low, high, rfl⟩
    have : ((x + i) % 72000 + 72000 - x) % 72000 = i := by omega
    omega

theorem Rotation.turn_cycleEvent (r : Rotation) : r.turn.cycleEvent = true ↔ 5760000000 ≤ r.acc + 3 * r.speed := by
  unfold Rotation.turn
  dsimp only
  split
  · next wraps => exact iff_of_true rfl wraps
  · next stays => exact iff_of_false nofun stays

theorem Rotation.advance_cycleEvent (r : Rotation) :
    r.advance.withLines.cycleEvent = true ↔ 5760000000 ≤ r.acc + 3 * nextSpeed r := by
  have speed := ({ r with prevTheta := r.acc / Config.grainsPerCentidegree } : Rotation).played_speed
  have fixed := ({ r with prevTheta := r.acc / Config.grainsPerCentidegree } : Rotation).played_fixed
  show ({ r with prevTheta := r.acc / Config.grainsPerCentidegree } : Rotation).takePoint.playPoint.turn.cycleEvent = true ↔ _
  generalize ({ r with prevTheta := r.acc / Config.grainsPerCentidegree } : Rotation).takePoint.playPoint = q at speed fixed ⊢
  have acc : q.acc = r.acc := congrArg (·.2.2.2.2.1) fixed
  rw [Rotation.turn_cycleEvent, acc, show q.speed = nextSpeed r from speed]

theorem pulses_mem (a b : State) : .pulses ∈ runItems a b := by
  unfold runItems
  simp only [List.mem_append, List.mem_singleton, true_or]

/-- The pulse timers after a run microsecond that is not paused. -/
theorem runMicrosecond_timers (whole : .pause ∉ order) (law : RotationLaw s) (running : s.run.state = .running)
    (work : s.run.work = []) (due : nextDue s = none) :
    ∃ t, exec (.runMicrosecond order) s = .next t ∧ ∀ l,
      (∀ a, getAt s.ntc.routes l = .angleMark a → getAt t.ntc.timers l =
        if 1 ≤ (a + 72000 - s.theta) % 72000 ∧ (a + 72000 - s.theta) % 72000 ≤ (t.theta + 72000 - s.theta) % 72000
        then some (s.uptime + 10) else getAt s.ntc.timers l)
      ∧ (getAt s.ntc.routes l = .cyclePulse → getAt t.ntc.timers l =
        if 5760000000 ≤ s.rot.acc + 3 * nextSpeed s.rot then some (s.uptime + 10) else getAt s.ntc.timers l)
      ∧ ((∀ a, getAt s.ntc.routes l ≠ .angleMark a) → getAt s.ntc.routes l ≠ .cyclePulse →
          getAt t.ntc.timers l = getAt s.ntc.timers l) := by
  obtain ⟨m, opens, exec_eq⟩ := exec_runMicrosecond_opens order running work due
  have formed := opens.formed
  have timers := takeWork_timers whole (opens.work ▸ pulses_mem _ _)
  have calm := calm_takeWork order m
  generalize takeWork order m = t at exec_eq timers calm
  have rot : m.rot = s.rot.advance.withLines := (congrArg State.rot formed :)
  have uptime : m.uptime = s.uptime + 1 := (congrArg State.uptime formed :)
  have routes : m.ntc.routes = s.ntc.routes := (congrArg (fun u : State => u.ntc.routes) formed :)
  have kept : m.ntc.timers = s.ntc.timers := (congrArg (fun u : State => u.ntc.timers) formed :)
  have theta : t.theta = m.theta := congrArg (· / Config.grainsPerCentidegree) calm.acc
  have before : m.rot.prevTheta = s.theta := by
    obtain ⟨-, -, -, prev, -⟩ := Rotation.advance_facts (rotationLaw_iff.mp law).1
    exact (congrArg Rotation.prevTheta rot :).trans prev
  refine ⟨t, exec_eq, fun l => ?_⟩
  rw [timers l, theta, ← routes, ← kept]
  unfold State.pulsed
  refine ⟨fun a route => ?_, fun route => ?_, fun mark cycle => ?_⟩
  · have sweeps : m.sweeps (.angleMark a) = (decide (1 ≤ (a + 72000 - s.theta) % 72000)
        && decide ((a + 72000 - s.theta) % 72000 ≤ (m.theta + 72000 - s.theta) % 72000)) := by
      rw [← before]
      rfl
    rw [route, sweeps, uptime]
    simp
  · have none : m.sweeps .cyclePulse = false := rfl
    rw [route, none, uptime, rot]
    simp [Rotation.advance_cycleEvent]
  · have none : m.sweeps (getAt m.ntc.routes l) = false := by
      cases route : getAt m.ntc.routes l with
      | angleMark a => exact absurd route (mark a)
      | _ => rfl
    rw [none]
    simp [cycle]

/-! ### The trigger outputs and ATTN (R177, R181, R182) -/

theorem pulseHigh_iff (s : State) (l : Fin 4) : s.pulseHigh l = true ↔ ∃ e, getAt s.ntc.timers l = some e ∧ s.uptime ≤ e := by
  unfold State.pulseHigh
  simp only [Option.any_eq_true_iff_get, decide_eq_true_eq]
  constructor
  · rintro ⟨some, high⟩
    exact ⟨_, (Option.some_get some).symm, high⟩
  · rintro ⟨e, timer, high⟩
    exact ⟨by rw [timer]; rfl, by simpa [timer] using high⟩

theorem NoticeKind.exists_bit {i : Nat} (h : i < 8) : ∃ k : NoticeKind, k.bit = i := by
  let kinds : List NoticeKind := [.run, .channel, .guardTrip, .speed, .captureFill, .captureOverflow, .fault, .supply]
  have all : ∀ i < 8, ∃ k ∈ kinds, k.bit = i := by decide
  obtain ⟨k, -, e⟩ := all i h
  exact ⟨k, e⟩

theorem attnLow_iff (s : State) :
    s.attnLow = true ↔ ∃ k : NoticeKind, s.isPending k = true ∧ s.ntc.enables.getLsbD k.bit = true := by
  unfold State.attnLow State.isPending
  rw [bne_iff_ne]
  constructor
  · intro some
    by_contra none
    refine some (BitVec.eq_of_getLsbD_eq fun i hi => ?_)
    obtain ⟨k, rfl⟩ := NoticeKind.exists_bit hi
    have neither := not_exists.mp none k
    simpa using neither
  · rintro ⟨k, pending, enabled⟩ none
    have bit := congrArg (BitVec.getLsbD · k.bit) none
    simp [pending, enabled] at bit

/-- Settles O50: the pulses of a run microsecond are one of its items, taken once. -/
theorem triggerOutputsAndAttention : Obligations.TriggerOutputsAndAttention := by
  refine ⟨fun order s law running work due whole => ?_, fun s l => ⟨fun now => ?_, fun later => ?_⟩, attnLow_iff⟩
  · obtain ⟨t, exec_eq, timers⟩ := runMicrosecond_timers whole law running work due
    refine ⟨t, exec_eq, fun l => ?_⟩
    obtain ⟨mark, cycle, other⟩ := timers l
    intro swept wraps pulsed kept
    split
    · next a route =>
      intro range
      have theta : s.theta < 72000 := Nat.div_lt_of_lt_mul (by simpa [Config.grainsPerCentidegree] using law.1)
      have reached := reached_iff range theta swept (Nat.mod_lt _ (by decide))
      refine ⟨fun hit => (mark a route).trans (if_pos (reached.mpr hit)), fun miss => (mark a route).trans (if_neg fun h => ?_)⟩
      obtain ⟨i, low, high, e⟩ := reached.mp h
      exact miss i low high e
    · next route => exact ⟨fun h => (cycle route).trans (if_pos h), fun h => (cycle route).trans (if_neg h)⟩
    all_goals next route => exact other (by rw [route]; exact nofun) (by rw [route]; exact nofun)
  · unfold State.trigOut
    rw [decide_eq_false (not_not.mpr now), Bool.false_and]
  · unfold State.trigOut State.routeLevel
    rw [decide_eq_true later, Bool.true_and]
    cases getAt s.ntc.routes l with
    | off => simp
    | runLevel | holdLevel => exact beq_iff_eq
    | slotActive k => exact beq_iff_eq
    | captureMirror k => exact beq_iff_eq
    | startPulse | angleMark | cyclePulse => exact pulseHigh_iff s l

end Sys2Proof.Machine
end

section
/-! PROOFS. The sources and outputs a run microsecond forms: O26, O25. -/

namespace Sys2Proof.Machine

open Sys2Proof.Safety

variable {s t m : State} {n : Fin 16} {w : WorkItem} {order : List WorkItem}

/-! ### One channel -/

/-- The beginning of a microsecond moves a channel's pin and its output alone. -/
theorem Channel.begun_eq (n : Fin 16) (r : Run) (c : Channel) : ∃ e p o h l, c.begun n r =
    { c with pinEnable := e, pinRef := p, output := o, half := h, line := l }
      ∧ (r.state = .running → (r.begun = true → h = c.half ∧ l = c.line) ∧ (r.begun = false → h = none ∧ l = c.restLevel)) := by
  by_cases first : r.begun = true
  · by_cases run : r.state = .running ∨ r.state = .held
    · rw [begun_of_run run first]
      exact ⟨_, _, _, _, _, rfl, fun _ => ⟨fun _ => ⟨rfl, rfl⟩, fun e => by simp [first] at e⟩⟩
    · obtain ⟨running, held⟩ := not_or.mp run
      rw [begun_of_rest (.inl ⟨running, held⟩)]
      exact ⟨_, _, _, _, _, rfl, fun e => absurd e running⟩
  · rw [begun_of_rest (.inr (Bool.eq_false_iff.mpr first))]
    exact ⟨_, _, _, _, _, rfl, fun _ => ⟨fun e => absurd e first, fun _ => ⟨rfl, rfl⟩⟩⟩

/-- The source of a run microsecond moves only what a channel plays. -/
theorem Channel.sourced_eq (fl : List (Fin 16)) (n : Fin 16) (read : Nat → Nat) (theta : Nat) (c : Channel) :
    { c.sourced fl n read theta with
      source := c.source, state := c.state, active := c.active, queue := c.queue, held := c.held } = c := by
  have taken : { c.streamTaken n with
      source := c.source, state := c.state, active := c.active, queue := c.queue, held := c.held } = c := by
    unfold Channel.streamTaken
    split
    · rfl
    · split <;> rfl
    · rfl
  have played (d : Channel) : { d.streamPlayed n read with active := d.active, source := d.source } = d := by
    unfold Channel.streamPlayed
    split <;> rfl
  have whole (d : Channel) (e : { d with
      source := c.source, state := c.state, active := c.active, queue := c.queue, held := c.held } = c) :
      { d.streamPlayed n read with
        source := c.source, state := c.state, active := c.active, queue := c.queue, held := c.held } = c :=
    (congrArg (fun x : Channel => { x with
      source := c.source, state := c.state, active := c.active, queue := c.queue, held := c.held }) (played d)).trans e
  unfold Channel.sourced
  split
  · split
    · rfl
    · split
      · exact whole c rfl
      · exact whole _ taken
    · rfl
  · rfl

/-- The output of a run microsecond moves only what a channel drives. -/
theorem Channel.put_eq (n : Fin 16) (now : Nat) (c : Channel) :
    { c.put n now with output := c.output, clamped := c.clamped, half := c.half, line := c.line } = c := by
  unfold Channel.put Channel.driven
  dsimp only
  split
  · split
    · rfl
    · unfold Channel.pulse
      dsimp only
      split
      · rfl
      · split <;> rfl
  · rfl

theorem grows_passItem (w : WorkItem) (s : State) : s.ntc.Grows (passItem w s).ntc := by
  rcases namedItem_cases w s with ⟨-, e⟩ | ⟨e, -⟩
  · rw [← e s]
    exact (shapes_workItem (H := fun _ => True) (P := fun _ => True) w s).grows
  · rw [← e]
    exact (shapes_namedItem (H := fun _ => True) (P := fun _ => True) (fun _ _ => trivial) (fun _ _ => trivial) s).grows

theorem isPending_passItem {j : NoticeKind} (w : WorkItem) (h : s.isPending j = true) : (passItem w s).isPending j = true :=
  (grows_passItem w s).pending j.bit h

/-- A GUARD notice among the items is raised, with its channel. -/
theorem takeWork_guardNotice (whole : .pause ∉ order) (mem : .guardNotice n ∈ s.run.work) :
    (takeWork order s).isPending .guardTrip = true ∧ (takeWork order s).ntc.guardMask.getLsbD n.val = true :=
  takeWork_once (w := .guardNotice n) (A := fun _ => True)
    (B := fun t => t.isPending .guardTrip = true ∧ t.ntc.guardMask.getLsbD n.val = true) (fun _ _ _ _ => trivial)
    (fun t _ => ⟨isPending_raise_self _ t, by simp [passItem, workItem, raiseGuard]⟩)
    (fun v t ⟨pending, mask⟩ => ⟨isPending_passItem v pending, (grows_passItem v t).guardMask _ mask⟩) whole (fun _ => rfl)
    (fun _ _ _ => trivial) (fun _ _ h => h) mem trivial

/-- A CHANNEL notice among the items is raised, with its channel. -/
theorem takeWork_channelNotice (whole : .pause ∉ order) (mem : .channelNotice n ∈ s.run.work) :
    (takeWork order s).isPending .channel = true ∧ (takeWork order s).ntc.channelMask.getLsbD n.val = true :=
  takeWork_once (w := .channelNotice n) (A := fun _ => True)
    (B := fun t => t.isPending .channel = true ∧ t.ntc.channelMask.getLsbD n.val = true) (fun _ _ _ _ => trivial)
    (fun t _ => ⟨isPending_raise_self _ t, by simp [passItem, workItem, raiseChannel]⟩)
    (fun v t ⟨pending, mask⟩ => ⟨isPending_passItem v pending, (grows_passItem v t).channelMask _ mask⟩) whole (fun _ => rfl)
    (fun _ _ _ => trivial) (fun _ _ h => h) mem trivial

/-! ### The output of an enabled channel (R78, R83, R87, R88) -/

theorem Channel.modified_eq (c : Channel) : c.modified = afterModifier c.modifier c.source := by
  unfold Channel.modified afterModifier
  cases c.modifier with
  | none => rfl
  | some m => cases m <;> rfl

theorem Channel.put_of_enable {c : Channel} (h : c.enable = true) (n : Fin 16) (now : Nat) : c.put n now =
    if n.val < 12 then { c with output := c.guarded c.modified, clamped := c.outside c.modified }
    else { c with output := c.guarded c.modified, clamped := c.outside c.modified }.pulse now := if_pos h

theorem Channel.put_of_disabled {c : Channel} (h : c.enable = false) (n : Fin 16) (now : Nat) :
    c.put n now = { c.atRest n with clamped := false } := if_neg (Bool.eq_false_iff.mp h)

theorem Channel.pulse_output (c : Channel) (now : Nat) : { c.pulse now with half := c.half, line := c.line } = c := by
  unfold Channel.pulse
  split
  · rfl
  · split <;> rfl

theorem Channel.put_value {c : Channel} (h : c.enable = true) (n : Fin 16) (now : Nat) :
    (c.put n now).output = c.guarded c.modified ∧ (c.put n now).clamped = c.outside c.modified := by
  rw [Channel.put_of_enable h]
  split
  · exact ⟨rfl, rfl⟩
  · have same := Channel.pulse_output { c with output := c.guarded c.modified, clamped := c.outside c.modified } now
    exact ⟨(congrArg Channel.output same :), (congrArg Channel.clamped same :)⟩

theorem Channel.pulse_of_zero {c : Channel} (h : c.output = 0) (now : Nat) : c.pulse now = { c with half := none, line := c.restLevel } :=
  if_pos h

theorem Channel.pulse_of_idle {c : Channel} (h : c.output ≠ 0) (idle : c.half = none) (now : Nat) :
    c.pulse now = { c with half := some { period := c.output, since := now }, line := c.restLevel } := by
  unfold Channel.pulse
  rw [if_neg h, idle]

theorem Channel.pulse_of_half {c : Channel} (h : c.output ≠ 0) {x : Half} (half : c.half = some x) (now : Nat) : c.pulse now = c := by
  unfold Channel.pulse
  rw [if_neg h, half]

/-- The pulse generator of an enabled pulse channel at a run microsecond. -/
theorem Channel.put_line {c : Channel} (h : c.enable = true) (pulse : 12 ≤ n.val) (now : Nat) :
    ((c.put n now).output = 0 → (c.put n now).half = none ∧ (c.put n now).line = c.restLevel)
      ∧ ((c.put n now).output ≠ 0 → c.half = none →
          (c.put n now).half = some { period := (c.put n now).output, since := now } ∧ (c.put n now).line = c.restLevel)
      ∧ ((c.put n now).output ≠ 0 → ∀ x, c.half = some x → (c.put n now).half = some x ∧ (c.put n now).line = c.line) := by
  rw [(Channel.put_value h n now).1, Channel.put_of_enable h, if_neg (Nat.not_lt.mpr pulse)]
  generalize e : ({ c with output := c.guarded c.modified, clamped := c.outside c.modified } : Channel) = x
  have output : x.output = c.guarded c.modified := e ▸ rfl
  have half : x.half = c.half := e ▸ rfl
  have line : x.line = c.line := e ▸ rfl
  have rest : x.restLevel = c.restLevel := e ▸ rfl
  rw [← output, ← half, ← line, ← rest]
  refine ⟨fun zero => ?_, fun some idle => ?_, fun some y running => ?_⟩
  · rw [Channel.pulse_of_zero zero]
    exact ⟨rfl, rfl⟩
  · rw [Channel.pulse_of_idle some idle]
    exact ⟨rfl, rfl⟩
  · rw [Channel.pulse_of_half some running]
    exact ⟨running, rfl⟩

theorem Channel.guarded_eq (c : Channel) (v : Int) : c.guarded v = (min (max v c.gmin) c.gmax).toNat := rfl

theorem Channel.guarded_between {c : Channel} (h : c.gmin ≤ c.gmax) (v : Int) : c.gmin ≤ c.guarded v ∧ c.guarded v ≤ c.gmax := by
  unfold Channel.guarded
  omega

theorem Channel.outside_iff (c : Channel) (v : Int) : c.outside v = true ↔ v < c.gmin ∨ (c.gmax : Int) < v := by
  simp [Channel.outside]

/-! ### The items of a run microsecond in their standing order (log entry 3) -/

/-- An item that moves nothing of the run. -/
def mildItem : WorkItem → Bool
  | .pulses | .change _ | .channelNotice _ | .guardNotice _ => true
  | _ => false

theorem setAligned_run (p : Fin 24) (timeout : Bool) (s : State) : (setAligned p timeout s).run = s.run := by
  unfold setAligned
  split <;> rfl

theorem levelChange_run (src : LineSource) (s : State) : (levelChange src s).run = s.run := by
  refine forEach_view (fun t => t.run) _ _ (fun p _ t => ?_) s
  unfold offerChange
  split
  · exact setAligned_run p false t
  · rfl

theorem workItem_of_mild (h : mildItem w = true) (s : State) : (workItem w s).run = s.run := by
  cases w with
  | pulses => exact congrArg (·.1) (runPulses_bench s)
  | change src => exact levelChange_run src s
  | channelNotice | guardNotice => rfl
  | _ => cases h

theorem forEach_mild {ws : List WorkItem} (h : ∀ w ∈ ws, mildItem w = true) (s : State) : (forEach ws workItem s).run = s.run :=
  forEach_view (fun t => t.run) ws workItem (fun w hw t => workItem_of_mild (h w hw) t) s

/-- The level changes among a run microsecond's items. -/
def changeItems (a b : State) : List WorkItem :=
  (if a.rot.crankLine = b.rot.crankLine then [] else [.change .crank])
    ++ ([0, 1] : List (Fin 2)).flatMap
        (fun c => if getAt a.rot.camLines c = getAt b.rot.camLines c then [] else [.change (.cam c)])
    ++ pulseChannels.flatMap (fun n => if (a.chan n).line = (b.chan n).line then [] else [.change (.channel n)])

/-- The CHANNEL causes among them. -/
def causeItems (a b : State) : List WorkItem :=
  allChannels.flatMap (fun n => if (a.chan n).causes (b.chan n) then [.channelNotice n] else [])

/-- The UNDERRUN items among them. -/
def underrunItems (a b : State) : List WorkItem :=
  allChannels.flatMap (fun n => if (a.chan n).state ≠ .starved ∧ (b.chan n).state = .starved then [.underrun n] else [])

/-- The empty profile at run microsecond 1. -/
def drainItems (a b : State) : List WorkItem := if !a.run.begun && b.profileEmpty then [.speedDrain] else []

/-- The GUARD notices among them. -/
def guardItems (b : State) : List WorkItem := allChannels.flatMap (fun n => if (b.chan n).guards then [.guardNotice n] else [])

/-- The items that hand on values outside a STRICT guard. -/
def tripItems (b : State) : List WorkItem := allChannels.flatMap (fun n => if (b.chan n).trips then [.guardTrip n] else [])

/-- The slots whose trigger has come. -/
def slotItems (b : State) : List WorkItem := allSlots.flatMap (fun k => if b.triggered k then [.slot k] else [])

theorem runItems_eq (a b : State) : runItems a b =
    .pulses :: (changeItems a b ++ (causeItems a b ++ (underrunItems a b ++ (drainItems a b ++ (guardItems b ++ (tripItems b
      ++ slotItems b)))))) := by
  unfold runItems changeItems causeItems underrunItems drainItems guardItems tripItems slotItems
  simp only [List.append_assoc, List.cons_append, List.nil_append]

/-- The channels among the items are those that satisfy their test. -/
theorem mem_flatMap_ite {α β : Type} {xs : List α} {f : α → β} {c : α → Prop} [DecidablePred c] {y : β} :
    y ∈ xs.flatMap (fun x => if c x then [f x] else []) ↔ ∃ x ∈ xs, c x ∧ y = f x := by
  simp [List.mem_flatMap, List.mem_ite_nil_right]

theorem changeItems_mem {a b : State} (h : w ∈ changeItems a b) : ∃ src, w = .change src := by
  simp only [changeItems, List.mem_append, List.mem_flatMap, List.mem_ite_nil_left, List.mem_singleton] at h
  rcases h with (⟨-, rfl⟩ | ⟨_, -, -, rfl⟩) | ⟨_, -, -, rfl⟩ <;> exact ⟨_, rfl⟩

theorem causeItems_mem {a b : State} : w ∈ causeItems a b ↔ ∃ n, (a.chan n).causes (b.chan n) = true ∧ w = .channelNotice n := by
  simp only [causeItems, mem_flatMap_ite, mem_allChannels, true_and]

theorem underrunItems_mem {a b : State} :
    w ∈ underrunItems a b ↔ ∃ n, ((a.chan n).state ≠ .starved ∧ (b.chan n).state = .starved) ∧ w = .underrun n := by
  simp only [underrunItems, mem_flatMap_ite, mem_allChannels, true_and]

theorem drainItems_mem {a b : State} (h : w ∈ drainItems a b) : w = .speedDrain :=
  List.mem_singleton.mp (List.mem_ite_nil_right.mp h).2

theorem guardItems_mem {b : State} : w ∈ guardItems b ↔ ∃ n, (b.chan n).guards = true ∧ w = .guardNotice n := by
  simp only [guardItems, mem_flatMap_ite, mem_allChannels, true_and]

theorem tripItems_mem {b : State} : w ∈ tripItems b ↔ ∃ n, (b.chan n).trips = true ∧ w = .guardTrip n := by
  simp only [tripItems, mem_flatMap_ite, mem_allChannels, true_and]

theorem slotItems_mem {b : State} : w ∈ slotItems b ↔ ∃ k, b.triggered k = true ∧ w = .slot k := by
  simp only [slotItems, mem_flatMap_ite, mem_allSlots, true_and]

theorem channelNotice_mem {a b : State} (h : (a.chan n).causes (b.chan n) = true) : .channelNotice n ∈ runItems a b := by
  have mem : .channelNotice n ∈ causeItems a b := causeItems_mem.mpr ⟨n, h, rfl⟩
  simp [runItems_eq, mem]

theorem guardNotice_mem (a : State) {b : State} (h : (b.chan n).guards = true) : .guardNotice n ∈ runItems a b := by
  have mem : .guardNotice n ∈ guardItems b := guardItems_mem.mpr ⟨n, h, rfl⟩
  simp [runItems_eq, mem]

theorem guardTrip_mem (a : State) {b : State} (h : (b.chan n).trips = true) : .guardTrip n ∈ runItems a b := by
  have mem : .guardTrip n ∈ tripItems b := tripItems_mem.mpr ⟨n, h, rfl⟩
  simp [runItems_eq, mem]

theorem slot_mem (a : State) {b : State} {k : Fin 32} (h : b.triggered k = true) : .slot k ∈ runItems a b := by
  have mem : .slot k ∈ slotItems b := slotItems_mem.mpr ⟨k, h, rfl⟩
  simp [runItems_eq, mem]

/-- The items before the entries into STARVED move nothing of the run. -/
theorem forEach_quiet (a b : State) (s : State) :
    (forEach (.pulses :: (changeItems a b ++ causeItems a b)) workItem s).run = s.run :=
  forEach_mild (fun w hw => by
    rcases List.mem_cons.mp hw with rfl | hw
    · rfl
    · rcases List.mem_append.mp hw with hw | hw
      · obtain ⟨src, rfl⟩ := changeItems_mem hw
        rfl
      · obtain ⟨n, -, rfl⟩ := causeItems_mem.mp hw
        rfl) s

/-- A run that ended for a reason in `Q`. -/
def EndedBy (Q : EndReason → Prop) (s : State) : Prop := s.run.state = .ended ∧ Q s.run.endReason

theorem EndedBy.of_run {r : EndReason → Prop} (h : EndedBy r s) (e : t.run = s.run) : EndedBy r t := by
  unfold EndedBy
  rw [e]
  exact h

theorem endedBy_workItem {r : EndReason → Prop} (h : EndedBy r s) (w : WorkItem) : EndedBy r (workItem w s) :=
  h.of_run (workItem_quiet w (inRun_of_ended h.1))

theorem endedBy_forEach {r : EndReason → Prop} (h : EndedBy r s) (ws : List WorkItem) : EndedBy r (forEach ws workItem s) :=
  forEach_keeps (EndedBy r) ws workItem (fun w _ _ ht => endedBy_workItem ht w) s h

/-- UNDERRUN where a run stops on it. -/
theorem handStarved_stop (running : s.run.state = .running) (stop : s.run.config.stopOnUnderrun = true) :
    EndedBy (· = .underrun) (handStarved s) := by
  have ended : EndedBy (· = .underrun) (underrunCause s) := by
    unfold underrunCause runningCause
    rw [if_pos stop, if_pos running]
    exact enterEnded_state _ _
  exact ended.of_run ((works_drainedTest (underrunCause s)).quiet (inRun_of_ended ended.1))

theorem handStarved_ended {r : EndReason → Prop} (h : EndedBy r s) : EndedBy r (handStarved s) :=
  h.of_run ((works_handStarved s).quiet (inRun_of_ended h.1))

/-- A channel that enters STARVED ends a run that stops on it, with nothing else ordered (log entry 16). -/
theorem finishWork_underrun {a : State} (work : m.run.work = runItems a m) (running : m.run.state = .running)
    (stop : m.run.config.stopOnUnderrun = true) (was : (a.chan n).state ≠ .starved) (starved : (m.chan n).state = .starved) :
    EndedBy (· = .underrun) (finishWork m) := by
  have kept := forEach_quiet a m (m.setWork [])
  unfold finishWork
  rw [work, runItems_eq, ← List.append_assoc, ← List.cons_append, forEach_append, forEach_append]
  generalize forEach (.pulses :: (changeItems a m ++ causeItems a m)) workItem (m.setWork []) = u at kept ⊢
  refine endedBy_forEach (forEach_once (w := .underrun n)
    (A := fun t => (t.run.state = .running ∧ t.run.config.stopOnUnderrun = true) ∨ EndedBy (· = .underrun) t)
    (fun w hw _ t ht => ?_) (fun t ht => ?_) (fun w _ t ht => endedBy_workItem ht w) ?_ (.inl ?_)) _
  · obtain ⟨k, -, rfl⟩ := underrunItems_mem.mp hw
    exact .inr (ht.elim (fun ⟨going, stops⟩ => handStarved_stop going stops) handStarved_ended)
  · exact ht.elim (fun ⟨going, stops⟩ => handStarved_stop going stops) handStarved_ended
  · exact underrunItems_mem.mpr ⟨n, ⟨was, starved⟩, rfl⟩
  · rw [kept]
    exact ⟨running, stop⟩

/-- The UNDERRUN cause and the drained test leave a run as it is, or end it. -/
theorem handStarved_run (s : State) : (handStarved s).run = s.run ∨ (handStarved s).run.state = .ended := by
  have caused : (underrunCause s).run = s.run ∨ (underrunCause s).run.state = .ended := by
    unfold underrunCause runningCause
    split
    · split
      · exact .inr (enterEnded_state _ s).1
      · exact .inl rfl
    · exact .inl rfl
  have tested (v : State) : (drainedTest v).run = v.run ∨ (drainedTest v).run.state = .ended := by
    unfold drainedTest
    split
    · exact .inr (enterEnded_state _ v).1
    · exact .inl rfl
  unfold handStarved
  rcases tested (underrunCause s) with same | ended
  · rw [same]
    exact caused
  · exact .inr ended

theorem drainAtStart_run (s : State) : (drainAtStart s).run = s.run ∨ (drainAtStart s).run.state = .ended := by
  unfold drainAtStart profileEmptied drainedTest
  split
  · split
    · split
      · exact .inr (enterEnded_state _ _).1
      · exact .inl rfl
    · exact .inl rfl
  · split <;> exact .inl rfl

/-- With neither option set no such item ends the run. -/
theorem handStarved_of_off (stop : s.run.config.stopOnUnderrun = false) (drain : s.run.config.endOnDrain = false) :
    handStarved s = s := by
  unfold handStarved underrunCause drainedTest State.drainedNow
  rw [stop]
  simp [drain]

theorem drainAtStart_of_off (drain : s.run.config.endOnDrain = false) : (drainAtStart s).run = s.run := by
  have off : (profileDrained s).drainedNow = false := by
    unfold State.drainedNow
    rw [show (profileDrained s).run.config.endOnDrain = false from drain]
    rfl
  unfold drainAtStart profileEmptied drainedTest
  rw [off]
  split
  · split <;> rfl
  · split <;> rfl

/-- A value outside a STRICT guard ends a run that no item before it has ended; `G` is what those items keep of the run. -/
theorem finishWork_trip {a : State} {G : Run → Prop} {Q : EndReason → Prop} (work : m.run.work = runItems a m)
    (trips : (m.chan n).trips = true) (running : ∀ r, G r → r.state = .running) (guard : Q .guardTrip)
    (starved : ∀ t : State, G t.run → G (handStarved t).run ∨ EndedBy Q (handStarved t))
    (drained : ∀ t : State, G t.run → G (drainAtStart t).run ∨ EndedBy Q (drainAtStart t)) (h : G { m.run with work := [] }) :
    EndedBy Q (finishWork m) := by
  let A := fun t : State => G t.run ∨ EndedBy Q t
  have tripped (t : State) (ht : A t) : EndedBy Q (runningCause .guardTrip t) := by
    rcases ht with going | ended
    · unfold runningCause
      rw [if_pos (running _ going)]
      exact ⟨(enterEnded_state _ t).1, (enterEnded_state _ t).2 ▸ guard⟩
    · exact ended.of_run ((works_runningCause _ t).quiet (inRun_of_ended ended.1))
  have keeps (ws : List WorkItem) (each : ∀ w ∈ ws, ∀ t : State, G t.run → A (workItem w t)) (t : State) (ht : A t) :
      A (forEach ws workItem t) :=
    forEach_keeps A ws workItem (fun w hw t ht => ht.elim (each w hw t) fun ended => .inr (endedBy_workItem ended w)) t ht
  unfold finishWork
  rw [work, runItems_eq, ← List.append_assoc, ← List.cons_append]
  simp only [forEach_append]
  have quiet : A (forEach (.pulses :: (changeItems a m ++ causeItems a m)) workItem (m.setWork [])) :=
    .inl (by rw [forEach_quiet]; exact h)
  have underruns := keeps (underrunItems a m) (fun w hw t ht => by
    obtain ⟨k, -, rfl⟩ := underrunItems_mem.mp hw
    exact starved t ht) _ quiet
  have drains := keeps (drainItems a m) (fun w hw t ht => by
    rw [drainItems_mem hw]
    exact drained t ht) _ underruns
  have notices := keeps (guardItems m) (fun w hw t ht => by
    obtain ⟨k, -, rfl⟩ := guardItems_mem.mp hw
    exact .inl ht) _ drains
  refine endedBy_forEach (forEach_once (w := .guardTrip n) (A := A) (fun w hw _ t ht => ?_) tripped
    (fun w _ t ht => endedBy_workItem ht w) (tripItems_mem.mpr ⟨n, trips, rfl⟩) notices) _
  obtain ⟨k, -, rfl⟩ := tripItems_mem.mp hw
  exact .inr (tripped t ht)

/-- A value outside a STRICT guard ends the run, with nothing else ordered. -/
theorem finishWork_guards {a : State} (work : m.run.work = runItems a m) (running : m.run.state = .running)
    (trips : (m.chan n).trips = true) : (finishWork m).run.state = .ended :=
  (finishWork_trip (G := fun r => r.state = .running) (Q := fun _ => True) work trips (fun _ => id) trivial
    (fun t ht => (handStarved_run t).imp (fun e => (congrArg Run.state e).trans ht) fun ended => ⟨ended, trivial⟩)
    (fun t ht => (drainAtStart_run t).imp (fun e => (congrArg Run.state e).trans ht) fun ended => ⟨ended, trivial⟩) running).1

/-- With neither option set it is GUARD that ends it. -/
theorem finishWork_guards_of_off {a : State} (work : m.run.work = runItems a m) (running : m.run.state = .running)
    (trips : (m.chan n).trips = true) (stop : m.run.config.stopOnUnderrun = false) (drain : m.run.config.endOnDrain = false) :
    EndedBy (· = .guardTrip) (finishWork m) :=
  finishWork_trip (G := fun r => r.state = .running ∧ r.config.stopOnUnderrun = false ∧ r.config.endOnDrain = false)
    work trips (fun _ => And.left) rfl
    (fun t ht => .inl (by rw [handStarved_of_off ht.2.1 ht.2.2]; exact ht))
    (fun t ht => .inl (by rw [drainAtStart_of_off ht.2.2]; exact ht)) ⟨running, stop, drain⟩

/-- Ordered first, it is GUARD that ends it. -/
theorem takeWork_guardTrip {behind : List WorkItem} (running : m.run.state = .running) (mem : .guardTrip n ∈ m.run.work) :
    EndedBy (· = .guardTrip) (takeWork (.guardTrip n :: behind) m) := by
  have named (w : WorkItem) (t : State) (ht : EndedBy (· = .guardTrip) t) : EndedBy (· = .guardTrip) (namedItem w t) := by
    have quiet := (shapes_namedItem (H := fun _ => True) (P := fun _ => True) (fun _ _ => trivial) (fun _ _ => trivial) (w := w) t).quiet
      (inRun_of_ended ht.1)
    exact ⟨(congrArg Run.state quiet :).trans ht.1, (congrArg Run.endReason quiet :).trans ht.2⟩
  have first : EndedBy (· = .guardTrip) (namedItem (.guardTrip n) m) := by
    have taken : namedItem (.guardTrip n) m = runningCause .guardTrip (m.setWork (m.run.work.erase (.guardTrip n))) :=
      if_pos (by simpa using mem)
    rw [taken]
    unfold runningCause
    exact (if_pos running : ite _ _ _ = _) ▸ enterEnded_state _ _
  have rest := forEach_keeps (EndedBy (· = .guardTrip)) (behind.takeWhile (fun w => w != .pause)) namedItem (fun w _ t => named w t) _ first
  unfold takeWork
  rw [List.takeWhile_cons_of_pos rfl, forEach_cons]
  dsimp only
  split
  · exact rest
  · exact finishWork_keeps (EndedBy (· = .guardTrip)) (fun _ _ h => h) (fun w _ h => endedBy_workItem h w) _ rest

/-! ### The channels after a run microsecond -/

/-- What a run microsecond's work leaves of a channel's source and output. -/
theorem Shapes.put {H P : Fin 16 → Prop} (h : Shapes H P m t) (n : Fin 16) :
    (t.chan n).source = (m.chan n).source ∧ (t.chan n).output = (m.chan n).output ∧ (t.chan n).clamped = (m.chan n).clamped :=
  ⟨(congrArg Channel.source (h.value n) :), (congrArg Channel.output (h.value n) :), (congrArg Channel.clamped (h.value n) :)⟩

/-- HALF_PERIOD_END ordered first turns a line that has gone on for its half. -/
theorem takeWork_halfEnd {x : Half} (pulse : 12 ≤ n.val) (drives : (m.chan n).output ≠ 0) (half : (m.chan n).half = some x)
    (due : x.since + x.period ≤ m.uptime) :
    ((takeWork [.halfEnd n] m).chan n).half = some { period := (m.chan n).output, since := m.uptime }
      ∧ ((takeWork [.halfEnd n] m).chan n).line = !(m.chan n).line := by
  have ends : m.halfEndDue n = true := by simp [State.halfEndDue, pulse, half, State.reached, due]
  have turns : (m.chan n).turned m.uptime =
      { m.chan n with half := some { period := (m.chan n).output, since := m.uptime }, line := !(m.chan n).line } := if_neg drives
  have taken : takeWork [.halfEnd n] m =
      finishWork (offerLine (m.chan n).line n (m.setChan n ((m.chan n).turned m.uptime))) := by
    rw [takeWork_of_whole (by simp)]
    exact congrArg finishWork (if_pos ends)
  have kept : Shapes (fun _ => False) (fun _ => False) (m.setChan n ((m.chan n).turned m.uptime)) (takeWork [.halfEnd n] m) :=
    taken ▸ (shapes_offerLine _ n _).trans (shapes_finishWork _)
  have line := kept.line n (.inl id)
  rw [State.chan_setChan_same, turns] at line
  exact line

/-- A channel at the opening of a run microsecond: its beginning, its source, its output. -/
theorem Opens.channel (h : Opens order s (beginMicro s) m) (n : Fin 16) :
    m.chan n = (((s.chan n).begun n s.run).sourced (flushedFirst order (beginMicro s)) n s.traceAt m.theta).put n (s.uptime + 1) := by
  have begun := beginMicro_rest s
  have chan := beginMicro_chan n s
  have opened := h.chan n
  have rest := h.rest
  generalize flushedFirst order (beginMicro s) = fl at opened ⊢
  generalize beginMicro s = b at begun chan opened rest
  rw [opened, chan, show b.traceAt = s.traceAt from (congrArg State.traceAt begun :),
    show m.theta = (advance b).theta from (congrArg State.theta rest :),
    show b.uptime = s.uptime + 1 from (congrArg State.uptime begun :)]
  rfl

/-- Settles O26: the output is formed as the microsecond opens, and the run's first end is the first item that ends it. -/
theorem runMicrosecondFormsEveryOutput : Obligations.RunMicrosecondFormsEveryOutput := by
  intro order s law guards running work due
  obtain ⟨m, opens, exec_eq⟩ := exec_runMicrosecond_opens order running work due
  have formed := opens.formed
  have shapes := shapes_takeWork order m
  have run : { m.run with work := s.run.work } = { s.run.tick with begun := true } :=
    (congrArg (fun u : State => { u.run with work := s.run.work }) formed :)
  have running' : m.run.state = .running := ((congrArg Run.state run :) : m.run.state = s.run.state).trans running
  have config : m.run.config = s.run.config := (congrArg Run.config run :)
  have uptime : m.uptime = s.uptime + 1 := (congrArg State.uptime formed :)
  refine ⟨_, exec_eq, fun n => ?_⟩
  obtain ⟨e, p, o, h, l, begun, line⟩ := Channel.begun_eq n s.run (s.chan n)
  obtain ⟨going, first⟩ := line running
  have fixed := Channel.sourced_eq (flushedFirst order (beginMicro s)) n s.traceAt m.theta ((s.chan n).begun n s.run)
  have chan := opens.channel n
  generalize ((s.chan n).begun n s.run).sourced (flushedFirst order (beginMicro s)) n s.traceAt m.theta = y at fixed chan
  rw [begun] at fixed
  have put := Channel.put_eq n (s.uptime + 1) y
  obtain ⟨source, output, clamped⟩ := shapes.put n
  have source' : ((takeWork order m).chan n).source = y.source := source.trans (chan ▸ (congrArg Channel.source put :))
  have half' : y.half = h := (congrArg Channel.half fixed :)
  have line' : y.line = l := (congrArg Channel.line fixed :)
  have rest' : y.restLevel = (s.chan n).restLevel := (congrArg Channel.restLevel fixed :)
  intro c d begins trips
  refine ⟨fun enable => ?_, fun disable => ?_⟩
  · have enable' : y.enable = true := ((congrArg Channel.enable fixed :) : y.enable = c.enable).trans enable
    obtain ⟨value, outside⟩ := Channel.put_value enable' n (s.uptime + 1)
    rw [← chan, ← output] at value
    rw [← chan, ← clamped] at outside
    have modified : y.modified = afterModifier c.modifier d.source := by
      rw [Channel.modified_eq, show d.source = y.source from source', show y.modifier = c.modifier from (congrArg Channel.modifier fixed :)]
    have gmin : y.gmin = c.gmin := (congrArg Channel.gmin fixed :)
    have gmax : y.gmax = c.gmax := (congrArg Channel.gmax fixed :)
    have between := Channel.guarded_between (c := y) (by rw [gmin, gmax]; exact (guards n).1) y.modified
    rw [← value, gmin, gmax] at between
    have guarding (raised : d.clamped = true) : (m.chan n).guards = true := by
      have set : (m.chan n).clamped = true := clamped.symm.trans raised
      have enabled : (m.chan n).enable = true := ((congrArg Channel.enable put :) : (y.put n (s.uptime + 1)).enable = _).trans enable' |> (chan ▸ ·)
      simp [Channel.guards, set, enabled]
    have tripping (raised : d.clamped = true) (strict : c.guardMode = .strict) : (m.chan n).trips = true := by
      have mode : (m.chan n).guardMode = .strict := by
        rw [chan, show (y.put n (s.uptime + 1)).guardMode = y.guardMode from (congrArg Channel.guardMode put :),
          show y.guardMode = c.guardMode from (congrArg Channel.guardMode fixed :), strict]
      simp [Channel.trips, guarding raised, mode]
    refine ⟨?_, between.1, between.2, ?_, fun raised whole => ?_, fun raised strict => ⟨?_, ?_, ?_⟩, fun pulse quiet => ?_, ?_⟩
    · exact value.trans (by rw [Channel.guarded_eq, modified, gmin, gmax])
    · rw [← modified, ← gmin, ← gmax]
      exact (outside ▸ Iff.rfl : d.clamped = true ↔ y.outside y.modified = true).trans (Channel.outside_iff y y.modified)
    · exact takeWork_guardNotice whole (opens.work ▸ guardNotice_mem s (guarding raised))
    · rintro behind rfl
      exact takeWork_guardTrip running' (opens.work ▸ guardTrip_mem s (tripping raised strict))
    · rintro rfl
      show (takeWork [] m).run.state = .ended
      rw [takeWork_nil]
      exact finishWork_guards opens.work running' (tripping raised strict)
    · rintro rfl stop drain
      show EndedBy (· = .guardTrip) (takeWork [] m)
      rw [takeWork_nil]
      exact finishWork_guards_of_off opens.work running' (tripping raised strict) (config ▸ stop) (config ▸ drain)
    · obtain ⟨zero, idle, goes⟩ := Channel.put_line enable' pulse (s.uptime + 1)
      obtain ⟨half, line⟩ := shapes.line n (.inl quiet)
      rw [← chan, ← half, ← line, ← output, rest'] at zero idle
      rw [← chan, ← half, ← line, ← output, half', line'] at goes
      refine ⟨zero, fun drives new => idle drives (half'.trans ?_), fun drives old x half => ?_⟩
      · rcases new with new | none
        · exact (first new).1
        · by_cases old : s.run.begun = true
          · exact (going old).1.trans none
          · exact (first (Bool.eq_false_iff.mpr old)).1
      · obtain ⟨half', line'⟩ := goes drives x ((going old).1.trans half)
        exact ⟨half', line'.trans (going old).2⟩
    · rintro pulse rfl drives old x half since
      obtain ⟨-, -, goes⟩ := Channel.put_line enable' pulse (s.uptime + 1)
      rw [← chan, half', line'] at goes
      have drives' : (m.chan n).output ≠ 0 := output ▸ drives
      obtain ⟨mhalf, mline⟩ := goes drives' x ((going old).1.trans half)
      obtain ⟨turned, flipped⟩ := takeWork_halfEnd pulse drives' mhalf (uptime ▸ since)
      refine ⟨turned.trans ?_, flipped.trans ?_⟩
      · rw [← output, uptime]
      · rw [mline, (going old).2]
  · have disable' : y.enable = false := ((congrArg Channel.enable fixed :) : y.enable = c.enable).trans disable
    rw [Channel.put_of_disabled disable'] at chan
    obtain ⟨half, line⟩ := shapes.line n (.inr (congrArg Channel.half chan))
    have code : y.restCode = c.restCode := (congrArg Channel.restCode fixed :)
    refine ⟨output.trans ((congrArg Channel.output chan :).trans ?_), clamped.trans (congrArg Channel.clamped chan :),
      half.trans (congrArg Channel.half chan :), line.trans ((congrArg Channel.line chan :).trans rest')⟩
    show (if n.val < 12 then y.restCode else 0) = _
    rw [code]

end Sys2Proof.Machine
end

section
/-! PROOFS. The sources a run microsecond forms: O25. -/

namespace Sys2Proof.Machine

open Sys2Proof.Safety

variable {s t m : State} {n : Fin 16} {order : List WorkItem}

/-! ### One channel's source (R51) -/

section sourced

variable {c : Channel} {fl : List (Fin 16)} {read : Nat → Nat} {theta : Nat} (enable : c.enable = true)

include enable

theorem Channel.sourced_of_const (mode : c.mode = .const) : (c.sourced fl n read theta).source = c.constCode := by
  unfold Channel.sourced
  rw [if_pos enable, mode]

theorem Channel.sourced_of_map (mode : c.mode = .angleMap) : (c.sourced fl n read theta).source = c.mapped n read theta := by
  unfold Channel.sourced
  rw [if_pos enable, mode]

theorem Channel.sourced_of_stream (mode : c.mode = .stream) :
    c.sourced fl n read theta = (if fl.contains n then c else c.streamTaken n).streamPlayed n read := by
  unfold Channel.sourced
  rw [if_pos enable, mode]

theorem Channel.sourced_of_active (mode : c.mode = .stream) {a : ActiveSeg} (active : c.active = some a) :
    c.sourced fl n read theta = { c with active := some (a.play read), source := (a.play read).sample } := by
  have taken : c.streamTaken n = c := by
    unfold Channel.streamTaken
    rw [active]
  rw [Channel.sourced_of_stream enable mode, taken, ite_self]
  unfold Channel.streamPlayed
  rw [active]

theorem Channel.sourced_of_flushed (mode : c.mode = .stream) (active : c.active = none) (flushed : fl.contains n = true) :
    c.sourced fl n read theta = { c with source := c.held.getD (c.restSource n) } := by
  rw [Channel.sourced_of_stream enable mode, if_pos flushed]
  unfold Channel.streamPlayed
  rw [active]

theorem Channel.sourced_of_take (mode : c.mode = .stream) (active : c.active = none) {g : Segment} {behind : List Segment}
    (queue : c.queue = g :: behind) (flushed : fl.contains n = false) : c.sourced fl n read theta =
      { c with active := some (g.fresh.play read), queue := behind, state := .playing, source := (g.fresh.play read).sample } := by
  have taken : c.streamTaken n = { c with active := some g.fresh, queue := behind, state := .playing } := by
    unfold Channel.streamTaken
    rw [active, queue]
  rw [Channel.sourced_of_stream enable mode, if_neg (Bool.eq_false_iff.mp flushed), taken]
  rfl

theorem Channel.sourced_of_starved (mode : c.mode = .stream) (active : c.active = none) (queue : c.queue = [])
    (state : c.state = .starved) : c.sourced fl n read theta = { c with source := c.held.getD (c.restSource n) } := by
  have taken : c.streamTaken n = c := by
    unfold Channel.streamTaken
    rw [active, queue]
    exact if_pos state
  rw [Channel.sourced_of_stream enable mode, taken, ite_self]
  unfold Channel.streamPlayed
  rw [active]

theorem Channel.sourced_of_starving (mode : c.mode = .stream) (active : c.active = none) (queue : c.queue = [])
    (state : c.state ≠ .starved) (flushed : fl.contains n = false) : c.sourced fl n read theta =
      { c with active := none, state := .starved, held := some (c.restSource n), source := c.restSource n } := by
  have taken : c.streamTaken n = { c with active := none, state := .starved, held := some (c.restSource n) } := by
    unfold Channel.streamTaken
    rw [active, queue]
    exact if_neg state
  rw [Channel.sourced_of_stream enable mode, if_neg (Bool.eq_false_iff.mp flushed), taken]
  rfl

end sourced

theorem ActiveSeg.play_on {a : ActiveSeg} (read : Nat → Nat) (ahead : a.ahead = .slot) (h : 0 < a.played) :
    a.play read = { a with played := a.played + 1 } := by
  unfold ActiveSeg.play
  rw [ahead]
  exact if_neg (Nat.ne_of_gt h)

theorem ActiveSeg.play_first {a : ActiveSeg} (read : Nat → Nat) (ahead : a.ahead = .slot) (h : a.played = 0) :
    a.play read = { a with played := 1, sample := read (a.seg.base + a.index) } := by
  unfold ActiveSeg.play
  rw [ahead]
  exact if_pos h

theorem ActiveSeg.play_nextSlot {a : ActiveSeg} (read : Nat → Nat) (ahead : a.ahead = .nextSlot) : a.play read =
    { a with index := a.index + 1, played := 1, sample := read (a.seg.base + (a.index + 1)), ahead := .slot } := by
  unfold ActiveSeg.play
  rw [ahead]

theorem ActiveSeg.play_nextPass {a : ActiveSeg} (read : Nat → Nat) (ahead : a.ahead = .nextPass) : a.play read =
    { a with pass := a.nextPass, index := 0, played := 1, sample := read a.seg.base, ahead := .slot } := by
  unfold ActiveSeg.play
  rw [ahead]

/-- In ascending order the first place to pass a test is the lowest. -/
theorem find?_lowest {k : Nat} {xs : List (Fin k)} {p : Fin k → Bool} {i : Fin k} (sorted : xs.Pairwise (· < ·)) (mem : i ∈ xs)
    (pass : p i = true) (lower : ∀ j < i, ¬ p j = true) : xs.find? p = some i := by
  obtain ⟨before, behind, rfl⟩ := List.append_of_mem mem
  refine List.find?_eq_some_iff_append.mpr ⟨pass, before, behind, rfl, fun j hj => ?_⟩
  have below : j < i := (List.pairwise_append.mp sorted).2.2 j hj i List.mem_cons_self
  simpa using lower j below

/-- The lowest-numbered covering window is the one read (R70). -/
theorem Channel.window_of {c : Channel} {theta : Nat} {i : Fin 4} (covers : (getAt c.windows i).covers theta = true)
    (lower : ∀ j < i, ¬ (getAt c.windows j).covers theta = true) : c.window theta = some (getAt c.windows i) := by
  have all : ∀ i : Fin 4, i ∈ ([0, 1, 2, 3] : List (Fin 4)) := by decide
  have first := find?_lowest (p := fun i => (getAt c.windows i).covers theta) (by decide) (all i) covers lower
  unfold Channel.window
  rw [List.find?_map, Function.comp_def, first]
  rfl

theorem Channel.window_of_none {c : Channel} {theta : Nat} (uncovered : ∀ i, ¬ (getAt c.windows i).covers theta = true) :
    c.window theta = none := by
  unfold Channel.window
  rw [List.find?_map, Function.comp_def, List.find?_eq_none.mpr fun i _ => uncovered i]
  rfl

/-- The channels whose take gives way to a flush, as the microsecond began (R63). -/
theorem flushed_iff (enable : (s.chan n).enable = true) (mode : (s.chan n).mode = .stream) (active : (s.chan n).active = none) :
    (flushedFirst order (beginMicro s)).contains n = true ↔
      .flush n ∈ order ∧ (s.chan n).queue ≠ [] ∧ ∃ f before behind, f < 2 ∧ s.pending = before ++ .segmentFlush n.val f :: behind
        ∧ ∀ o, .runMicrosecond o ∉ before := by
  have pending : (beginMicro s).pending = s.pending := by
    have begun := beginMicro_rest s
    generalize beginMicro s = b at begun ⊢
    exact (congrArg State.pending begun :)
  have takes : (beginMicro s).takes n = true ↔ (s.chan n).queue ≠ [] := by
    obtain ⟨e, p, o, h, l, begun, -⟩ := Channel.begun_eq n s.run (s.chan n)
    unfold State.takes
    rw [beginMicro_chan, begun]
    simp [enable, mode, active]
  rw [List.contains_iff_mem, mem_flushedFirst, takes, flushAhead_iff, pending]

/-- Settles O25: the source is formed as the microsecond opens, and what is formed is not undone but by the run's end or the slot's. -/
theorem runMicrosecondFormsEverySource : Obligations.RunMicrosecondFormsEverySource := by
  intro order s law running work due
  obtain ⟨m, opens, exec_eq⟩ := exec_runMicrosecond_opens order running work due
  have formed := opens.formed
  have shapes := shapes_takeWork order m
  have run : { m.run with work := s.run.work } = { s.run.tick with begun := true } :=
    (congrArg (fun u : State => { u.run with work := s.run.work }) formed :)
  have running' : m.run.state = .running := ((congrArg Run.state run :) : m.run.state = s.run.state).trans running
  have config : m.run.config = s.run.config := (congrArg Run.config run :)
  have theta : (takeWork order m).theta = m.theta := congrArg (· / Config.grainsPerCentidegree) (calm_takeWork order m).acc
  refine ⟨_, exec_eq, fun n => ?_⟩
  obtain ⟨e, p, o, h, l, begun, -⟩ := Channel.begun_eq n s.run (s.chan n)
  have chan := opens.channel n
  have flushed := flushed_iff (s := s) (n := n) (order := order)
  rw [begun] at chan
  generalize flushedFirst order (beginMicro s) = fl at chan flushed
  intro c d rest read covers raised flushWaits plays enable
  generalize formed : Channel.sourced fl n s.traceAt m.theta _ = y at chan
  have put := Channel.put_eq n (s.uptime + 1) y
  have source : d.source = y.source := (shapes.put n).1.trans (chan ▸ (congrArg Channel.source put :))
  have active' : (m.chan n).active = y.active := chan ▸ (congrArg Channel.active put :)
  have queue' : (m.chan n).queue = y.queue := chan ▸ (congrArg Channel.queue put :)
  have state' : (m.chan n).state = y.state := chan ▸ (congrArg Channel.state put :)
  have held' : (m.chan n).held = y.held := chan ▸ (congrArg Channel.held put :)
  have cause' : (m.chan n).cause = y.cause := chan ▸ (congrArg Channel.cause put :)
  have stands (free : .sampleEnd n ∉ order ∨ y.active = none) := shapes.play n (active' ▸ free)
  have playing {a : ActiveSeg} (active : y.active = some a) (sample : y.source = a.sample) : plays a :=
    ⟨source.trans sample, fun going free => ((stands (.inl free)).plays fun over' => going over'.2).1.trans (active'.trans active)⟩
  let x : Channel := { c with pinEnable := e, pinRef := p, output := o, half := h, line := l }
  have covers_iff (w : Window) : covers w ↔ w.covers m.theta = true := by
    rw [Window.covers_iff, ← theta]
    rfl
  refine ⟨fun mode => ?_, fun mode => ⟨fun i cover lower => ?_, fun uncovered => ?_⟩, fun mode => ⟨fun a active => ?_,
    fun active g behind queue named waits => ?_, fun active g behind queue free => ?_, fun active queue starved => ?_,
    fun active queue fed => ?_⟩⟩
  · exact source.trans (formed ▸ Channel.sourced_of_const enable mode)
  · have window := Channel.window_of (c := c) ((covers_iff _).mp cover) fun j hj h => lower j hj ((covers_iff _).mpr h)
    have mapped : y.source = c.mapped n s.traceAt m.theta := formed ▸ Channel.sourced_of_map enable mode
    unfold Channel.mapped at mapped
    rw [window, ← theta] at mapped
    exact source.trans mapped
  · have window := Channel.window_of_none (c := c) (theta := m.theta) fun i h => uncovered i ((covers_iff _).mpr h)
    have mapped : y.source = c.mapped n s.traceAt m.theta := formed ▸ Channel.sourced_of_map enable mode
    unfold Channel.mapped at mapped
    rw [window] at mapped
    exact source.trans mapped
  · have plays_on {b : ActiveSeg} (played : a.play s.traceAt = b) : plays b := by
      have whole := formed.symm.trans (Channel.sourced_of_active (c := x) enable mode active)
      rw [played] at whole
      exact playing (congrArg Channel.active whole :) (congrArg Channel.source whole :)
    exact ⟨fun ahead on => plays_on (ActiveSeg.play_on _ ahead on), fun ahead first => plays_on (ActiveSeg.play_first _ ahead first),
      fun ahead => plays_on (ActiveSeg.play_nextSlot _ ahead), fun ahead => plays_on (ActiveSeg.play_nextPass _ ahead)⟩
  · have flush : fl.contains n = true := (flushed enable mode active).mpr ⟨named, queue ▸ nofun, waits⟩
    have whole := formed.symm.trans (Channel.sourced_of_flushed (c := x) enable mode active flush)
    have idle : y.active = none := (congrArg Channel.active whole :).trans active
    have stand := stands (.inr idle)
    exact ⟨source.trans (congrArg Channel.source whole :), stand.queue.trans (queue'.trans (congrArg Channel.queue whole :)),
      stand.idle (active'.trans idle),
      fun going => (stand.plays fun over' => going over'.2).2.1.trans (state'.trans (congrArg Channel.state whole :))⟩
  · have open' : fl.contains n = false := Bool.eq_false_iff.mpr fun flush => by
      obtain ⟨named, -, waits⟩ := (flushed enable mode active).mp flush
      exact free.elim (fun none => none named) fun none => none waits
    have whole := formed.symm.trans (Channel.sourced_of_take (c := x) enable mode active queue open')
    have busy : y.active = some (g.fresh.play s.traceAt) := (congrArg Channel.active whole :)
    have stand (free : .sampleEnd n ∉ order) := stands (.inl free)
    refine ⟨playing (a := g.fresh.play s.traceAt) busy (congrArg Channel.source whole :), fun going free =>
      ⟨(stand free).queue.trans (queue'.trans (congrArg Channel.queue whole :)),
        ((stand free).plays fun over' => going over'.2).2.1.trans (state'.trans (congrArg Channel.state whole :))⟩, fun cause unpaused => ?_⟩
    have causes : c.causes (m.chan n) = true := by
      unfold Channel.causes
      rw [cause', show y.cause = c.cause from (congrArg Channel.cause whole :), cause, active', busy, active]
      rfl
    exact takeWork_channelNotice unpaused (opens.work ▸ channelNotice_mem causes)
  · have whole := formed.symm.trans (Channel.sourced_of_starved (c := x) enable mode active queue starved)
    exact source.trans (congrArg Channel.source whole :)
  · have open' : fl.contains n = false := Bool.eq_false_iff.mpr fun flush => by
      obtain ⟨-, some, -⟩ := (flushed enable mode active).mp flush
      exact some queue
    have whole := formed.symm.trans (Channel.sourced_of_starving (c := x) enable mode active queue fed open')
    have idle : y.active = none := (congrArg Channel.active whole :)
    have starved : (m.chan n).state = .starved := state'.trans (congrArg Channel.state whole :)
    have stand := stands (.inr idle)
    refine ⟨source.trans (congrArg Channel.source whole :), fun going => ?_, fun cause unpaused => ?_, ?_⟩
    · obtain ⟨-, state, held⟩ := stand.plays fun over' => going over'.2
      exact ⟨state.trans starved, held.trans (held'.trans (congrArg Channel.held whole :))⟩
    · have causes : c.causes (m.chan n) = true := by
        unfold Channel.causes
        rw [cause', show y.cause = c.cause from (congrArg Channel.cause whole :), cause, starved]
        simpa using fed
      exact takeWork_channelNotice unpaused (opens.work ▸ channelNotice_mem causes)
    · rintro stop rfl
      have ended := finishWork_underrun opens.work running' (config ▸ stop) fed starved
      show EndedBy (· = .underrun) (takeWork [] m)
      rwa [takeWork_nil]

end Sys2Proof.Machine
end

section
/-! PROOFS. What a run microsecond's work leaves of one slot. -/

namespace Sys2Proof.Machine

open Sys2Proof.Safety

variable {s t u m : State} {j k : Fin 32} {n : Fin 16} {x : Slot} {v w : WorkItem} {order : List WorkItem}

/-! ### What an item leaves of a slot that it does not name -/

theorem leaves_runningCause (r : EndReason) (s : State) : Leaves k s (runningCause r s) := by
  unfold runningCause
  split
  · next running => exact ⟨works_enterEnded r (inRun_of_running running), .inl ⟨inRun_of_running running, (enterEnded_state r s).1⟩⟩
  · exact .refl k s

theorem leaves_drainedTest (s : State) : Leaves k s (drainedTest s) := by
  unfold drainedTest
  split
  · next drained =>
    have run := drainedNow_inRun drained
    exact ⟨works_enterEnded _ run, .inl ⟨run, (enterEnded_state _ s).1⟩⟩
  · exact .refl k s

theorem leaves_handStarved (s : State) : Leaves k s (handStarved s) :=
  Leaves.trans (t := underrunCause s) (.ite (leaves_runningCause _ s) (.refl k s)) (leaves_drainedTest _)

theorem leaves_profileEmptied (s : State) : Leaves k s (profileEmptied s) :=
  .ite (Leaves.trans (t := profileDrained s) (.of_faults (works_profileDrained s) rfl rfl) (leaves_drainedTest _)) (.refl k s)

theorem leaves_drainAtStart (s : State) : Leaves k s (drainAtStart s) :=
  .ite (leaves_profileEmptied s) (.ite (.of_faults (works_raise (j := .speed) (by decide) s) rfl rfl) (.refl k s))

theorem leaves_pointEnd (s : State) : Leaves k s (pointEnd s) := by
  refine .ite (Leaves.trans (t := { s with rot := { s.rot with active := none } }) (.of_faults ?_ rfl rfl) (leaves_profileEmptied _))
    (.refl k s)
  exact ⟨rfl, fun _ => rfl, .refl _, .inl ⟨id, rfl, fun _ => rfl⟩, rfl⟩

theorem leaves_raiseCause (c : CauseSel) (s : State) : Leaves k s (raiseCause n c s) :=
  .ite (.of_faults (works_raiseChannel n s) rfl rfl) (.refl k s)

theorem leaves_runTrigger (h : k ≠ j) (s : State) : Leaves k s (runTrigger j s) := by
  have marked : Leaves k s (markLate j s) := by
    unfold markLate
    split
    · exact leaves_setSlot h _ s
    all_goals exact .refl k s
  exact .ite (marked.trans (leaves_fire h _)) (.refl k s)

theorem shapes_passItem (v : WorkItem) (s : State) : Shapes (fun _ => True) (fun _ => True) s (passItem v s) := by
  rcases namedItem_cases v s with ⟨-, e⟩ | ⟨e, -⟩
  · rw [← e s]
    exact shapes_workItem v s
  · rw [← e]
    exact shapes_namedItem (fun _ _ => trivial) (fun _ _ => trivial) s

/-! ### A slot that stands through a run microsecond's work -/

/-- Slot k stands at `x` in a microsecond that opened at `m`, and the alignment waits it has began in it. -/
structure Steady (k : Fin 32) (x : Slot) (m t : State) : Prop where
  slot : t.slot k = x
  calm : Calm m t
  fresh : ∀ p, ∀ w ∈ t.wait p, w.slot = k → m.uptime ≤ w.since

/-- So it stands, or the run has ended. -/
def Stays (k : Fin 32) (x : Slot) (m t : State) : Prop := t.run.state = .ended ∨ Steady k x m t

theorem Steady.parts (h : Steady k x m t) (parts : Parts k t u) (calm : Calm t u) : Steady k x m u :=
  ⟨parts.1.trans h.slot, h.calm.trans calm, fun p w hw e => h.fresh p w (parts.2 p w hw e) e⟩

theorem Stays.leaves (h : Stays k x m t) (leaves : Leaves k t u) (calm : Calm t u) : Stays k x m u := by
  rcases h with ended | steady
  · exact .inl (leaves.works.ended ended)
  · exact leaves.slot.imp And.right fun parts => steady.parts parts calm

theorem stays_setAligned {p : Fin 24} (other : ∀ w ∈ t.wait p, w.slot ≠ k) (h : Stays k x m t) : Stays k x m (setAligned p false t) := by
  refine h.leaves ?_ (calm_setAligned p false t)
  unfold setAligned
  split
  · exact .refl k t
  · next w wait =>
    exact ((leaves_setPath p _ t).trans (leaves_setWait p (fun _ none => by cases none) _)).trans (leaves_setSlot (Ne.symm (other w wait)) _ _)

/-- A level change ends no wait that began in this microsecond (R146). -/
theorem stays_levelChange (src : LineSource) (h : Stays k x m t) : Stays k x m (levelChange src t) := by
  refine forEach_keeps (Stays k x m) allPins (offerChange src) (fun p _ t ht => ?_) t h
  unfold offerChange
  split
  · next ends =>
    obtain ⟨running, since⟩ := ends
    refine ht.elim (fun ended => absurd (ended.symm.trans running) nofun) fun steady => stays_setAligned (fun w wait e => ?_) ht
    have now := steady.fresh p w wait e
    rw [wait] at since
    simp only [Option.any_some, Bool.and_eq_true, decide_eq_true_eq, steady.calm.uptime] at since
    exact Nat.not_le.mpr since.2 now
  · exact ht

theorem stays_offerLine {old : Bool} (h : Stays k x m t) : Stays k x m (offerLine old n t) := by
  unfold offerLine
  split
  · exact h
  · exact stays_levelChange _ h

/-- An operation that ends the run or leaves slot k keeps it standing. -/
theorem Stays.keeps (h : Stays k x m t) (ended : t.run.state = .ended → u.run.state = .ended)
    (keeps : u.run.state = .ended ∨ Parts k t u) (calm : Calm t u) : Stays k x m u := by
  rcases h with over' | steady
  · exact .inl (ended over')
  · exact keeps.imp id fun parts => steady.parts parts calm

theorem keeps_sampleEnd (n : Fin 16) (s : State) : (sampleEnd n s).run.state = .ended ∨ Parts k s (sampleEnd n s) := by
  have changed (c : Channel) : Parts k s (s.setChan n c) := .of_waits rfl rfl
  have after {c : Channel} {u : State} (l : Leaves k (s.setChan n c) u) : u.run.state = .ended ∨ Parts k s u :=
    l.slot.imp And.right (changed c).trans
  unfold sampleEnd
  split
  · dsimp only
    split
    · exact .inr (.refl k s)
    · next a _ =>
      split
      · exact .inr (changed _)
      · split
        · exact .inr (changed _)
        · unfold segmentEnd
          split
          · exact after (leaves_raiseCause .taken _)
          · exact after ((leaves_raiseCause .starved _).trans (leaves_handStarved _))
  · exact .inr (.refl k s)

theorem stays_halfEnd (n : Fin 16) (h : Stays k x m t) : Stays k x m (halfEnd n t) := by
  unfold halfEnd
  split
  · refine stays_offerLine (h.keeps id (.inr (.of_waits rfl rfl)) (calm_setChan ⟨?_, ?_⟩))
    all_goals unfold Channel.turned
    · split <;> rfl
    · split <;> exact List.suffix_refl _
  · exact h

theorem stays_widthEnd (h : k ≠ j) (follow : ∀ u, Steady k x m u → followSlot j k u = u) (ht : Stays k x m t) :
    Stays k x m (widthEnd j [] t) := by
  unfold widthEnd
  split
  · refine forEach_keeps (Stays k x m) _ (widthItem j) (fun w _ u hu => ?_) _ (ht.leaves (leaves_setSlot h _ t) (calm_setSlot j _ t))
    by_cases own : w = .slot k
    · subst own
      exact hu.elim (fun ended => .inl ((works_widthItem j _ u).ended ended)) fun steady =>
        (show widthItem j (.slot k) u = u from follow u steady).symm ▸ .inr steady
    · exact hu.leaves (leaves_widthItem h own u) (calm_widthItem j w u)
  · exact ht

theorem parts_runPulses (s : State) : Parts k s (runPulses s) := by
  have rest := runPulses_rest s
  generalize runPulses s = u at rest ⊢
  exact .of_waits (congrArg (fun u : State => u.slot k) rest :) (congrArg (fun u : State => u.pins.waits) rest :)

/-- The items and events that name slot k. -/
def namesSlot (k : Fin 32) (v : WorkItem) : Prop := v = .slot k ∨ v = .delayEnd k ∨ v = .widthEnd k

/-- An item or an event leaves a slot standing that its own items find nothing to do for, and that follows no slot. -/
theorem stays_passItem (own : namesSlot k v → ∀ u, Steady k x m u → passItem v u = u)
    (follow : ∀ j u, Steady k x m u → followSlot j k u = u) (h : Stays k x m t) : Stays k x m (passItem v t) := by
  have ended (over' : t.run.state = .ended) : (passItem v t).run.state = .ended := (shapes_passItem v t).ended over'
  by_cases named : namesSlot k v
  · exact h.elim (fun over' => .inl (ended over')) fun steady => (own named t steady).symm ▸ .inr steady
  · obtain ⟨slot, delay, width⟩ := not_or.mp named |>.imp id not_or.mp
    cases v with
    | pulses =>
      exact h.keeps ended (.inr (parts_runPulses t)) (calm_passItem .pulses t)
    | change src => exact stays_levelChange src h
    | channelNotice n => exact h.leaves (.of_faults (works_raiseChannel n t) rfl rfl) (calm_passItem (.channelNotice n) t)
    | guardNotice n => exact h.leaves (.of_faults (works_raiseGuard n t) rfl rfl) (calm_passItem (.guardNotice n) t)
    | speedDrain => exact h.leaves (leaves_drainAtStart t) (calm_passItem .speedDrain t)
    | guardTrip n => exact h.leaves (leaves_runningCause _ t) (calm_passItem (.guardTrip n) t)
    | underrun n => exact h.leaves (leaves_handStarved t) (calm_passItem (.underrun n) t)
    | slot j => exact h.leaves (leaves_runTrigger (fun e => slot (by rw [e])) t) (calm_passItem (.slot j) t)
    | pointEnd => exact h.leaves (leaves_pointEnd t) (calm_passItem .pointEnd t)
    | sampleEnd n => exact h.keeps ended (keeps_sampleEnd n t) (calm_passItem (.sampleEnd n) t)
    | halfEnd n => exact stays_halfEnd n h
    | delayEnd j =>
      exact h.leaves (.ite (leaves_applySlot (fun e => delay (by rw [e])) t) (.refl k t)) (calm_passItem (.delayEnd j) t)
    | widthEnd j => exact stays_widthEnd (fun e => width (by rw [e])) (follow j) h
    | runControl | release | flush | pause => exact h

/-- So does the whole work of a run microsecond. -/
theorem stays_takeWork (own : ∀ v, namesSlot k v → v = .slot k ∨ v ∈ order → ∀ u, Steady k x m u → passItem v u = u)
    (follow : ∀ j u, Steady k x m u → followSlot j k u = u) (h : Stays k x m t) : Stays k x m (takeWork order t) := by
  have set (l : List WorkItem) {t : State} (ht : Stays k x m t) : Stays k x m (t.setWork l) :=
    ht.imp id fun steady => steady.parts (.of_waits rfl rfl) (calm_setWork l t)
  have pass (v : WorkItem) (hv : namesSlot k v → v = .slot k ∨ v ∈ order) (t : State) (ht : Stays k x m t) : Stays k x m (passItem v t) :=
    stays_passItem (fun named => own v named (hv named)) follow ht
  have item (v : WorkItem) (t : State) (ht : Stays k x m t) : Stays k x m (workItem v t) := by
    by_cases event : v = .delayEnd k ∨ v = .widthEnd k
    · rcases event with rfl | rfl <;> exact ht
    · exact workItem_keeps (pass v (fun named => .inl (named.resolve_right event)) t) ht
  have named := forEach_keeps (Stays k x m) (order.takeWhile (fun w => w != .pause)) namedItem (fun v hv t ht => by
    rcases namedItem_cases v t with ⟨e, -⟩ | ⟨e, -⟩ <;> rw [e]
    · exact takeItem_keeps (Stays k x m) (fun l _ => set l) item v t ht
    · exact pass v (fun _ => .inr (List.takeWhile_subset _ hv)) t ht) t h
  unfold takeWork
  dsimp only
  split
  · exact named
  · exact finishWork_keeps (Stays k x m) (fun l _ => set l) item _ named

end Sys2Proof.Machine
end

section
/-! PROOFS. The moments of AT_START, ANGLE and TIME triggers, delays and widths: O39. -/

namespace Sys2Proof.Machine

open Sys2Proof.Safety

variable {s t u m : State} {j k : Fin 32} {x : Slot} {r q : FaultRecord} {order : List WorkItem}

/-! ### What a slot's own items find nothing to do for -/

theorem Steady.looks_eq (h : Steady k x m t) : t.looks k = (x.state == .armed && decide (x.since < m.uptime)) := by
  unfold State.looks
  rw [h.slot, h.calm.uptime]

theorem Steady.triggered_eq (h : Steady k x m t) (same : m.slot k = x) : t.triggered k = m.triggered k := by
  have theta : t.theta = m.theta := congrArg (· / Config.grainsPerCentidegree) h.calm.acc
  have hit (a : Nat) : t.hit a = m.hit a := sweeps_of_calm h.calm (.angleMark a)
  unfold State.triggered State.looks State.trigger
  rw [h.slot, ← same, h.calm.uptime, h.calm.clock, h.calm.cycle]
  simp only [hit]

theorem Steady.quiet_slot (h : Steady k x m t) (looks : ¬ (x.state = .armed ∧ x.since < m.uptime)) : passItem (.slot k) t = t := by
  have quiet : t.triggered k = false := by
    unfold State.triggered
    rw [h.looks_eq, show (x.state == .armed && decide (x.since < m.uptime)) = false from by simpa using looks]
    rfl
  exact if_neg (Bool.eq_false_iff.mp quiet)

theorem Steady.quiet_follow (h : Steady k x m t) (j : Fin 32)
    (quiet : ¬ (x.state = .armed ∧ x.since < m.uptime) ∨ ∀ r ∈ x.record, r.trigger ≠ .afterSlot j) : followSlot j k t = t := by
  unfold followSlot
  refine if_neg fun fires => ?_
  obtain ⟨looks, follows⟩ := Bool.and_eq_true_iff.mp fires
  rw [h.looks_eq] at looks
  rcases quiet with quiet | other
  · exact quiet (by simpa using looks)
  · unfold State.trigger at follows
    rw [h.slot] at follows
    cases record : x.record with
    | none => simp [record] at follows
    | some r =>
      rw [record] at follows
      exact other r record (by simpa using follows)

theorem Steady.quiet_delay (h : Steady k x m t) (quiet : x.state ≠ .waiting ∨ ∀ r ∈ x.record, x.progress < r.delay) :
    passItem (.delayEnd k) t = t := by
  refine if_neg fun due => ?_
  unfold State.delayDue at due
  rw [h.slot] at due
  obtain ⟨waiting, elapsed⟩ := Bool.and_eq_true_iff.mp due
  rcases quiet with other | early
  · exact other (beq_iff_eq.mp waiting)
  · cases record : x.record with
    | none => simp [record] at elapsed
    | some r =>
      have late : r.delay ≤ x.progress := by simpa [record] using elapsed
      exact Nat.not_le.mpr (early r record) late

theorem Steady.quiet_width (h : Steady k x m t) (quiet : x.state ≠ .active ∨ ∀ r ∈ x.record, r.width = 0 ∨ x.progress < r.width) :
    passItem (.widthEnd k) t = t := by
  refine if_neg fun due => ?_
  unfold State.widthDue at due
  rw [h.slot] at due
  obtain ⟨active, elapsed⟩ := Bool.and_eq_true_iff.mp due
  rcases quiet with other | early
  · exact other (beq_iff_eq.mp active)
  · cases record : x.record with
    | none => simp [record] at elapsed
    | some r =>
      have late : 0 < r.width ∧ r.width ≤ x.progress := by simpa [record] using elapsed
      rcases early r record with latched | short
      · exact Nat.ne_of_gt late.1 latched
      · exact Nat.not_le.mpr short late.2

/-- A slot that looks for no trigger and is not due stands through the work. -/
theorem stays_of_quiet (looks : ¬ (x.state = .armed ∧ x.since < m.uptime))
    (delay : .delayEnd k ∈ order → x.state ≠ .waiting ∨ ∀ r ∈ x.record, x.progress < r.delay)
    (width : .widthEnd k ∈ order → x.state ≠ .active ∨ ∀ r ∈ x.record, r.width = 0 ∨ x.progress < r.width)
    (h : Stays k x m t) : Stays k x m (takeWork order t) := by
  refine stays_takeWork (fun v named taken u steady => ?_) (fun j u steady => steady.quiet_follow j (.inl looks)) h
  rcases named with rfl | rfl | rfl
  · exact steady.quiet_slot looks
  · exact steady.quiet_delay (delay (taken.resolve_left nofun))
  · exact steady.quiet_width (width (taken.resolve_left nofun))

/-- An ARMED slot whose moment has not come, and that follows no slot, stands through the work. -/
theorem stays_of_waiting (armed : x.state = .armed) (same : m.slot k = x) (quiet : m.triggered k = false)
    (follows : ∀ j, ∀ r ∈ x.record, r.trigger ≠ .afterSlot j) (h : Stays k x m t) : Stays k x m (takeWork order t) := by
  refine stays_takeWork (fun v named taken u steady => ?_) (fun j u steady => steady.quiet_follow j (.inr (follows j))) h
  rcases named with rfl | rfl | rfl
  · exact if_neg (by rw [steady.triggered_eq same, quiet]; exact nofun)
  · exact steady.quiet_delay (.inl (by rw [armed]; exact nofun))
  · exact steady.quiet_width (.inl (by rw [armed]; exact nofun))

/-- A slot in no alignment is steady. -/
theorem steady_of_held (held : Held none t) (slot : t.slot k = x) (calm : Calm m t) (state : x.state ≠ .aligning) : Steady k x m t :=
  ⟨slot, calm, fun p w wait own => absurd own ((held.own k).no_wait (by rw [slot]; exact state) p w wait)⟩

/-! ### The firing of a trigger whose moment has come (R115, R120, R121) -/

/-- The slot with the late mark of a firing of record `r` at a clock (R120). -/
def lateMark (r : FaultRecord) (clock : Nat) (x : Slot) : Slot :=
  match r.trigger with
  | .time v => { x with late := decide (v < clock) }
  | .atStart | .angle _ _ | .capture _ _ _ | .line _ _ | .afterSlot _ => x

/-- The slot as its trigger fires at a clock. -/
def firedAt (r : FaultRecord) (clock : Nat) (x : Slot) : Slot := firing (lateMark r clock x)

theorem markLate_eq (record : (s.slot k).record = some r) : markLate k s = s.setSlot k (lateMark r s.run.clock (s.slot k)) := by
  have trigger : s.trigger k = some r.trigger := by
    unfold State.trigger
    rw [record]
    rfl
  unfold markLate lateMark
  rw [trigger]
  cases r.trigger with
  | time v => rfl
  | _ => exact (s.setSlot_slot_self k).symm

theorem firedAt_record (r : FaultRecord) (clock : Nat) {x : Slot} (record : x.record = some r) :
    (firedAt r clock x).record = some (x.staged.getD r) := by
  have late : (lateMark r clock x).staged = x.staged ∧ (lateMark r clock x).record = x.record := by
    unfold lateMark
    split <;> exact ⟨rfl, rfl⟩
  unfold firedAt firing
  rw [late.1]
  cases x.staged with
  | none => exact late.2.trans record
  | some q => rfl

theorem lateMark_late (r : FaultRecord) (clock : Nat) (x : Slot) : (lateMark r clock x).late =
    match r.trigger with
    | .time v => decide (v < clock)
    | _ => x.late := by
  unfold lateMark
  cases r.trigger <;> rfl

theorem firedAt_eq (record : x.record = some r) (clock : Nat) : firedAt r clock x =
    { x with
      record := some (x.staged.getD r), staged := none, progress := 0
      remaining := match x.staged with
        | some _ => if (x.staged.getD r).rep = 0 then .endless else .finite (x.staged.getD r).rep
        | none => x.remaining
      late := (lateMark r clock x).late } := by
  have only : lateMark r clock x = { x with late := (lateMark r clock x).late } := by
    unfold lateMark
    split <;> rfl
  generalize (lateMark r clock x).late = late at only ⊢
  unfold firedAt firing
  rw [only]
  cases x.staged with
  | none => exact congrArg (fun o => ({ x with record := o, staged := none, progress := 0, late := late } : Slot)) record
  | some q => rfl

theorem runTrigger_of (triggered : s.triggered k = true) (record : (s.slot k).record = some r) :
    runTrigger k s = fire k (s.setSlot k (lateMark r s.run.clock (s.slot k))) :=
  (if_pos triggered).trans (by rw [markLate_eq record])

theorem runTrigger_delayed (triggered : s.triggered k = true) (record : (s.slot k).record = some r)
    (delay : ((s.slot k).staged.getD r).delay ≠ 0) :
    runTrigger k s = s.setSlot k { firedAt r s.run.clock (s.slot k) with state := .waiting } := by
  have record' := firedAt_record r s.run.clock record
  rw [runTrigger_of triggered record, fire_of_delay (r := (s.slot k).staged.getD r)
    (by rw [State.slot_setSlot_same]; exact record') delay, State.slot_setSlot_same, State.setSlot_setSlot_same]
  rfl

theorem runTrigger_at_once (triggered : s.triggered k = true) (record : (s.slot k).record = some r)
    (delay : ((s.slot k).staged.getD r).delay = 0) :
    runTrigger k s = applySlot k (s.setSlot k (firedAt r s.run.clock (s.slot k))) := by
  have record' := firedAt_record r s.run.clock record
  rw [runTrigger_of triggered record, fire_at_once (r := (s.slot k).staged.getD r)
    (by rw [State.slot_setSlot_same]; exact record') delay, State.slot_setSlot_same, State.setSlot_setSlot_same]
  rfl

theorem triggered_follows (record : (s.slot k).record = some r) (triggered : s.triggered k = true) (j : Fin 32) :
    r.trigger ≠ .afterSlot j := by
  intro follows
  unfold State.triggered State.trigger at triggered
  rw [record] at triggered
  simp [follows] at triggered

theorem triggered_looks (triggered : s.triggered k = true) : (s.slot k).state = .armed :=
  (looks_iff.mp (Bool.and_eq_true_iff.mp triggered).1).1

/-- A slot whose moment has come, with a delay, is WAITING with progress 0 when the microsecond's work is done. -/
theorem fires_delayed (whole : .pause ∉ order) (mem : .slot k ∈ m.run.work) (steady : Steady k x m m) (record : x.record = some r)
    (triggered : m.triggered k = true) (delay : (x.staged.getD r).delay ≠ 0) :
    Stays k { firedAt r m.run.clock x with state := .waiting } m (takeWork order m) := by
  have same := steady.slot
  have armed : x.state = .armed := same ▸ triggered_looks triggered
  have progress : (firedAt r m.run.clock x).progress = 0 := by
    unfold firedAt firing
    split <;> rfl
  have ended (v : WorkItem) {t : State} (over' : t.run.state = .ended) : (passItem v t).run.state = .ended :=
    (shapes_passItem v t).ended over'
  refine takeWork_once (w := .slot k) (A := Stays k x m) (B := Stays k { firedAt r m.run.clock x with state := .waiting } m)
    (fun v t hv ht => ?_) (fun t ht => ?_) (fun v t ht => ?_) whole (fun _ => rfl)
    (fun l t ht => ht.imp id fun steady => steady.parts (.of_waits rfl rfl) (calm_setWork l t))
    (fun l t ht => ht.imp id fun steady => steady.parts (.of_waits rfl rfl) (calm_setWork l t)) mem (.inr steady)
  · refine stays_passItem (fun named u steady => ?_) (fun j u steady => steady.quiet_follow j (.inr fun r' hr' => ?_)) ht
    · rcases named with rfl | rfl | rfl
      · exact absurd rfl hv
      · exact steady.quiet_delay (.inl (by rw [armed]; exact nofun))
      · exact steady.quiet_width (.inl (by rw [armed]; exact nofun))
    · obtain rfl : r = r' := Option.some.inj (record.symm.trans hr')
      exact triggered_follows (same ▸ record) triggered j
  · refine ht.imp (ended _) fun here => ?_
    have fired := runTrigger_delayed (s := t) ((here.triggered_eq same).trans triggered) (here.slot ▸ record) (here.slot ▸ delay)
    rw [here.slot, here.calm.clock] at fired
    have calm := calm_passItem (.slot k) t
    have eq : passItem (.slot k) t = t.setSlot k { firedAt r m.run.clock x with state := .waiting } := fired
    rw [eq] at calm ⊢
    exact ⟨State.slot_setSlot_same _ _ _, here.calm.trans calm, here.fresh⟩
  · refine stays_passItem (fun named u steady => ?_) (fun j u steady => steady.quiet_follow j (.inl nofun)) ht
    rcases named with rfl | rfl | rfl
    · exact steady.quiet_slot nofun
    · refine steady.quiet_delay (.inr fun q hq => ?_)
      obtain rfl : x.staged.getD r = q := Option.some.inj ((firedAt_record r m.run.clock record).symm.trans hq)
      rw [show ({ firedAt r m.run.clock x with state := .waiting } : Slot).progress = 0 from progress]
      exact Nat.pos_of_ne_zero delay
    · exact steady.quiet_width (.inl nofun)

/-- An edge-aligned path at its apply: its slot is ALIGNING and its wait begins (R145). -/
theorem applySlot_aligned {p : Fin 24} (record : (s.slot k).record = some r) (free : ∀ g ∈ r.action.targets, s.holder g = none)
    (action : r.action = .openPin p ∨ r.action = .shortGnd p) (aligned : r.aligned = true) :
    (applySlot k s).slot k = { s.slot k with state := .aligning }
      ∧ ∀ q, ∀ w ∈ (applySlot k s).wait q, w.since = s.uptime ∨ w ∈ s.wait q := by
  rw [applySlot_of_free record free]
  have slot := takeHolders_slot k r.action.targets s k
  have frame := takeHolders_frame k r.action.targets s
  generalize takeHolders k r.action.targets s = u at slot frame ⊢
  have uptime : u.uptime = s.uptime := (congrArg State.uptime frame :)
  have wait (q : Fin 24) : u.wait q = s.wait q := (congrArg (fun v : State => v.wait q) frame :)
  have switched (ground : Bool) : (applySwitch k p ground true u).slot k = { s.slot k with state := .aligning }
      ∧ ∀ q, ∀ w ∈ (applySwitch k p ground true u).wait q, w.since = s.uptime ∨ w ∈ s.wait q := by
    unfold applySwitch
    rw [if_pos rfl, State.slot_setSlot_same, slot]
    refine ⟨rfl, fun q w hw => ?_⟩
    rw [State.setSlot_wait, State.wait_setWait] at hw
    split at hw
    · cases hw
      exact .inl uptime
    · exact .inr (wait q ▸ hw)
  unfold proceed
  rcases action with e | e <;> rw [e, aligned] <;> exact switched _

theorem conflict_marks (k : Fin 32) (s : State) :
    (conflict k s).isPending .fault = true ∧ (conflict k s).ntc.faultMask.getLsbD k.val = true := by
  obtain ⟨-, ntc, -⟩ := conflict_frame k s
  unfold State.isPending
  rw [ntc]
  exact raiseFault_marks k s

/-- A slot that has counted a repetition is idle, or ARMED from this microsecond on. -/
theorem counted_states (now : Nat) (x : Slot) :
    ((counted now x).state = .loaded ∨ (counted now x).state = .done ∨ (counted now x).state = .armed)
      ∧ ((counted now x).state = .armed → (counted now x).since = now) := by
  cases left : x.remaining with
  | endless => simp [counted, left]
  | finite n =>
    by_cases last : Reps.finite (n - 1) = .finite 0
    · cases staged : x.staged <;> simp [counted, left, staged, last]
    · simp [counted, left, last]

/-- What is ordered first is taken first. -/
theorem takeWork_cons {w : WorkItem} (h : w ≠ .pause) (order : List WorkItem) (s : State) :
    takeWork (w :: order) s = takeWork order (namedItem w s) := by
  unfold takeWork
  rw [List.takeWhile_cons_of_pos (by simpa using h), forEach_cons]
  simp [Ne.symm h]

/-- A slot ordered first, its moment come and with no delay, applies at once. -/
theorem namedItem_at_once (mem : .slot k ∈ m.run.work) (slot : m.slot k = x) (record : x.record = some r)
    (triggered : m.triggered k = true) (delay : (x.staged.getD r).delay = 0) :
    namedItem (.slot k) m = applySlot k ((m.setWork (m.run.work.erase (.slot k))).setSlot k (firedAt r m.run.clock x)) := by
  have taken : namedItem (.slot k) m = runTrigger k (m.setWork (m.run.work.erase (.slot k))) := if_pos (by simpa using mem)
  rw [taken, runTrigger_at_once (s := m.setWork (m.run.work.erase (.slot k))) triggered (slot ▸ record) (slot ▸ delay), ← slot]
  rfl

/-- A slot that holds its targets when the work is done is their holder. -/
theorem holder_of_held (held : Held none t) (slot : t.slot k = x) (holds : holding x) (record : x.record = some r) :
    ∀ g ∈ r.action.targets, t.holder g = some k := fun g hg =>
  ((held.own k).holder g).mpr ⟨slot ▸ holds, by rw [slot, recordTargets_of_record record]; exact hg⟩

/-- What the slot is at the opening of a run microsecond (R122, R128). -/
theorem Opens.slotted (h : Opens order s (beginMicro s) m) (k : Fin 32) : m.slot k = (s.slot k).counted m.sweepSize := by
  have begun := beginMicro_rest s
  have opened := h.slot k
  have rest := h.rest
  generalize beginMicro s = b at begun opened rest
  rw [opened, show m.sweepSize = (advance b).sweepSize from (congrArg State.sweepSize rest :),
    show b.slot k = s.slot k from (congrArg (fun u : State => u.slot k) begun :)]

theorem Slot.counted_of_still {x : Slot} (record : x.record = some r) (h : x.state ≠ .waiting) (h' : x.state = .active → r.width = 0)
    (sweep : Nat) : x.counted sweep = x := by
  unfold Slot.counted
  rw [record]
  exact if_neg fun counts => counts.elim h fun ⟨active, width⟩ => width (h' active)

theorem Slot.counted_of_counting {x : Slot} (record : x.record = some r) (h : x.state = .waiting ∨ x.state = .active ∧ r.width ≠ 0)
    (sweep : Nat) : x.counted sweep = { x with progress := x.progress + if r.measure = .time then 1 else sweep } := by
  unfold Slot.counted
  rw [record]
  refine (if_pos h).trans ?_
  cases r.measure <;> rfl

theorem Rotation.advance_prevTheta (r : Rotation) : r.advance.withLines.prevTheta = r.acc / Config.grainsPerCentidegree := by
  have fixed := ({ r with prevTheta := r.acc / Config.grainsPerCentidegree } : Rotation).played_fixed
  have played := congrArg (·.2.2.2.2.2.2) fixed
  exact (Rotation.turn_rest _).2.1.trans played

/-- The moment of a trigger in a run microsecond (R119, R120). -/
theorem triggered_iff (slot : m.slot k = x) (armed : x.state = .armed) (since : x.since < m.uptime) (record : x.record = some r) :
    m.triggered k = true ↔ match r.trigger with
      | .atStart => True
      | .angle a n => m.hit a = true ∧ (n = none ∨ n = some m.rot.cycle)
      | .time v => v ≤ m.run.clock
      | .capture _ _ _ | .line _ _ | .afterSlot _ => False := by
  have looks : m.looks k = true := looks_iff.mpr ⟨slot ▸ armed, slot ▸ since⟩
  have trigger : m.trigger k = some r.trigger := by
    unfold State.trigger
    rw [slot, record]
    rfl
  unfold State.triggered
  rw [looks, trigger, Bool.true_and]
  cases r.trigger with
  | angle a n => cases n <;> simp
  | time v => exact decide_eq_true_iff
  | _ => simp

/-- Settles O39: a slot stands through the work of a run microsecond but for its own item, taken once. -/
theorem triggersFireAtTheirMoment : Obligations.TriggersFireAtTheirMoment := by
  intro order k r s law running work due record x
  have opens := opens_openMicro order s (beginMicro s)
  have held : Held none (openMicro order s (beginMicro s)) := (held_iff.mpr law).beginMicro.openMicro order s
  have exec_eq := exec_runMicrosecond order running work due
  generalize openMicro order s (beginMicro s) = m at opens held exec_eq
  have formed := opens.formed
  have slotted := opens.slotted k
  have calm := calm_takeWork order m
  have held' := held.takeWork order
  refine ⟨_, exec_eq, fun going => ?_⟩
  intro swept counts meets q fired free
  have rot : m.rot = s.rot.advance.withLines := (congrArg State.rot formed :)
  have theta : (takeWork order m).theta = m.theta := congrArg (· / Config.grainsPerCentidegree) calm.acc
  have uptime : m.uptime = s.uptime + 1 := (congrArg State.uptime formed :)
  have stood {y : Slot} (h : Stays k y m (takeWork order m)) : (takeWork order m).slot k = y :=
    (h.resolve_left going).slot
  have sweep : m.sweepSize = swept := by
    have before : m.rot.prevTheta = s.theta := (congrArg Rotation.prevTheta rot :).trans s.rot.advance_prevTheta
    show (m.theta + 72000 - m.rot.prevTheta) % 72000 = _
    rw [before, ← theta]
  have counting (h : x.state = .waiting ∨ x.state = .active ∧ r.width ≠ 0) : Steady k counts m m := by
    refine steady_of_held held (slotted.trans ?_) (.refl m) ?_
    · rw [Slot.counted_of_counting record h, sweep]
    · rcases h with waiting | ⟨active, -⟩
      · exact fun aligning => nomatch waiting.symm.trans aligning
      · exact fun aligning => nomatch active.symm.trans aligning
  refine ⟨fun armed since range angle => ?_, fun waiting quiet => ?_, fun active width quiet => ?_, fun active width => ?_⟩
  · have still : Steady k x m m := by
      refine steady_of_held held (slotted.trans (Slot.counted_of_still record ?_ ?_ _)) (.refl m) ?_
      · exact fun waiting => nomatch armed.symm.trans waiting
      · exact fun active => nomatch armed.symm.trans active
      · exact fun aligning => nomatch armed.symm.trans aligning
    have before : s.theta < 72000 := Nat.div_lt_of_lt_mul (by simpa [Config.grainsPerCentidegree] using range)
    have meets_iff : meets ↔ m.triggered k = true := by
      rw [triggered_iff still.slot armed (by rw [uptime]; exact Nat.lt_succ_of_le since) record]
      dsimp only [meets]
      rw [calm.cycle, calm.clock]
      cases trigger : r.trigger with
      | angle a n =>
        have prev : m.rot.prevTheta = s.theta := (congrArg Rotation.prevTheta rot :).trans s.rot.advance_prevTheta
        have hit : m.hit a = (decide (1 ≤ (a + 72000 - s.theta) % 72000) && decide ((a + 72000 - s.theta) % 72000 ≤ swept)) := by
          rw [← sweep, ← prev]
          rfl
        dsimp only
        rw [hit, ← reached_iff (angle a n trigger) before swept (Nat.mod_lt _ (by decide))]
        simp
      | _ => exact .rfl
    have fired_eq : firedAt r m.run.clock x = fired := by
      rw [firedAt_eq record, ← calm.clock, lateMark_late] <;> rfl
    refine ⟨fun not_met follows => ?_, fun met whole delay => ?_, fun met delay behind first => ?_⟩
    · refine stood (stays_of_waiting armed still.slot (Bool.eq_false_iff.mpr (mt meets_iff.mpr not_met)) (fun j r' hr' => ?_) (.inr still))
      obtain rfl : r = r' := Option.some.inj (record.symm.trans hr')
      exact follows j
    · rw [← fired_eq]
      exact stood (fires_delayed whole (opens.work ▸ slot_mem s (meets_iff.mp met)) still record (meets_iff.mp met) delay)
    · subst first
      have triggered := meets_iff.mp met
      have mem : .slot k ∈ m.run.work := opens.work ▸ slot_mem s triggered
      have applies := namedItem_at_once mem still.slot record triggered delay
      have heldu := held.namedItem (.slot k)
      have calmu := calm_namedItem (.slot k) m
      have rest := takeWork_cons (w := .slot k) nofun behind m
      rw [fired_eq] at applies
      rw [rest] at stood held' ⊢
      generalize namedItem (.slot k) m = u at applies heldu calmu stood held' ⊢
      have here (g : Fin 45) : ((m.setWork (m.run.work.erase (.slot k))).setSlot k fired).holder g = s.holder g :=
        (congrArg (fun u : State => u.holder g) formed :)
      have finish {y : Slot} (steady : Steady k y m u) (looks : ¬ (y.state = .armed ∧ y.since < m.uptime)) (waits : y.state ≠ .waiting)
          (width : y.state ≠ .active ∨ y.progress = 0) : (takeWork behind u).slot k = y := by
        refine stood (stays_of_quiet looks (fun _ => .inl waits) (fun _ => width.imp id fun begins r' _ => ?_) (.inr steady))
        rw [begins]
        exact Nat.eq_zero_or_pos _
      generalize hv : (m.setWork (m.run.work.erase (.slot k))).setSlot k fired = v at applies here
      have slot_v : v.slot k = fired := hv ▸ State.slot_setSlot_same _ _ _
      have record_v : (v.slot k).record = some q := slot_v ▸ rfl
      have uptime_v : v.uptime = m.uptime := hv ▸ rfl
      refine ⟨fun free relay target now => ?_, fun free p action aligned => ?_, fun free path relay => ?_, fun conflicts => ?_⟩
      · have applied := applySlot_instant record_v (fun g hg => (here g).trans (free g hg)) ⟨relay, target, now⟩
        rw [← applies] at applied
        have slot : u.slot k = entered fired := applied.slot.trans (by rw [slot_v])
        have stands := finish (steady_of_held heldu slot calmu nofun) nofun nofun (.inr rfl)
        exact ⟨stands, holder_of_held held' stands (.inr (.inr (.inl rfl))) rfl⟩
      · have target : q.action.targets = [pinTarget p] := by rcases action with e | e <;> rw [e] <;> rfl
        have free_v (g : Fin 45) (hg : g ∈ q.action.targets) : v.holder g = none := (here g).trans (free g hg)
        have aligning := applySlot_aligned record_v free_v action aligned
        rw [← applies, slot_v] at aligning
        have slot : u.slot k = { fired with state := .aligning } := aligning.1
        have steady : Steady k { fired with state := .aligning } m u := by
          refine ⟨slot, calmu, fun p' w wait own => ?_⟩
          rcases aligning.2 p' w wait with now | old
          · rw [now, uptime_v]
          · rw [← hv] at old
            exact still.fresh p' w old own
        have stands := finish steady nofun nofun (.inl nofun)
        exact ⟨stands, holder_of_held held' stands (.inl rfl) rfl (pinTarget p) (target ▸ List.mem_singleton_self _)⟩
      · have handed := applySlot_relay record_v (fun g hg => (here g).trans (free g hg)) relay
        rw [← applies] at handed
        have slot : u.slot k = { fired with state := .pending } := handed.slot.trans (by rw [slot_v])
        have stands := finish (steady_of_held heldu slot calmu nofun) nofun nofun (.inl nofun)
        exact ⟨stands, holder_of_held held' stands (.inr (.inl rfl)) rfl⟩
      · have conflicted := applySlot_of_held record_v fun all => conflicts fun g hg => (here g).symm.trans (all g hg)
        rw [conflicted] at applies
        have slot : u.slot k = counted (s.uptime + 1) { fired with outcome := .conflict } := by
          rw [applies, conflict_slot_same, slot_v, uptime_v, uptime]
        have marks : u.isPending .fault = true ∧ u.ntc.faultMask.getLsbD k.val = true := applies ▸ conflict_marks k v
        have grows := (shapes_takeWork behind u).grows
        obtain ⟨idle, later⟩ := counted_states (s.uptime + 1) { fired with outcome := .conflict }
        have stands := finish (steady_of_held heldu slot calmu fun e => by simp [e] at idle)
          (fun ⟨armed, early⟩ => by
            rw [later armed, uptime] at early
            exact Nat.lt_irrefl _ early) (fun e => by simp [e] at idle) (.inl fun e => by simp [e] at idle)
        exact ⟨stands, grows.pending _ marks.1, grows.faultMask _ marks.2⟩
  · exact stood (stays_of_quiet (fun looks => nomatch waiting.symm.trans looks.1) (fun named => absurd named quiet)
      (fun _ => .inl fun active => nomatch waiting.symm.trans active) (.inr (counting (.inl waiting))))
  · exact stood (stays_of_quiet (fun looks => nomatch active.symm.trans looks.1)
      (fun _ => .inl fun waiting => nomatch active.symm.trans waiting) (fun named => absurd named quiet)
      (.inr (counting (.inr ⟨active, width⟩))))
  · have still : Steady k x m m := by
      refine steady_of_held held (slotted.trans (Slot.counted_of_still record ?_ (fun _ => width) _)) (.refl m) ?_
      · exact fun waiting => nomatch active.symm.trans waiting
      · exact fun aligning => nomatch active.symm.trans aligning
    refine stood (stays_of_quiet (fun looks => nomatch active.symm.trans looks.1)
      (fun _ => .inl fun waiting => nomatch active.symm.trans waiting) (fun _ => .inr fun r' hr' => .inl ?_) (.inr still))
    obtain rfl : r = r' := Option.some.inj (record.symm.trans hr')
    exact width

end Sys2Proof.Machine
end

section
/-! PROOFS. Entries into STARVED after a slot's end or a flush, and the run's end they may cause: O24, O23. -/

namespace Sys2Proof.Machine

open Sys2Proof.Safety

variable {s t u : State} {n m : Fin 16} {v : Nat} {a : ActiveSeg} {r : EndReason}

/-! ### Channels noted in the CHANNEL notice (R66) -/

/-- CHANNEL is raised with this channel's bit. -/
def State.noted (s : State) (n : Fin 16) : Prop := s.isPending .channel = true ∧ s.ntc.channelMask.getLsbD n.val = true

theorem State.noted.grows (h : s.noted n) (g : s.ntc.Grows t.ntc) : t.noted n := ⟨g.pending _ h.1, g.channelMask _ h.2⟩

theorem noted_raiseChannel (n : Fin 16) (s : State) : (raiseChannel n s).noted n :=
  ⟨isPending_raise_self .channel s, by simp [raiseChannel]⟩

theorem noted_raiseCause {c : CauseSel} (h : (s.chan n).cause = c) : (raiseCause n c s).noted n := by
  rw [raiseCause, if_pos h]
  exact noted_raiseChannel n s

/-! ### The entry into STARVED (R61) -/

/-- A channel starved with the value it will hold. -/
def Channel.starved (c : Channel) (v : Nat) : Channel := { c with active := none, state := .starved, held := some v }

theorem enterStarved_eq (n : Fin 16) (v : Nat) (s : State) :
    enterStarved n v s
      = if (s.chan n).cause = .starved then raiseChannel n (s.setChan n ((s.chan n).starved v))
        else s.setChan n ((s.chan n).starved v) := by
  unfold enterStarved raiseCause
  exact if_congr (by rw [starve, State.chan_setChan_same]) rfl rfl

theorem enterStarved_rest (n : Fin 16) (v : Nat) (s : State) :
    ((enterStarved n v s).chans, (enterStarved n v s).run, (enterStarved n v s).rot)
      = ((s.setChan n ((s.chan n).starved v)).chans, s.run, s.rot) := by
  rw [enterStarved_eq]
  split <;> rfl

theorem enterStarved_run (n : Fin 16) (v : Nat) (s : State) : (enterStarved n v s).run = s.run :=
  (Prod.mk.inj (Prod.mk.inj (enterStarved_rest n v s)).2).1

theorem enterStarved_rot (n : Fin 16) (v : Nat) (s : State) : (enterStarved n v s).rot = s.rot :=
  (Prod.mk.inj (Prod.mk.inj (enterStarved_rest n v s)).2).2

theorem enterStarved_chan (n : Fin 16) (v : Nat) (s : State) (m : Fin 16) :
    (enterStarved n v s).chan m = if m = n then (s.chan n).starved v else s.chan m := by
  have chans : (enterStarved n v s).chan m = (s.setChan n ((s.chan n).starved v)).chan m :=
    congrArg (getAt · m) (Prod.mk.inj (enterStarved_rest n v s)).1
  rw [chans, State.chan_setChan]

theorem enterStarved_other (n : Fin 16) (v : Nat) (s : State) (h : m ≠ n) : (enterStarved n v s).chan m = s.chan m := by
  rw [enterStarved_chan, if_neg h]

theorem noted_enterStarved (v : Nat) (h : (s.chan n).cause = .starved) : (enterStarved n v s).noted n :=
  noted_raiseCause (by rw [starve, State.chan_setChan_same]; exact h)

/-- With one channel STARVED and empty, the drained condition is that of the others. -/
theorem dry_iff_others (starved : (t.chan n).state = .starved) (queue : (t.chan n).queue = [])
    (others : ∀ m, m ≠ n → t.chan m = s.chan m) : Dry t ↔ OthersDry s n := by
  constructor
  · intro dry m hm
    rw [← others m hm]
    exact dry m
  · intro dry m enable mode
    by_cases this : m = n
    · rw [this]
      exact ⟨starved, queue⟩
    · rw [others m this] at enable mode ⊢
      exact dry m this enable mode

/-! ### The run's end (R44) and the channels that starve in its microsecond (R61, log entry 23) -/

theorem starves_of_endsDry (h : EndsDry (s.chan n)) : s.starves n = true := by
  obtain ⟨a, active, ahead, played, last, rep, pass, queue⟩ := h
  simp [State.starves, State.sampleEndDue, ActiveSeg.goesOn, active, ahead, played, last, rep, pass, queue]

theorem noted_sourceEnd (h : EndsDry (s.chan n)) (cause : (s.chan n).cause = .starved) : (sourceEnd n s).noted n := by
  unfold sourceEnd
  rw [if_pos (starves_of_endsDry h)]
  exact noted_raiseCause cause

theorem noted_enterEnded (r : EndReason) (h : EndsDry (s.chan n)) (cause : (s.chan n).cause = .starved) :
    (enterEnded r s).noted n := by
  have sources : (endBlocks r s).noted n :=
    forEach_once (w := n) (A := fun t => t.chan n = s.chan n) (B := fun t => t.noted n)
      (fun m _ hm t ht => by rw [sourceEnd_chan, if_neg (Ne.symm hm), ht])
      (fun t ht => noted_sourceEnd (ht ▸ h) (ht ▸ cause)) (fun m _ t ht => ht.grows (sourceEnd_grows m t))
      (mem_allChannels n) (s := endNoted r s) rfl
  rw [enterEnded_eq]
  exact sources.grows (works_returnSlots _).grows

/-- From `s` to `t` the run has ended with its reason and RUN raised: the sources are stopped, the channels noted before
stay noted, and those that starve in this microsecond are noted. -/
structure Closed (r : EndReason) (s t : State) : Prop where
  state : t.run.state = .ended
  reason : t.run.endReason = r
  raised : t.isPending .run = true
  stopped : ∀ n, (t.chan n).state = .stopped
  notes : ∀ n, s.noted n → t.noted n
  dry : ∀ n, EndsDry (s.chan n) → (s.chan n).cause = .starved → t.noted n

theorem closed_enterEnded (r : EndReason) (h : s.inRun = true) : Closed r s (enterEnded r s) where
  state := (enterEnded_state r s).1
  reason := (enterEnded_state r s).2
  raised := isPending_run_enterEnded r s
  stopped n := by rw [(ends_enterEnded r h).chan n]; rfl
  notes _ noted := noted.grows (enterEnded_grows r s)
  dry _ := noted_enterEnded r

/-! ### What is handed to the Run Controller (R42, R43, log entry 16) -/

theorem underrunCause_of_not (h : ¬ (s.run.config.stopOnUnderrun = true ∧ s.run.state = .running)) : underrunCause s = s := by
  unfold underrunCause runningCause
  by_cases stop : s.run.config.stopOnUnderrun = true
  · rw [if_pos stop, if_neg fun running => h ⟨stop, running⟩]
  · rw [if_neg stop]

theorem drainedTest_closed (h : s.drainedNow = true) : Closed .drained s (drainedTest s) := by
  rw [drainedTest_of h]
  exact closed_enterEnded _ (drainedNow_inRun h)

theorem handStarved_underrun (stop : s.run.config.stopOnUnderrun = true) (running : s.run.state = .running) :
    Closed .underrun s (handStarved s) := by
  have ended : (enterEnded .underrun s).inRun = false := inRun_of_ended (enterEnded_state _ s).1
  unfold handStarved underrunCause runningCause
  rw [if_pos stop, if_pos running, drainedTest_of_not fun ⟨_, run, _⟩ => nomatch ended.symm.trans run]
  exact closed_enterEnded _ (inRun_of_running running)

/-- The channel is STARVED with its queue empty: UNDERRUN, DRAINED, or the run goes on. -/
theorem handStarved_cases (starved : (t.chan n).state = .starved) (queue : (t.chan n).queue = [])
    (others : ∀ m, m ≠ n → t.chan m = s.chan m) (run : t.run = s.run) (rot : t.rot = s.rot) :
    let under := s.run.config.stopOnUnderrun = true ∧ s.run.state = .running
    let drains := s.run.config.endOnDrain = true ∧ s.inRun = true ∧ s.rot.drained = true ∧ OthersDry s n
    (¬ under → ¬ drains → handStarved t = t) ∧ (under → Closed .underrun t (handStarved t))
      ∧ (drains → ¬ under → Closed .drained t (handStarved t)) := by
  intro under drains
  have dry := dry_iff_others starved queue others
  have caused : ¬ under → underrunCause t = t := fun h => underrunCause_of_not (by rw [run]; exact h)
  have drained : t.drainedNow = true ↔ drains := by
    rw [drainedNow_iff, inRun_congr run, run, rot, dry]
  refine ⟨fun over' goes => ?_, fun ⟨stop, running⟩ => ?_, fun now over' => ?_⟩
  · rw [handStarved, caused over', drainedTest, if_neg (mt drained.mp goes)]
  · exact handStarved_underrun (run ▸ stop) (run ▸ running)
  · rw [handStarved, caused over']
    exact drainedTest_closed (drained.mpr now)

/-! ### The end of a sample slot (R57 to R60) -/

theorem sampleEndDue_of (h : (s.chan n).active = some a) : s.sampleEndDue n = (a.ahead == .slot && decide (a.seg.period ≤ a.played)) := by
  rw [State.sampleEndDue, h]
  rfl

theorem sampleEnd_of_early (h : (s.chan n).active = some a) (early : a.ahead ≠ .slot ∨ a.played < a.seg.period) :
    sampleEnd n s = s := by
  refine if_neg ?_
  rw [sampleEndDue_of h]
  simp only [Bool.and_eq_true, beq_iff_eq, decide_eq_true_eq, not_and, Nat.not_le]
  exact fun slot => early.resolve_left (not_not_intro slot)

theorem sampleEnd_of_due (h : (s.chan n).active = some a) (slot : a.ahead = .slot) (played : a.seg.period ≤ a.played) :
    sampleEnd n s =
      if a.index + 1 < a.seg.length then s.setChan n { s.chan n with active := some { a with ahead := .nextSlot } }
      else if a.goesOn (!(s.chan n).queue.isEmpty) then s.setChan n { s.chan n with active := some { a with ahead := .nextPass } }
      else segmentEnd n a.sample s := by
  have due : s.sampleEndDue n = true := by simp [sampleEndDue_of h, slot, played]
  rw [sampleEnd, if_pos due]
  dsimp only
  rw [h]

theorem goesOn_iff {queue : List Segment} : a.goesOn (!queue.isEmpty) = true ↔
    (a.seg.rep = 0 ∧ queue = []) ∨ (a.seg.rep ≠ 0 ∧ a.pass < a.seg.rep) := by
  unfold ActiveSeg.goesOn
  by_cases loop : a.seg.rep = 0 <;> simp [loop]

/-- A segment that ends takes the head of the queue, and raises TAKEN where its channel selects that cause. -/
theorem segmentEnd_of_queued {g : Segment} {rest : List Segment} (queue : (s.chan n).queue = g :: rest) :
    segmentEnd n v s = (if (s.chan n).cause = .taken then raiseChannel n else id)
      (s.setChan n { s.chan n with queue := rest, state := .playing, active := some g.fresh }) := by
  unfold segmentEnd
  rw [queue]
  dsimp only
  rw [raiseCause, takeSegment, State.chan_setChan_same]
  split <;> rfl

theorem segmentEnd_of_empty (queue : (s.chan n).queue = []) : segmentEnd n v s = handStarved (enterStarved n v s) := by
  unfold segmentEnd
  rw [queue]

/-- Settles O24: the next slot, the next pass, the next segment, or STARVED with what that hands to the Run Controller. -/
theorem sampleSlotEndGoesOn : Obligations.SampleSlotEndGoesOn := by
  refine ⟨fun n a s active => ⟨fun early => ?_, fun slot played => ⟨fun inside => ?_, fun last goes => ?_, fun last passed g rest queue => ?_⟩⟩,
    fun n a s active slot played last rep passed queue => ?_⟩
  · exact congrArg Host.Outcome.next (sampleEnd_of_early active early)
  · refine congrArg Host.Outcome.next ((sampleEnd_of_due active slot played).trans (if_pos inside))
  · refine congrArg Host.Outcome.next ((sampleEnd_of_due active slot played).trans ?_)
    rw [if_neg (Nat.not_lt.mpr last), if_pos (goesOn_iff.mpr goes)]
  · refine congrArg Host.Outcome.next ((sampleEnd_of_due active slot played).trans ?_)
    have ends : ¬ a.goesOn (!(s.chan n).queue.isEmpty) = true := fun goes => by
      rcases goesOn_iff.mp goes with ⟨-, empty⟩ | ⟨rep, pass⟩
      · exact nomatch queue.symm.trans empty
      · exact Nat.not_le.mpr pass (passed.resolve_left rep)
    rw [if_neg (Nat.not_lt.mpr last), if_neg ends, segmentEnd_of_queued queue]
    rfl
  · intro starved under drains ends
    have taken : exec (.sampleSlotEnd n) s = .next (handStarved (enterStarved n a.sample s)) := by
      have over' : ¬ a.goesOn (!(s.chan n).queue.isEmpty) = true := fun goes => by
        rcases goesOn_iff.mp goes with ⟨loop, -⟩ | ⟨-, pass⟩
        · exact rep loop
        · exact Nat.not_le.mpr pass passed
      refine congrArg Host.Outcome.next ((sampleEnd_of_due active slot played).trans ?_)
      rw [if_neg (Nat.not_lt.mpr last), if_neg over', segmentEnd_of_empty queue]
    have chan : (enterStarved n a.sample s).chan n = (s.chan n).starved a.sample := by rw [enterStarved_chan, if_pos rfl]
    obtain ⟨goes, underruns, drained⟩ := handStarved_cases (s := s) (t := enterStarved n a.sample s) (n := n) (by rw [chan]; rfl)
      (by rw [chan]; exact queue) (fun m hm => enterStarved_other n _ s hm) (enterStarved_run n _ s) (enterStarved_rot n _ s)
    have closes {r : EndReason} (h : Closed r (enterStarved n a.sample s) (handStarved (enterStarved n a.sample s))) : ends r := by
      refine ⟨_, taken, h.state, h.reason, h.raised, h.stopped n, fun m hm cause => ?_⟩
      by_cases this : m = n
      · subst this
        exact h.notes m (noted_enterStarved _ cause)
      · have same := enterStarved_other n a.sample s this
        exact h.dry m (same ▸ hm.resolve_left this) (same ▸ cause)
    refine ⟨fun over' stays => ?_, fun h => closes (underruns h), fun h h' => closes (drained h h')⟩
    rw [taken, goes over' stays, enterStarved_eq]
    rfl

/-! ### SEGMENT-FLUSH (R62) -/

/-- The queue is emptied. -/
def State.emptied (s : State) (n : Fin 16) : State := s.setChan n { s.chan n with queue := [] }

theorem exec_segmentFlush (n f : Nat) (s : State) : exec (.segmentFlush n f) s = .next (respond 0x35 (reqSegmentFlush n f s)) := rfl

theorem reqSegmentFlush_of_bad {channel abort : Nat} (h : 15 < channel ∨ 1 < abort) :
    reqSegmentFlush channel abort s = (s, { status := .badField, body := [0, 0] }) := by
  unfold reqSegmentFlush
  rcases h with large | large
  · rw [index?_eq_none large]
    rfl
  · rw [flag?_eq_none large]
    cases index? 16 channel <;> rfl

theorem reqSegmentFlush_of_stream {f : Nat} (hf : f < 2) (mode : (s.chan n).mode = .stream) :
    reqSegmentFlush n.val f s = (flushChannel n (decide (f = 1)) s,
      { status := .ok, body := le 1 (s.chan n).queue.length ++ [if decide (f = 1) && (s.chan n).active.isSome then 1 else 0] }) := by
  unfold reqSegmentFlush
  rw [index?_of_eq rfl, flag?_of_le (Nat.le_of_lt_succ hf)]
  dsimp only
  rw [if_pos mode]
  rfl

theorem reqSegmentFlush_of_other {f : Nat} (hf : f < 2) (mode : (s.chan n).mode ≠ .stream) :
    reqSegmentFlush n.val f s = (s, { status := .ok, body := [0, 0] }) := by
  unfold reqSegmentFlush
  rw [index?_of_eq rfl, flag?_of_le (Nat.le_of_lt_succ hf)]
  dsimp only
  rw [if_neg mode]
  rfl

/-- An active segment is discarded: in a run the channel is STARVED with its sample. -/
theorem flushChannel_of_cut {abort : Bool} (h : (abort && (s.chan n).active.isSome) = true) :
    flushChannel n abort s = if s.inRun then handStarved (enterStarved n (s.chan n).source (s.emptied n))
      else s.setChan n { s.chan n with queue := [], active := none } := by
  rw [flushChannel]
  dsimp only
  rw [if_pos h, State.chan_setChan_same, State.setChan_setChan_same]
  rfl

theorem flushChannel_of_dry {abort : Bool} (h : (abort && (s.chan n).active.isSome) = false)
    (starved : (s.chan n).state = .starved) (queue : (s.chan n).queue ≠ []) :
    flushChannel n abort s = drainedTest (s.emptied n) := by
  have dry : ((s.chan n).state == .starved && !(s.chan n).queue.isEmpty) = true := by simp [starved, queue]
  rw [flushChannel]
  dsimp only
  rw [h, if_neg Bool.false_ne_true, if_pos dry]
  rfl

theorem flushChannel_of_plain {abort : Bool} (h : (abort && (s.chan n).active.isSome) = false)
    (plain : ¬ ((s.chan n).state = .starved ∧ (s.chan n).queue ≠ [])) :
    flushChannel n abort s = if (s.emptied n).awaitsFlush n then starveAtStart n (s.emptied n) else s.emptied n := by
  have wet : ¬ ((s.chan n).state == .starved && !(s.chan n).queue.isEmpty) = true := by simpa using plain
  rw [flushChannel]
  dsimp only
  rw [h, if_neg Bool.false_ne_true, if_neg wet]
  rfl

theorem awaitsFlush_iff : s.awaitsFlush n = true ↔ s.inRun = true ∧ s.run.begun = true ∧ (s.chan n).enable = true
    ∧ (s.chan n).state = .stopped ∧ (s.chan n).active = none := by
  simp only [State.awaitsFlush, Bool.and_eq_true, beq_iff_eq, Option.isNone_iff_eq_none, and_assoc]

theorem awaitsFlush_emptied : (s.emptied n).awaitsFlush n = s.awaitsFlush n := by
  rw [Bool.eq_iff_iff, awaitsFlush_iff, awaitsFlush_iff, State.emptied, State.chan_setChan_same]
  rfl

theorem starveAtStart_emptied (n : Fin 16) (s : State) :
    starveAtStart n (s.emptied n)
      = (s.setChan n { s.chan n with
            queue := [], active := none, state := .starved, held := some (if n.val < 12 then (s.chan n).restCode else 0) }).setWork
          ((if (s.chan n).cause = .starved then [.channelNotice n] else []) ++ .underrun n :: s.run.work) := by
  unfold starveAtStart starve State.emptied
  simp only [State.chan_setChan_same, State.setChan_setChan_same, Channel.restSource, List.append_assoc, List.singleton_append]
  rfl

/-- The queues as a flush of the channel leaves them. -/
structure Flushed (abort : Bool) (n : Fin 16) (s t : State) : Prop where
  queue : (t.chan n).queue = []
  active : abort = true → (t.chan n).active = none
  others : ∀ m, m ≠ n → (t.chan m).queue = (s.chan m).queue

theorem Works.queue (h : Works s t) (n : Fin 16) : (t.chan n).queue = (s.chan n).queue := by
  rcases h.run with g | e
  · rw [g.chan n]
  · rw [e.chan n]
    rfl

theorem Works.idle (h : Works s t) (idle : (s.chan n).active = none) : (t.chan n).active = none := by
  rcases h.run with g | e
  · rw [g.chan n]
    exact idle
  · rw [e.chan n]
    rfl

theorem Flushed.works {abort : Bool} (h : Flushed abort n s t) (w : Works t u) : Flushed abort n s u :=
  ⟨(w.queue n).trans h.queue, fun on => w.idle (h.active on), fun m hm => (w.queue m).trans (h.others m hm)⟩

theorem flushed_setChan {abort : Bool} {c : Channel} (queue : c.queue = []) (active : abort = true → c.active = none) :
    Flushed abort n s (s.setChan n c) := by
  refine ⟨?_, fun on => ?_, fun m hm => by rw [State.chan_setChan_other _ _ _ _ hm]⟩ <;> rw [State.chan_setChan_same]
  · exact queue
  · exact active on

theorem flushed_emptied {abort : Bool} (active : abort = true → (s.chan n).active = none) : Flushed abort n s (s.emptied n) :=
  flushed_setChan rfl active

theorem flushed_enterStarved (abort : Bool) (n : Fin 16) (v : Nat) (s : State) :
    Flushed abort n s (enterStarved n v (s.emptied n)) := by
  refine ⟨?_, fun _ => ?_, fun m hm => ?_⟩
  · rw [enterStarved_chan, if_pos rfl, State.emptied, State.chan_setChan_same]
    rfl
  · rw [enterStarved_chan, if_pos rfl]
    rfl
  · rw [enterStarved_other n v _ hm, State.emptied, State.chan_setChan_other _ _ _ _ hm]

theorem flushed_flushChannel (n : Fin 16) (abort : Bool) (s : State) : Flushed abort n s (flushChannel n abort s) := by
  by_cases cut : (abort && (s.chan n).active.isSome) = true
  · rw [flushChannel_of_cut cut]
    split
    · exact (flushed_enterStarved abort n _ s).works (works_handStarved _)
    · exact flushed_setChan rfl fun _ => rfl
  · have whole := Bool.eq_false_iff.mpr cut
    have idle (on : abort = true) : (s.chan n).active = none := by simpa [on] using whole
    by_cases dry : (s.chan n).state = .starved ∧ (s.chan n).queue ≠ []
    · rw [flushChannel_of_dry whole dry.1 dry.2]
      exact (flushed_emptied idle).works (works_drainedTest _)
    · rw [flushChannel_of_plain whole dry]
      split
      · rw [starveAtStart_emptied]
        have set : Flushed abort n s (s.setChan n { s.chan n with
            queue := [], active := none, state := .starved, held := some (if n.val < 12 then (s.chan n).restCode else 0) }) :=
          flushed_setChan rfl fun _ => rfl
        exact ⟨set.queue, set.active, set.others⟩
      · exact flushed_emptied idle

/-- The answer to a STREAM channel's flush. -/
theorem exec_segmentFlush_stream {f : Nat} (hf : f < 2) (mode : (s.chan n).mode = .stream) (h : flushChannel n (decide (f = 1)) s = t) :
    exec (.segmentFlush n.val f) s = .next (answered 0x35 .ok
      (le 1 (s.chan n).queue.length ++ [if decide (f = 1) && (s.chan n).active.isSome then 1 else 0]) t) := by
  rw [exec_segmentFlush]
  refine next_answered ?_ nofun nofun
  rw [reqSegmentFlush_of_stream hf mode, h]

/-- Settles O23: the queue is emptied, then an entry into STARVED or a drained test as the channel's state calls for. -/
theorem segmentFlushEmptiesTheQueue : Obligations.SegmentFlushEmptiesTheQueue := by
  refine ⟨fun n f s bad => ?_, fun n f s hf => ?_⟩
  · rw [exec_segmentFlush]
    exact next_answered (reqSegmentFlush_of_bad bad) nofun nofun
  intro c cut body emptied starved under drains awaits rest entered ends
  refine ⟨fun other => ?_, fun mode => ?_⟩
  · rw [exec_segmentFlush]
    exact next_answered (reqSegmentFlush_of_other hf other) nofun nofun
  have taken {t : State} (h : flushChannel n (decide (f = 1)) s = t) :
      exec (.segmentFlush n.val f) s = .next (answered 0x35 .ok body t) := exec_segmentFlush_stream hf mode h
  have other (m : Fin 16) (hm : m ≠ n) : (s.emptied n).chan m = s.chan m := State.chan_setChan_other _ _ _ _ hm
  have own : (s.emptied n).chan n = { c with queue := [] } := State.chan_setChan_same _ _ _
  have discarded (on : cut = true) (run : s.inRun = true) :
      flushChannel n (decide (f = 1)) s = handStarved (enterStarved n c.source (s.emptied n)) :=
    (flushChannel_of_cut on).trans (if_pos run)
  have cases' := handStarved_cases (s := s) (t := enterStarved n c.source (s.emptied n)) (n := n)
    (by rw [enterStarved_chan, if_pos rfl]; rfl) (by rw [enterStarved_chan, if_pos rfl, own]; rfl)
    (fun m hm => (enterStarved_other n _ _ hm).trans (other m hm)) (enterStarved_run n _ _) (enterStarved_rot n _ _)
  dsimp only at cases'
  obtain ⟨goes, underruns, drained⟩ := cases'
  have closes {t u : State} {r : EndReason} (h : Closed r t u) (e : flushChannel n (decide (f = 1)) s = u)
      (noted : cut = true → c.cause = .starved → t.noted n) (others : ∀ m, m ≠ n → t.chan m = s.chan m) : ends r :=
    ⟨_, taken e, h.state, h.reason, h.raised, h.stopped n, fun on cause => h.notes n (noted on cause),
      fun m hm dry cause => (h.dry m ((others m hm).symm ▸ dry) ((others m hm).symm ▸ cause)).2⟩
  have noted (cause : c.cause = .starved) : (enterStarved n c.source (s.emptied n)).noted n :=
    noted_enterStarved _ (by rw [own]; exact cause)
  have others (m : Fin 16) (hm : m ≠ n) : (enterStarved n c.source (s.emptied n)).chan m = s.chan m :=
    (enterStarved_other n _ _ hm).trans (other m hm)
  have dry (state : c.state = .starved) : (s.emptied n).drainedNow = true ↔
      s.run.config.endOnDrain = true ∧ s.inRun = true ∧ s.rot.drained = true ∧ OthersDry s n := by
    rw [drainedNow_iff, dry_iff_others (s := s) (by rw [own]; exact state) (by rw [own]) other]
    rfl
  refine ⟨fun whole stays waits => taken ?_, fun waits => taken ?_, fun on still => taken ?_, fun on run over' stays => taken ?_,
    fun on now => ?_, fun now calm => ?_, ?_⟩
  · by_cases wet : c.state = .starved ∧ c.queue ≠ []
    · rw [flushChannel_of_dry whole wet.1 wet.2, drainedTest, if_neg]
      · rfl
      · intro now
        obtain ⟨config, run, empty, dries⟩ := (dry wet.1).mp now
        exact stays ⟨config, run, empty, dries, .inr wet⟩
    · rw [flushChannel_of_plain whole wet, if_neg]
      · rfl
      · rw [awaitsFlush_emptied, awaitsFlush_iff]
        exact waits
  · obtain ⟨run, begun, enable, state, active⟩ := waits
    have whole : (decide (f = 1) && c.active.isSome) = false := by simp [active]
    have plain : ¬ (c.state = .starved ∧ c.queue ≠ []) := fun ⟨e, _⟩ => nomatch state.symm.trans e
    rw [flushChannel_of_plain whole plain, awaitsFlush_emptied, if_pos (awaitsFlush_iff.mpr ⟨run, begun, enable, state, active⟩),
      starveAtStart_emptied, show (none : Option ActiveSeg) = c.active from active.symm]
  · rw [flushChannel_of_cut on, still]
    rfl
  · rw [discarded on run, goes over' fun ⟨config, run, empty, dries⟩ => stays ⟨config, run, empty, dries, .inl on⟩,
      enterStarved_eq, State.emptied, State.chan_setChan_same, State.setChan_setChan_same]
    rfl
  · exact closes (underruns now) (discarded on (inRun_of_running now.2)) (fun _ => noted) others
  · obtain ⟨config, run, empty, dries, kind⟩ := now
    by_cases on : cut = true
    · exact closes (drained ⟨config, run, empty, dries⟩ (calm.resolve_left fun e => nomatch on.symm.trans e)) (discarded on run)
        (fun _ => noted) others
    · have wet := kind.resolve_left on
      have whole : (decide (f = 1) && c.active.isSome) = false := Bool.eq_false_iff.mpr on
      exact closes (drainedTest_closed ((dry wet.1).mpr ⟨config, run, empty, dries⟩)) (flushChannel_of_dry whole wet.1 wet.2)
        (fun e => absurd e on) other
  · have flushed := flushed_flushChannel n (decide (f = 1)) s
    have still : (flushChannel n (decide (f = 1)) s).still = s.still := still_flushChannel ..
    refine ⟨_, (exec_segmentFlush ..).trans (congrArg _ (congrArg _ (reqSegmentFlush_of_stream hf mode))), ?_⟩
    generalize flushChannel n (decide (f = 1)) s = t at flushed still
    exact ⟨flushed.queue, fun on => flushed.active (decide_eq_true on), (State.still_trace still : t.trace = s.trace),
      (State.still_cap still : t.cap = s.cap), flushed.others, respond_ok_link still⟩

end Sys2Proof.Machine
end

section
/-! PROOFS. CONN_SENSE: the debounce, the accepted connection, and the disconnect shutdown: O48. -/

namespace Sys2Proof.Machine

open Sys2Proof.Safety

variable {s t v : State} {k : Fin 32} {e : RelayEntry} {u : Nat}

/-! ### The microsecond of the last completion stands at a run's end (R158) -/

theorem completed_relayGrant (s : State) : (relayGrant s).pins.completed = s.pins.completed :=
  (congrArg (fun w : State => w.pins.completed) (relayGrant_frame s) :)

theorem completed_reopenGrant (s : State) : (reopenGrant s).pins.completed = s.pins.completed :=
  (congrArg (fun w : State => w.pins.completed) (reopenGrant_frame s) :)

theorem completed_handRelay (e : RelayEntry) (s : State) : (handRelay e s).pins.completed = s.pins.completed :=
  (congrArg (fun w : State => w.pins.completed) (handRelay_frame e s) :)

theorem completed_takeAway (a : Action) (s : State) : (takeAway a s).pins.completed = s.pins.completed := by
  cases a with
  | battDrop | ignDrop => exact congrArg PinMatrix.completed (settleFeeds_pins _)
  | _ => rfl

theorem completed_handRelease (k : Fin 32) (s : State) : (handRelease k s).pins.completed = s.pins.completed := by
  unfold handRelease
  split
  · rw [releaseDone_pins]
  · split
    · exact completed_handRelay ..
    · rw [releaseDone_pins, completed_takeAway]

/-- The microsecond of the last completion is the same. -/
def Recalls (s t : State) : Prop := t.pins.completed = s.pins.completed

theorem Recalls.trans (h : Recalls s t) (h' : Recalls t v) : Recalls s v := Eq.trans h' h

theorem recalls_closeWait (k : Fin 32) (s : State) : Recalls s (closeWait k s) := by
  unfold Recalls closeWait
  exact forEach_view (fun s : State => s.pins.completed) _ _ (fun p _ s => by split <;> rfl) s

theorem recalls_returnSlot (o : SlotOutcome) (k : Fin 32) (s : State) : Recalls s (returnSlot o k s) :=
  returnSlot_of_steps (R := Recalls) o k s (fun _ => rfl) (fun _ _ _ => Recalls.trans) (fun _ _ _ => rfl)
    (fun s => congrArg PinMatrix.completed (clearHolders_pins k s)) (recalls_closeWait k) (fun _ => rfl)
    fun _ _ _ _ => completed_handRelease ..

theorem completed_returnSlots (s : State) : (returnSlots s).pins.completed = s.pins.completed := by
  have answered : Recalls s (answering s) := by
    rcases answering_cases s with ⟨e, -, -, -, -, eq⟩ | ⟨-, eq⟩ | ⟨-, -, eq⟩ <;> rw [eq]
    · exact recalls_returnSlot ..
    · exact completed_reopenGrant s
    · exact Eq.refl s.pins.completed
  have all : Recalls s (allAnswered s) :=
    forEach_keeps (Recalls s) allSlots (returnSlot .runEnded) (fun k _ t ht => ht.trans (recalls_returnSlot .runEnded k t)) _ answered
  by_cases h : Reopened s
  · rw [returnSlots_reopened h, completed_relayGrant]
    exact all
  · rw [returnSlots_not_reopened h]
    exact all

/-! ### Whether a transition is in flight (R158, log entry 17) -/

theorem relayBusy_of_idle (h : ∀ e u, s.pins.drive ≠ .busy e u) : s.relayBusy = false := by
  unfold State.relayBusy
  split
  · next e u busy => exact absurd busy (h e u)
  · rfl
  · rfl

theorem relayBusy_of_busy (h : s.pins.drive = .busy e u) :
    s.relayBusy = true ↔ u ≠ s.uptime ∨ (s.grantOpen = false ∧ s.pins.completed ≠ some s.uptime) := by
  unfold State.relayBusy
  rw [h]
  simp

/-- A drive that has granted in this microsecond alone, and whose choice is open, has nothing in flight. -/
theorem relayBusy_of_open (h : s.grantOpen = true) : s.relayBusy = false := by
  obtain ⟨e, busy, -⟩ := grantOpen_iff.mp h
  refine Bool.eq_false_iff.mpr fun on => ?_
  rcases (relayBusy_of_busy busy).mp on with other | ⟨closed, -⟩
  · exact other rfl
  · exact nomatch h.symm.trans closed

theorem not_reopened_of_closed (h : s.grantOpen = false) : ¬ Reopened s := fun reopened =>
  nomatch (reopened_iff.mp reopened).1.symm.trans h

/-- Where the choice is closed, the drive stands and stays closed. -/
theorem returnSlots_closed (h : (answering s).grantOpen = false) (shut : ¬ Reopened s) :
    (returnSlots s).grantOpen = false ∧ (returnSlots s).pins.drive = (answering s).pins.drive := by
  rw [returnSlots_not_reopened shut]
  exact (lets_allAnswered s).2 h

theorem answering_of_no_grant (h : ∀ e, s.pins.drive ≠ .busy e s.uptime) : answering s = s := by
  rcases answering_cases s with ⟨e, busy, -⟩ | ⟨reopened, -⟩ | ⟨-, -, eq⟩
  · exact absurd busy (h e)
  · obtain ⟨e, busy, -⟩ := reopened
    exact absurd busy (h e)
  · exact eq

theorem returnSlots_of_no_grant (h : ∀ e, s.pins.drive ≠ .busy e s.uptime) :
    (returnSlots s).grantOpen = false ∧ (returnSlots s).pins.drive = s.pins.drive := by
  have same := answering_of_no_grant h
  have closed : s.grantOpen = false := grantOpen_eq_false fun e busy => absurd busy (h e)
  have kept := returnSlots_closed (s := s) (same.symm ▸ closed) (not_reopened_of_closed closed)
  rwa [same] at kept

/-- At a run's end the drive is reopened to a release where a release is in it. -/
theorem returnSlots_release (busy : s.pins.drive = .busy e s.uptime) (kind : e.kind = .release) : (returnSlots s).relayBusy = false := by
  have waits := (frees_returnSlots s).releases e kind (.inr busy)
  have uptime := (frees_returnSlots s).uptime
  rcases returnSlots_chooses ⟨e, busy, .inl kind⟩ with ⟨free, -⟩ | ⟨f, chosen, -, first⟩
  · exact relayBusy_of_idle fun e u h => nomatch free.symm.trans h
  · have mem : e ∈ f :: (returnSlots s).pins.waitList := by
      rcases waits with listed | granted
      · exact List.mem_cons_of_mem _ listed
      · rw [uptime] at granted
        obtain ⟨rfl, -⟩ := Drive.busy.inj (chosen.symm.trans granted)
        exact List.mem_cons_self
    exact relayBusy_of_open (grantOpen_iff.mpr ⟨f, uptime ▸ chosen, .inl ((first e mem).1 kind)⟩)

/-- At a run's end no APPLY of a slot that still waits is chosen anew. -/
theorem returnSlots_apply (law : HolderLaw s) (busy : s.pins.drive = .busy e s.uptime)
    (since : e.since ≠ s.uptime) (rep : (s.slot e.slot).releaseEnd = .rep) : (returnSlots s).relayBusy = false := by
  have reopened : Reopened s := ⟨e, busy, .inr ⟨rep, since⟩⟩
  have frees := frees_returnSlots s
  have uptime := frees.uptime
  rcases returnSlots_chooses reopened with ⟨free, -⟩ | ⟨f, chosen, -⟩
  · exact relayBusy_of_idle fun e u h => nomatch free.symm.trans h
  · have mem : f ∈ transitions (returnSlots s) := by
      rw [transitions_of_busy chosen]
      exact .head _
    refine relayBusy_of_open (grantOpen_iff.mpr ⟨f, uptime ▸ chosen, .inl ?_⟩)
    rcases frees.entries f mem with before | ⟨release, -⟩
    · by_contra apply'
      have apply' : f.kind = .apply := by cases h : f.kind with
        | apply => rfl
        | release => exact absurd h apply'
      have pending : (s.slot f.slot).state = .pending := by
        have entry := (law.2.2.2.1 f before).1
        rwa [apply'] at entry
      have grounded : s.inFlight f.slot = false ∨ (s.slot f.slot).releaseEnd = .rep ∧ Reopened s := by
        by_cases own : e.slot = f.slot
        · exact .inr ⟨own ▸ rep, reopened⟩
        · refine .inl (Bool.eq_false_iff.mpr fun flies => ?_)
          obtain ⟨g, x, busy', same⟩ := inFlight_iff.mp flies
          obtain ⟨rfl, -⟩ := Drive.busy.inj (busy.symm.trans busy')
          exact own same
      obtain ⟨-, -, -, withdrawn, -⟩ := answers_returnSlots law f.slot
      exact (withdrawn pending grounded).2.2 f mem rfl
    · exact release

/-- At a run's end an APPLY handed over and granted in the run's last microsecond has started (R134). -/
theorem returnSlots_started (busy : s.pins.drive = .busy e s.uptime) (kind : e.kind = .apply) (since : e.since = s.uptime)
    (state : (s.slot e.slot).state = .pending) :
    (returnSlots s).grantOpen = false ∧ (returnSlots s).pins.drive = s.pins.drive := by
  have eq := answering_of_started busy since kind
  have shut : ¬ Reopened s := fun reopened => by
    have started := applyStarted_iff.mpr ⟨e, busy, since, kind⟩
    exact nomatch started.symm.trans (reopened_iff.mp reopened).2
  rw [returnSlot_in_flight state (inFlight_iff.mpr ⟨e, _, busy, rfl⟩)] at eq
  have closed : (answering s).grantOpen = false := by
    rw [eq]
    exact closed_of_marked (e := e) busy kind (by rw [State.slot_setSlot_same]; exact markedEnd_load _)
  have kept := returnSlots_closed closed shut
  rw [eq] at kept
  exact kept

theorem relayBusy_returnSlots_of_idle (h : ∀ e u, s.pins.drive ≠ .busy e u) : (returnSlots s).relayBusy = false :=
  relayBusy_of_idle fun e u busy => h e u ((returnSlots_of_no_grant fun e => h e _).2.symm.trans busy)

theorem relayBusy_returnSlots_of_earlier (busy : s.pins.drive = .busy e u) (earlier : u ≠ s.uptime) : (returnSlots s).relayBusy = true := by
  have stands := (returnSlots_of_no_grant fun f now => earlier (Drive.busy.inj (busy.symm.trans now)).2).2
  refine (relayBusy_of_busy (stands.trans busy)).mpr (.inl ?_)
  rw [(frees_returnSlots s).uptime]
  exact earlier

theorem relayBusy_returnSlots_of_completed (busy : s.pins.drive = .busy e s.uptime) (completed : s.pins.completed = some s.uptime) :
    (returnSlots s).relayBusy = false := by
  have frees := frees_returnSlots s
  refine Bool.eq_false_iff.mpr fun on => ?_
  by_cases some_busy : ∃ f x, (returnSlots s).pins.drive = .busy f x
  · obtain ⟨f, x, now⟩ := some_busy
    have fresh : x = s.uptime := (frees.drive f x now).elim id fun same =>
      (Drive.busy.inj (now.symm.trans (same.trans busy))).2
    rcases (relayBusy_of_busy now).mp on with other | ⟨-, other⟩
    · exact other (fresh.trans frees.uptime.symm)
    · exact other ((completed_returnSlots s).trans (completed.trans (congrArg some frees.uptime.symm)))
  · rw [relayBusy_of_idle fun f x now => some_busy ⟨f, x, now⟩] at on
    cases on

theorem relayBusy_returnSlots_of_started (busy : s.pins.drive = .busy e s.uptime) (kind : e.kind = .apply) (since : e.since = s.uptime)
    (state : (s.slot e.slot).state = .pending) (completed : s.pins.completed ≠ some s.uptime) : (returnSlots s).relayBusy = true := by
  obtain ⟨closed, stands⟩ := returnSlots_started busy kind since state
  refine (relayBusy_of_busy (stands.trans busy)).mpr (.inr ⟨closed, ?_⟩)
  rw [completed_returnSlots, (frees_returnSlots s).uptime]
  exact completed

/-! ### The reading of CONN_SENSE (R166) -/

/-- The state after a reading of the pin. -/
def State.wired (s : State) (pin : Bool) (c : ConnState) : State :=
  { s with sup := { s.sup with connPin := pin, conn := c, sensed := true } }

theorem senseChange_of_sensed (h : s.sup.sensed = true) (pin : Bool) :
    senseChange pin s = { s with sup := { s.sup with connPin := pin } } := if_pos h

theorem senseChange_of_unsensed (h : s.sup.sensed = false) (pin : Bool) :
    senseChange pin s = readSense { s with sup := { s.sup with connPin := pin } } := if_neg (Bool.eq_false_iff.mp h)

theorem senseChange_disconnected (h : s.sup.sensed = false) (conn : s.sup.conn = .disconnected) (pin : Bool) :
    senseChange pin s = s.wired pin (if pin then .disconnected else .debouncing s.uptime) := by
  rw [senseChange_of_unsensed h]
  unfold readSense
  dsimp only
  rw [conn]
  cases pin
  · rfl
  · rfl

theorem senseChange_debouncing {w : Nat} (h : s.sup.sensed = false) (conn : s.sup.conn = .debouncing w) (pin : Bool) :
    senseChange pin s = s.wired pin (if pin then .disconnected else .debouncing w) := by
  rw [senseChange_of_unsensed h]
  unfold readSense
  dsimp only
  rw [conn]
  cases pin
  · rfl
  · rfl

/-- The connection is found open: DISCONNECTED, with SUPPLY raised. -/
def State.opened (s : State) : State := raise .supply (s.wired true .disconnected)

theorem senseChange_connected (h : s.sup.sensed = false) (conn : s.sup.conn = .connected) :
    senseChange false s = s.wired false .connected ∧ senseChange true s =
      if (disconnectCause s.opened).sup.mode = .auto then
        if (disconnectCause s.opened).relayBusy then
          { disconnectCause s.opened with sup := { (disconnectCause s.opened).sup with shutdown := .driver } }
        else driverStage (disconnectCause s.opened)
      else disconnectCause s.opened := by
  constructor <;> rw [senseChange_of_unsensed h] <;> unfold readSense <;> dsimp only <;> rw [conn]
  · rfl
  · rfl

/-! ### The accepted connection (R166, R167) -/

theorem connectDue_of_not_debouncing (h : ∀ w, s.sup.conn ≠ .debouncing w) : s.connectDue = false := by
  unfold State.connectDue
  split
  · next w conn => exact absurd conn (h w)
  · rfl
  · rfl

theorem connectDue_iff {w : Nat} (h : s.sup.conn = .debouncing w) :
    s.connectDue = true ↔ (s.sup.sensed = true ∨ s.sup.connPin = false) ∧ w + 40000 ≤ s.uptime := by
  unfold State.connectDue
  rw [h]
  simp only [State.reached, Bool.and_eq_true, Bool.or_eq_true, Bool.not_eq_true', decide_eq_true_eq]
  rfl

theorem raise_raise (k : NoticeKind) (s : State) : raise k (raise k s) = raise k s := by
  simp [raise, BitVec.or_assoc]

/-- The supply as an accepted connection in AUTO commands it, before the feeds follow (R167). -/
def Supply.allOn (u : Supply) (now : Nat) : Supply := { u.command true true now with drvReq := true }

theorem allOn_eq {u : Supply} {now : Nat} (h : u.waitStart.isSome = (u.battCmd && u.ignCmd))
    (done : u.waitDone = true → u.waitStart.isSome = true) : u.allOn now = { u with
      battCmd := true, ignCmd := true, drvReq := true
      waitStart := if u.battCmd && u.ignCmd then u.waitStart else some now
      waitDone := (u.battCmd && u.ignCmd) && u.waitDone } := by
  have start : (u.command true true now).waitStart = if u.battCmd && u.ignCmd then u.waitStart else some now :=
    command_waitStart h
  have stood : (u.command true true now).waitDone = ((u.battCmd && u.ignCmd) && u.waitDone) := command_waitDone h done
  rw [← start, ← stood]
  rfl

theorem connectionAccepted_of_not (h : s.connectDue = false) : connectionAccepted s = s := if_neg (Bool.eq_false_iff.mp h)

theorem connectionAccepted_of (h : s.connectDue = true) : connectionAccepted s =
    if s.sup.mode = .auto then commandFeeds true true true (raise .supply (s.wired s.sup.connPin .connected))
    else raise .supply (s.wired s.sup.connPin .connected) := if_pos h

/-- The feeds and drivers after a connection accepted in AUTO (R161 to R163, R167). -/
theorem accepted_sup (law : SupplyLaw s) :
    let t := commandFeeds true true true (raise .supply (s.wired s.sup.connPin .connected))
    t.sup.conn = .connected ∧ t.sup.sensed = true ∧ t.sup.connPin = s.sup.connPin
      ∧ t.sup.battCmd = true ∧ t.sup.ignCmd = true ∧ t.sup.drvReq = true ∧ t.sup.battAct = !s.sup.battDrop
      ∧ (s.sup.battCmd = true → s.sup.ignCmd = true → t.sup.waitStart = s.sup.waitStart ∧ t.sup.waitDone = s.sup.waitDone)
      ∧ (s.sup.battCmd = false ∨ s.sup.ignCmd = false →
          t.sup.waitStart = some s.uptime ∧ t.sup.waitDone = false ∧ t.sup.ignAct = false)
      ∧ (s.sup.driver = .off → s.sup.battDrop = false → t.sup.driver = .wakeWait s.uptime)
      ∧ (s.sup.driver ≠ .off → t.sup.driver = s.sup.driver) := by
  obtain ⟨battery, -, drivers, wait, done, -⟩ := law
  intro t
  let u := (s.wired s.sup.connPin .connected).sup.allOn s.uptime
  have written : u = { s.sup with
      conn := .connected, sensed := true, battCmd := true, ignCmd := true, drvReq := true
      waitStart := if s.sup.battCmd && s.sup.ignCmd then s.sup.waitStart else some s.uptime
      waitDone := (s.sup.battCmd && s.sup.ignCmd) && s.sup.waitDone } := allOn_eq wait done
  have sup : t.sup = u.settled s.uptime := settleFeeds_sup _
  have batt : u.battery = !s.sup.battDrop := by rw [written]; rfl
  have off (h : s.sup.battCmd = false ∨ s.sup.ignCmd = false) : (s.sup.battCmd && s.sup.ignCmd) = false := by
    rcases h with h | h <;> simp [h]
  have next : u.nextDriver s.uptime =
      if !s.sup.battDrop then (if s.sup.driver = .off then .wakeWait s.uptime else s.sup.driver) else .off := by
    unfold Supply.nextDriver
    rw [batt, written, Bool.and_true]
  have settled : u.settled s.uptime =
      { u with battAct := u.battery, ignAct := u.ignition, driver := u.nextDriver s.uptime } := rfl
  rw [sup, settled]
  refine ⟨?_, ?_, ?_, ?_, ?_, ?_, batt, fun b i => ?_, fun h => ?_, fun idle stands => ?_, fun works => ?_⟩
  all_goals dsimp only
  iterate 6 rw [written]
  · rw [written, b, i]
    exact ⟨rfl, rfl⟩
  · refine ⟨?_, ?_, ?_⟩
    · rw [written, off h]
      rfl
    · rw [written, off h]
      rfl
    · unfold Supply.ignition
      rw [written, off h]
      exact Bool.and_false _
  · rw [next, stands, idle]
    rfl
  · have on := (drivers.mp works).1
    rw [battery] at on
    have stands : s.sup.battDrop = false := by simpa using (Bool.and_eq_true_iff.mp on).2
    rw [next, stands, if_neg works]
    rfl

theorem accepted_rest (s : State) :
    let t := commandFeeds true true true (raise .supply (s.wired s.sup.connPin .connected))
    t.ntc = (raise .supply s).ntc ∧ { t with sup := s.sup, ntc := s.ntc } = s := by
  intro t
  have rest := settleFeeds_rest { raise .supply (s.wired s.sup.connPin .connected) with
    sup := (s.wired s.sup.connPin .connected).sup.allOn s.uptime }
  refine ⟨(settleFeeds_ntc _).trans ?_, (congrArg (fun w : State => { w with sup := s.sup, ntc := s.ntc }) rest :)⟩
  have twice : (raise .supply (raise .supply s)).ntc = (raise .supply s).ntc := congrArg State.ntc (raise_raise .supply s)
  split
  · exact twice
  · rfl

/-! ### The accepted disconnection (R42, R168) -/

theorem disconnectCause_of_between (h : between s) : disconnectCause s = s := by
  refine if_neg ?_
  rw [inRun_of_between h]
  rcases h with h | h <;> simp [h]

theorem disconnectCause_of_run (h : ¬ between s) : disconnectCause s = returnSlots (endBlocks .disconnect s) := by
  refine if_pos ?_
  unfold between at h
  cases state : s.run.state <;> simp [State.inRun, state] at h ⊢

/-- A disconnection leaves what commands the feeds and the reading as they were. -/
theorem disconnectCause_sup (s : State) : { (disconnectCause s).sup with
    battDrop := s.sup.battDrop, ignDrop := s.sup.ignDrop, battAct := s.sup.battAct, ignAct := s.sup.ignAct,
    driver := s.sup.driver } = s.sup := by
  by_cases h : between s
  · rw [disconnectCause_of_between h]
  · rw [disconnectCause_of_run h]
    have whole := (frees_returnSlots (endBlocks .disconnect s)).sup
    rw [(endBlocks_rest .disconnect s).2.2.2.2] at whole
    exact whole

/-- Whether a transition is in flight when the shutdown's driver stage is called for (R158, R169, log entry 17). -/
theorem relayBusy_disconnectCause (s : State) :
    ((∀ e u, s.pins.drive ≠ .busy e u) → (disconnectCause s).relayBusy = false)
    ∧ ∀ e u, s.pins.drive = .busy e u →
      (u ≠ s.uptime → (disconnectCause s).relayBusy = true)
      ∧ (u = s.uptime → s.pins.completed = some s.uptime → (disconnectCause s).relayBusy = false)
      ∧ (u = s.uptime → s.pins.completed ≠ some s.uptime →
        (e.kind = .release → (disconnectCause s).relayBusy = false)
        ∧ (e.kind = .apply → between s → ((disconnectCause s).relayBusy = true ↔ (s.slot e.slot).releaseEnd = .load))
        ∧ (e.kind = .apply → ¬ between s → e.since = s.uptime → (s.slot e.slot).state = .pending →
            (disconnectCause s).relayBusy = true)
        ∧ (¬ between s → e.since ≠ s.uptime → (s.slot e.slot).releaseEnd = .rep → HolderLaw s →
            (disconnectCause s).relayBusy = false)) := by
  by_cases h : between s
  · rw [disconnectCause_of_between h]
    refine ⟨relayBusy_of_idle, fun e u busy => ⟨fun earlier => (relayBusy_of_busy busy).mpr (.inl earlier), fun now done => ?_,
      fun now undone => ⟨fun release => ?_, fun apply' _ => ?_, fun _ run => absurd h run, fun run => absurd h run⟩⟩⟩
    · refine Bool.eq_false_iff.mpr fun on => ?_
      exact ((relayBusy_of_busy busy).mp on).elim (absurd now) fun other => other.2 done
    · exact relayBusy_of_open (grantOpen_iff.mpr ⟨e, now ▸ busy, .inl release⟩)
    · rw [relayBusy_of_busy busy]
      constructor
      · rintro (other | ⟨closed, -⟩)
        · exact absurd now other
        · cases ends : (s.slot e.slot).releaseEnd with
          | load => rfl
          | rep => exact nomatch closed.symm.trans (grantOpen_iff.mpr ⟨e, now ▸ busy, .inr ends⟩)
      · exact fun load => .inr ⟨closed_of_marked busy apply' load, undone⟩
  · rw [disconnectCause_of_run h]
    obtain ⟨uptime, -, faults, pins, sup⟩ := endBlocks_rest .disconnect s
    have parts := eq_with_parts uptime faults pins sup
    generalize endBlocks .disconnect s = v at *
    have slot (k : Fin 32) : v.slot k = s.slot k := by unfold State.slot; rw [faults]
    have drive {e : RelayEntry} {u : Nat} (busy : s.pins.drive = .busy e u) : v.pins.drive = .busy e u := pins ▸ busy
    refine ⟨fun idle => relayBusy_returnSlots_of_idle (pins ▸ idle), fun e u busy => ⟨fun earlier => ?_, fun now done => ?_,
      fun now undone => ⟨fun release => ?_, fun _ quiet => absurd quiet h, fun apply' _ since state => ?_,
        fun _ since ends law => ?_⟩⟩⟩
    · exact relayBusy_returnSlots_of_earlier (drive busy) (uptime ▸ earlier)
    all_goals
      have busy' : v.pins.drive = .busy e v.uptime := (drive busy).trans (by rw [now, uptime])
    · exact relayBusy_returnSlots_of_completed busy' (by rw [pins, uptime]; exact done)
    · exact returnSlots_release busy' release
    · exact relayBusy_returnSlots_of_started busy' apply' (since.trans uptime.symm) (by rw [slot]; exact state)
        (by rw [pins, uptime]; exact undone)
    · exact returnSlots_apply (by rw [parts]; exact law) busy' (by rw [uptime]; exact since) (by rw [slot]; exact ends)

/-- A stage of the shutdown after `w`: the reading, the commands and every other block stay, notices are only raised. -/
structure Staged (w t : State) : Prop where
  sup : { t.sup with drvReq := w.sup.drvReq, shutdown := w.sup.shutdown, battAct := w.sup.battAct, ignAct := w.sup.ignAct,
                     driver := w.sup.driver } = w.sup
  rest : { t with sup := w.sup, ntc := w.ntc } = w
  grows : w.ntc.Grows t.ntc

theorem Staged.refl (s : State) : Staged s s := ⟨rfl, rfl, .refl _⟩

theorem staged_waits (s : State) : Staged s { s with sup := { s.sup with shutdown := .driver } } := ⟨rfl, rfl, .refl _⟩

theorem staged_driverStage (s : State) : Staged s (driverStage s) := by
  refine ⟨?_, (congrArg (fun w : State => { w with sup := s.sup }) (settleFeeds_rest _) :), (works_settleFeeds s).grows⟩
  unfold driverStage
  rw [settleFeeds_sup]
  rfl

/-- Settles O48: the readings and the debounce by the connect-sense state, the shutdown by what the run's end leaves in
flight. -/
theorem connectSenseIsDebounced : Obligations.ConnectSenseIsDebounced := by
  intro s
  dsimp only
  refine ⟨fun sensed pin => congrArg Host.Outcome.next (senseChange_of_sensed sensed pin),
    fun conn => congrArg Host.Outcome.next (connectionAccepted_of_not (connectDue_of_not_debouncing fun w h => nomatch conn.symm.trans h)),
    fun conn fresh => ⟨congrArg Host.Outcome.next (senseChange_disconnected fresh conn false),
      congrArg Host.Outcome.next (senseChange_disconnected fresh conn true)⟩,
    fun w conn => ⟨fun fresh => ⟨congrArg Host.Outcome.next (senseChange_debouncing fresh conn true),
      congrArg Host.Outcome.next (senseChange_debouncing fresh conn false)⟩, fun early => ?_, fun passed seen => ?_⟩,
    fun conn => congrArg Host.Outcome.next (connectionAccepted_of_not (connectDue_of_not_debouncing fun w h => nomatch conn.symm.trans h)),
    fun conn fresh => ⟨congrArg Host.Outcome.next (senseChange_connected fresh conn).1, ?_⟩⟩
  · refine congrArg Host.Outcome.next (connectionAccepted_of_not (Bool.eq_false_iff.mpr fun due => ?_))
    obtain ⟨seen, passed⟩ := (connectDue_iff conn).mp due
    rcases early with early | ⟨unread, open'⟩
    · omega
    · rw [unread, open'] at seen
      simp at seen
  · have accepted := connectionAccepted_of ((connectDue_iff conn).mpr ⟨seen, passed⟩)
    refine ⟨fun manual => ?_, fun auto law => ?_⟩
    · refine congrArg Host.Outcome.next (accepted.trans (if_neg ?_))
      rw [manual]
      nofun
    · refine ⟨_, congrArg Host.Outcome.next (accepted.trans (if_pos auto)), ?_⟩
      have sup := accepted_sup law
      have rest := accepted_rest s
      generalize commandFeeds true true true (raise .supply (s.wired s.sup.connPin .connected)) = t at sup rest
      obtain ⟨conn, sensed, pin, batt, ign, request, act, both, either', idle, works⟩ := sup
      exact ⟨conn, sensed, pin, batt, ign, request, act, both, either', idle, works, rest⟩
  · refine ⟨_, congrArg Host.Outcome.next (senseChange_connected fresh conn).2, ?_⟩
    have sup := disconnectCause_sup s.opened
    have flight := relayBusy_disconnectCause s.opened
    have still : (disconnectCause s.opened).still = s.still := still_disconnectCause _
    have raised : (disconnectCause s.opened).isPending .supply = true := by
      have before : s.opened.isPending .supply = true := isPending_raise_self .supply _
      unfold disconnectCause
      split
      · exact isPending_enterEnded .disconnect before
      · exact before
    have quiet (h : between s) : disconnectCause s.opened = s.opened := disconnectCause_of_between h
    have ends (h : ¬ between s) : (disconnectCause s.opened).run.state = .ended
        ∧ (disconnectCause s.opened).run.endReason = .disconnect ∧ (disconnectCause s.opened).isPending .run = true := by
      have eq : disconnectCause s.opened = enterEnded .disconnect s.opened :=
        (disconnectCause_of_run (s := s.opened) h).trans (enterEnded_eq ..).symm
      rw [eq]
      exact ⟨(enterEnded_state _ _).1, (enterEnded_state _ _).2, isPending_run_enterEnded ..⟩
    generalize disconnectCause s.opened = w at sup flight still raised quiet ends
    have mode : w.sup.mode = s.sup.mode := (congrArg Supply.mode sup :)
    generalize result : (if w.sup.mode = .auto then
      if w.relayBusy then { w with sup := { w.sup with shutdown := .driver } } else driverStage w else w) = t
    have staged : Staged w t := by
      rw [← result]
      split
      · split
        · exact staged_waits w
        · exact staged_driverStage w
      · exact .refl w
    have reading : (t.sup.connPin, t.sup.conn, t.sup.sensed, t.sup.battCmd, t.sup.ignCmd)
        = (true, .disconnected, true, s.sup.battCmd, s.sup.ignCmd) :=
      (congrArg (fun u : Supply => (u.connPin, u.conn, u.sensed, u.battCmd, u.ignCmd)) staged.sup).trans
        (congrArg (fun u : Supply => (u.connPin, u.conn, u.sensed, u.battCmd, u.ignCmd)) sup)
    simp only [Prod.mk.injEq] at reading
    obtain ⟨pin, open', sensed, batt, ign⟩ := reading
    have block {α : Type} (f : State → α) (h : f { t with sup := w.sup, ntc := w.ntc } = f t) : f t = f w :=
      h.symm.trans (congrArg f staged.rest)
    have uptime : w.uptime = s.uptime := State.still_uptime still
    refine ⟨pin, open', sensed, staged.grows.pending _ raised,
      (block (·.trace) rfl).trans (State.still_trace still), (block (·.cap) rfl).trans (State.still_cap still),
      (block (·.link) rfl).trans (State.still_link still), batt, ign, fun h => ?_,
      fun h => ?_, fun manual => ?_, fun auto => ?_⟩
    · rw [block (·.run) rfl, block (·.rot) rfl, block (·.faults) rfl, quiet h]
      exact ⟨rfl, rfl, rfl⟩
    · obtain ⟨state, reason, pending⟩ := ends h
      rw [block (·.run) rfl]
      exact ⟨state, reason, staged.grows.pending _ pending⟩
    · rw [← result, if_neg (by rw [mode, manual]; nofun)]
      exact ⟨(congrArg Supply.drvReq sup :), (congrArg Supply.shutdown sup :)⟩
    · rw [if_pos (mode.trans auto)] at result
      have waits (h : w.relayBusy = true) : t.sup.drvReq = s.sup.drvReq ∧ t.sup.shutdown = .driver := by
        rw [← result, if_pos h]
        exact ⟨(congrArg Supply.drvReq sup :), rfl⟩
      have made (h : w.relayBusy = false) :
          t.sup.drvReq = false ∧ t.sup.driver = .off ∧ t.sup.shutdown = .feed (s.uptime + 1000) := by
        have stage := driverStage_sup w
        rw [uptime] at stage
        rw [← result, if_neg (Bool.eq_false_iff.mp h)]
        exact stage
      refine ⟨fun idle => made (flight.1 idle), fun e u busy => ?_⟩
      obtain ⟨earlier, completed, now⟩ := flight.2 e u busy
      refine ⟨fun h => waits (earlier h), fun h h' => made (completed h h'), fun h h' => ?_⟩
      obtain ⟨release, quiet', started, returns⟩ := now h h'
      refine ⟨fun kind _ => made (release kind), fun kind idle => ?_, fun kind run since state => waits (started kind run since state),
        fun kind run since rep law => made (returns run since rep law)⟩
      have same := quiet' kind idle
      split
      · next load => exact waits (same.mpr load)
      · next rep => exact made (Bool.eq_false_iff.mpr (mt same.mp rep))

end Sys2Proof.Machine
end
